-- ==== Sys2Proof/Word.lean ====
section
/-! DEFINITION. The plain data every file uses: bytes, 32-bit counts, stamps of site time, and four like things, one
for each tenant. -/

namespace Sys2Proof

/-- A byte of a message, of the image or of an air frame. -/
abbrev Byte := BitVec 8

/-- A run of bytes, lowest address or first sent first. -/
abbrev Bytes := List Byte

/-- A 32-bit wrapping count (R42, R116, R144, R200). -/
abbrev Count := BitVec 32

/-- A stamp of site time (R79): a seconds count that wraps and nanoseconds, 0 to 999,999,999. -/
structure SiteTime where
  sec : BitVec 32
  ns : Nat
  deriving DecidableEq, Repr

/-- Four like things, one for each of tenants 0 to 3 (00_scope, Tenants). -/
structure Four (α : Type) where
  t0 : α
  t1 : α
  t2 : α
  t3 : α
  deriving DecidableEq, Repr

/-- The thing of tenant `i`. -/
def Four.get {α : Type} (q : Four α) (i : Fin 4) : α :=
  match i with
  | 0 => q.t0
  | 1 => q.t1
  | 2 => q.t2
  | 3 => q.t3

/-- `q` with the thing of tenant `i` replaced. -/
def Four.set {α : Type} (q : Four α) (i : Fin 4) (x : α) : Four α :=
  match i with
  | 0 => { q with t0 := x }
  | 1 => { q with t1 := x }
  | 2 => { q with t2 := x }
  | 3 => { q with t3 := x }

/-- One thing for each tenant, computed from its number. -/
def Four.of {α : Type} (f : Fin 4 → α) : Four α := ⟨f 0, f 1, f 2, f 3⟩

/-- The four things in tenant order. -/
def Four.toList {α : Type} (q : Four α) : List α := [q.t0, q.t1, q.t2, q.t3]

/-- The sum over the four tenants. -/
def Four.total (q : Four Nat) : Nat := q.t0 + q.t1 + q.t2 + q.t3

/-- The tenant numbers in order. -/
def tenants : List (Fin 4) := [0, 1, 2, 3]

end Sys2Proof
end

