-- ==== Sys2Proof/Syntax.lean ====
section
/-! DEFINITION. The commands: one constructor for each row of spec/opcode_table.json, with the row's operands. A request
carries its tag and the fields of its body (chapter 12.6); an event carries what the outside hands over with it. -/

namespace Sys2Proof

/-- A carriage block as the modem hands it over (R34, R35): the modem's mark, the 4-byte label, the data part. -/
structure RxBlock where
  uncorrectable : Bool
  label : Bytes
  data : Bytes
  deriving DecidableEq, Repr

/-- A received frame as the modem hands it over (R23): position 0, position 1 with its mark, the 62 carriage blocks
in position order, the link margin and received level of the frame, and the site time at which the first byte of
position 0 reached the frame interface. -/
structure RxFrame where
  header : Bytes
  serviceBad : Bool
  service : Bytes
  blocks : List RxBlock
  margin : Int
  level : Int
  arrival : SiteTime
  deriving DecidableEq, Repr

/-- The settings a THERMAL_ENABLE may carry (chapter 12.6). -/
structure ThermalBody where
  low : BitVec 16
  high : BitVec 16
  polarity : Byte
  l1cap : Byte
  l2cap : Byte
  hotPolarity : Byte
  deriving DecidableEq, Repr

/-- The body of TIME_SET (chapter 12.6, R199): one presence bit for each field in body order. ASYM is signed. -/
structure TimeSetBody where
  presence : Byte
  seconds : BitVec 32
  priority : Byte
  cableDelay : BitVec 32
  ppsTol : BitVec 32
  asym : BitVec 32
  delayMax : BitVec 32
  pShift : Byte
  iShift : Byte
  deriving DecidableEq, Repr

/-- The commands of spec/opcode_table.json. -/
inductive Instr where
  /-- RESET (R1): RESET_N or power-on, with BAUD_SEL1 and BAUD_SEL0 as strapped (R190). -/
  | reset (baudSel1 baudSel0 : Bool)
  /-- RESTART (R9): the restart that an OK SITE_RESTART has asked for is taken. -/
  | restart
  /-- IDENT (R200). -/
  | ident (tag : Byte)
  /-- PHASE_GET (R10). -/
  | phaseGet (tag : Byte)
  /-- ALIGN_END (R13). -/
  | alignEnd (tag : Byte)
  /-- ALIGN_PEAK_RESET (R14). -/
  | alignPeakReset (tag : Byte)
  /-- PROVE_FORCE (R18). -/
  | proveForce (tag : Byte)
  /-- SITE_RESEEK (R7). -/
  | siteReseek (tag : Byte)
  /-- SITE_STOP (R8). -/
  | siteStop (tag : Byte)
  /-- SITE_RESTART (R9, R199): options, KEEP_TIME in the lowest bit, NO_IMAGE in the next. -/
  | siteRestart (tag options : Byte)
  /-- IMAGE_WRITE (R182). -/
  | imageWrite (tag : Byte) (offset : BitVec 16) (data : Bytes)
  /-- IMAGE_COMMIT (R183). -/
  | imageCommit (tag : Byte)
  /-- IMAGE_READ (R184). -/
  | imageRead (tag : Byte) (offset count : BitVec 16)
  /-- IMAGE_SAVE (R185). -/
  | imageSave (tag : Byte)
  /-- LINK_GET (R42). -/
  | linkGet (tag : Byte)
  /-- PROFILE_CAP (R49). -/
  | profileCap (tag value : Byte)
  /-- PROFILE_FIX (R48). -/
  | profileFix (tag value : Byte)
  /-- NOTE_SEND (R39). -/
  | noteSend (tag : Byte) (note : Bytes)
  /-- NOTE_READ (R41). -/
  | noteRead (tag : Byte)
  /-- THERMAL_GET (R61). -/
  | thermalGet (tag : Byte)
  /-- THERMAL_ENABLE (R60). -/
  | thermalEnable (tag : Byte) (settings : Option ThermalBody)
  /-- REF_GET (R77). -/
  | refGet (tag : Byte)
  /-- TIME_GET (R96). -/
  | timeGet (tag : Byte)
  /-- TIME_SET (R95). -/
  | timeSet (tag : Byte) (body : TimeSetBody)
  /-- TENANT_GET (R116). -/
  | tenantGet (tag tenant : Byte)
  /-- TENANT_SET (R101): tenant, action, and the 24-byte entry when the body carries one. -/
  | tenantSet (tag tenant action : Byte) (entry : Option Bytes)
  /-- TENANT_BAR (R106). -/
  | tenantBar (tag tenant : Byte)
  /-- TENANT_UNBAR (R106). -/
  | tenantUnbar (tag tenant : Byte)
  /-- MAP_GET (R144). -/
  | mapGet (tag : Byte)
  /-- TEST_RUN (R160). -/
  | testRun (tag index : Byte)
  /-- TEST_ABORT (R160). -/
  | testAbort (tag index : Byte)
  /-- TEST_LOG (R161). -/
  | testLog (tag : Byte)
  /-- FAULT_GET (R175). -/
  | faultGet (tag : Byte)
  /-- FAULT_ACK (R172). -/
  | faultAck (tag row : Byte)
  /-- FAULT_CLEAR (R173): bit n names row n. -/
  | faultClear (tag : Byte) (rows : BitVec 24)
  /-- FAULT_SET (R174): 24 response bytes in fault table order and the FAULT_CAP byte. -/
  | faultSet (tag : Byte) (responses : Bytes) (cap : Byte)
  /-- UNKNOWN_KIND_REQUEST (R191): a frame of that kind with an empty body. -/
  | unknownKindRequest (kind tag : Byte)
  /-- FRAME_RECEIVED (R189): bytes that arrive on UART_RX, a whole frame or more or less than one. -/
  | frameReceived (bytes : Bytes)
  /-- FRAME_TIMEOUT (R189). -/
  | frameTimeout
  /-- LINE_FRAME_SENT (R194). -/
  | lineFrameSent
  /-- ATTN_PULSE_END (R197). -/
  | attnPulseEnd
  /-- EEPROM_READ_DONE (R181): whether the device answered, and the bytes it gave from byte 0 on, up to where it
  stopped answering. -/
  | eepromReadDone (answered : Bool) (bytes : Bytes)
  /-- SAVE_DONE (R186): the number of bytes written before the write ended, and the bytes read back from byte 0 on, up to
  where the device stopped answering. -/
  | saveDone (written : Nat) (readBack : Bytes)
  /-- TX_FRAME_BUILD (R20), with CARRIAGE_HOLD as sampled for the frame (R32). -/
  | txFrameBuild (hold : Bool)
  /-- PROFILE_SWITCH_FRAME (R27). -/
  | profileSwitchFrame
  /-- MAP_SWITCH_FRAME (R134). -/
  | mapSwitchFrame
  /-- PATTERN_DURATION_END (R151). -/
  | patternDurationEnd
  /-- ALLOCATION_PERIOD_END (R115). -/
  | allocationPeriodEnd
  /-- RX_FRAME_RECEIVED (R23). -/
  | rxFrameReceived (frame : RxFrame)
  /-- RX_HEADER_MISSING (R23). -/
  | rxHeaderMissing
  /-- RX_FRAMER_UP (R24). -/
  | rxFramerUp
  /-- RX_FRAMER_DOWN (R25). -/
  | rxFramerDown
  /-- MARGIN_WINDOW_END (R45). -/
  | marginWindowEnd
  /-- ALIGN_WINDOW_END (R12). -/
  | alignWindowEnd
  /-- CHECKER_WINDOW_END (R158). -/
  | checkerWindowEnd
  /-- SITE_SECOND_CROSSING (R80); `lFirst` says that L's judgement is taken before G's (R71 leaves it open). -/
  | siteSecondCrossing (lFirst : Bool)
  /-- PPS_PULSE_END (R93). -/
  | ppsPulseEnd
  /-- GNSS_PPS_PULSE (R64): the nanoseconds-of-second of site time and the local oscillator time, in ns, of the edge. -/
  | gnssPpsPulse (ns osc : Nat)
  /-- GNSS_OK_CHANGE (R66): the new level of the line. -/
  | gnssOkChange (level : Bool)
  /-- GATE_END (R53): rising edges on TEMP_IN over the gate. -/
  | gateEnd (edges : Nat)
  /-- HOT_N_CHANGE (R58): the new level of the line. -/
  | hotNChange (level : Bool)
  /-- PORT_LINK_CHANGE (R108). -/
  | portLinkChange (tenant : Fin 4) (up : Bool)
  /-- PACKET_ARRIVAL (R111). -/
  | packetArrival (tenant : Fin 4) (packet : Bytes)
  /-- EGRESS_PACKET_TAKEN (R114). -/
  | egressPacketTaken (tenant : Fin 4)
  /-- REFIT_TIMER_EXPIRY (R102). -/
  | refitTimerExpiry (tenant : Fin 4)
  /-- RECOVER_TIMER_EXPIRY (R6). -/
  | recoverTimerExpiry
  /-- RETRY_TIMER_EXPIRY (R17). -/
  | retryTimerExpiry
  /-- GRANT_TIMER_EXPIRY (R149). -/
  | grantTimerExpiry
  /-- DRAIN_WAIT_EXPIRY (R152). -/
  | drainWaitExpiry
  /-- BYTE_ERROR (R189). -/
  | byteError
  deriving DecidableEq, Repr

end Sys2Proof
end

