-- ==== Sys2Proof/Config.lean ====
section
/-! DEFINITION. What an implementation fixes and spec/ gives no value for: constants without a body, so that nothing
can be proved of their values, and the part's numbers that spec/ does give. -/

namespace Sys2Proof.Config

/-- The silicon revision number that IDENT reports (R200). spec/ gives it no value (log 9). -/
opaque siliconRevision : BitVec 8

/-- The peer wish of a peer whose good headers have so far all carried a wish above 7: R26 keeps a previous wish,
and there is none (log 10). It stands only where such a peer record meets a scheduling check (R50). -/
opaque peerWishNoneYet : Fin 8

/-- The part number (R200). -/
def partNumber : Nat := 620

/-- The image format the part reads (R200). -/
def imageFormat : Nat := 1

/-- The saturated uncertainty U_SAT, in nanoseconds (chapter 5.2, R89). -/
def uSat : Nat := 1048560

/-- The bound of c and I, in ppt (R79, R86). -/
def ppmLimit : Int := 20000000

/-- Frame times in ten seconds, the refit delay (R102). -/
def refitFrames : Nat := 80000

/-- Frame times in twenty seconds, the recover timer (R5). -/
def recoverFrames : Nat := 160000

/-- Frame times in two seconds, the retry timer (R17). -/
def retryFrames : Nat := 16000

/-- Frame times in five seconds, the grant timer (R149). -/
def grantFrames : Nat := 40000

/-- Frames of the drain wait (R152). -/
def drainFrames : Nat := 1600

/-- Carriage blocks of a frame (chapter 2). -/
def carriageBlocks : Nat := 62

end Sys2Proof.Config
end

