-- ==== Sys2Proof/Machine/State.lean ====
section
/-! DEFINITION. The state of the part, block by block as spec/00_scope.md lists the blocks, as plain data. The default of
every field is its value after reset, with the rule that gives it; a field whose value spec/ does not give names its log
entry. A count's type is `Count` where the spec says that it is 32 bits and wraps. -/

namespace Sys2Proof.Machine

/-! ### Site Phase Controller (chapter 1) -/

/-- The site phase (chapter 1). -/
inductive Phase where
  | load | align | seek | prove | service | recover | halt
  deriving DecidableEq, Repr

/-- The cause of a phase change (R3); NONE before the first change. -/
inductive PhaseCause where
  | image | alignEnd | alignSettled | linkUp | linkDown | provePassed | proveEmpty | proveForce | recoverExpiry
  | reseekRequest | reseekResponse | stopRequest | haltResponse | none
  deriving DecidableEq, Repr

/-- The prove state (chapter 1.6); the n of ROUND n is the round number. -/
inductive ProveState where
  | idle | round | passed | failed
  deriving DecidableEq, Repr

/-- The align record (R1, R11): averages in tenths of a dBm. -/
structure AlignRecord where
  avg : Option Int := none
  peak : Option Int := none
  peakTime : Option SiteTime := none
  settle : Nat := 0
  settled : Bool := false
  deriving DecidableEq, Repr

/-- The Site Phase Controller (R1). Timers hold the frame times left. -/
structure Spc where
  phase : Phase := .load
  left : Phase := .load
  cause : PhaseCause := .none
  prove : ProveState := .idle
  roundNo : Nat := 0
  retry : Option Nat := none
  recover : Option Nat := none
  record : AlignRecord := {}
  winSlots : Nat := 0
  winSum : Int := 0
  led : Bool := false
  deriving DecidableEq, Repr

/-! ### Maps (chapter 8) -/

/-- The counts of a map: TEST and the four tenants. IDLE is 62 less the five (R132). -/
structure MapCounts where
  test : Nat := 0
  ten : Four Nat := ⟨0, 0, 0, 0⟩
  deriving DecidableEq, Repr

/-- A receive map: version and counts (R140). Version 0 with no counts is the base map. -/
structure RxMap where
  ver : Nat := 0
  counts : MapCounts := {}
  deriving DecidableEq, Repr

/-- The receive pending record (chapter 8.5): the countdown is the one the last frame read carried. -/
structure RxPendMap where
  ver : Nat
  counts : MapCounts
  count : Nat
  deriving DecidableEq, Repr

/-- The transmit map in force (R134); the base map has no profile. -/
structure TxMap where
  ver : Nat := 0
  counts : MapCounts := {}
  prof : Option Nat := none
  deriving DecidableEq, Repr

/-- The transmit pending map (chapter 8.2). `count` is the countdown the last frame built carried, or, while `carried`
is clear, the one the next frame built carries first. -/
structure TxPendMap where
  ver : Nat
  counts : MapCounts
  prof : Nat
  count : Nat
  carried : Bool
  tied : Bool
  deriving DecidableEq, Repr

/-- Why a MAP notice was queued (R143). -/
inductive MapCause where
  | announced | superseded | txInForce | txDiscarded | rxInForce | rxPending | rxCorrected | rxDown
  deriving DecidableEq, Repr

/-- What became of the newest map (R144). -/
inductive MapFate where
  | announced | equal | withheld | setAside
  deriving DecidableEq, Repr

/-! ### Link Framer (chapter 2) -/

/-- The receive framer (R24). -/
inductive RxFramer where
  | off | hunt | confirm | up | flywheel | down
  deriving DecidableEq, Repr

/-- The transmit framer (R21). -/
inductive TxFramer where
  | off | fallback | normal | halted
  deriving DecidableEq, Repr

/-- A pending transmit profile switch (R27); `count` and `carried` as in `TxPendMap`. -/
structure TxSwitch where
  target : Nat
  count : Nat
  carried : Bool
  deriving DecidableEq, Repr

/-- A pending switch of the receive profile record (R28). -/
structure RxSwitch where
  target : Nat
  count : Nat
  deriving DecidableEq, Repr

/-- The peer record of the latest good header (R25, R50): the peer's receive state as the header codes it (0 HUNT,
1 CONFIRM, 2 UP, 3 FLYWHEEL), its halted and hold flags, and the last wish taken (absent until one is, log 10). -/
structure PeerRecord where
  state : Nat
  halted : Bool
  hold : Bool
  wish : Option Nat
  deriving DecidableEq, Repr

/-- The stamps of the latest good header: its send time and its arrival time (R22). -/
structure GoodHeader where
  sent : SiteTime
  arrival : SiteTime
  deriving DecidableEq, Repr

/-- A service message (chapter 2.1) other than IDLE. -/
inductive SvcMsg where
  | testStart (id : Nat) (mask : Bytes) (blocks : Nat)
  | testReport (id checked bad window : Nat)
  | note (bytes : Bytes)
  deriving DecidableEq, Repr

/-- A note of the relay buffer (R41). -/
structure RelayNote where
  bytes : Bytes
  arrived : SiteTime
  deriving DecidableEq, Repr

/-- A carriage block as it is handed to the modem (R20, R34). -/
structure TxBlock where
  label : Bytes
  data : Bytes
  deriving DecidableEq, Repr

/-- An air frame as it is handed to the modem, with the profile of its carriage blocks (R20). -/
structure AirFrame where
  profile : Nat
  header : Bytes
  service : Bytes
  blocks : List TxBlock
  deriving DecidableEq, Repr

/-- The counts of R42. -/
structure LinkCounts where
  good : Count := 0
  bad : Count := 0
  missing : Count := 0
  malformedHeader : Count := 0
  down : Count := 0
  blocksRead : Count := 0
  mismatch : Count := 0
  uncorrectable : Count := 0
  malformedLabel : Count := 0
  discardedService : Count := 0
  deriving DecidableEq, Repr

/-- The counts of R144. -/
structure MapStats where
  announced : Count := 0
  superseded : Count := 0
  tied : Count := 0
  withheld : Count := 0
  setAside : Count := 0
  discarded : Count := 0
  rxTaken : Count := 0
  corrections : Count := 0
  deriving DecidableEq, Repr

/-- The receive side of the Link Framer. `upDue` holds an entry to UP that RX_FRAMER_UP has still to hand to the other
blocks, and whether it came from CONFIRM (log 6). -/
structure LfrRx where
  framer : RxFramer := .off
  run : Nat := 0
  upDue : Option Bool := none
  frameNo : BitVec 16 := 0
  prof : Nat := 0
  pend : Option RxSwitch := none
  map : RxMap := {}
  mpend : Option RxPendMap := none
  peer : Option PeerRecord := none
  lastGood : Option GoodHeader := none
  secMismatch : Nat := 0
  relay : List RelayNote := []
  relayLost : Nat := 0
  deriving DecidableEq, Repr

/-- The transmit side of the Link Framer. `switching`: the next frame built is the first at a new profile (R50). `due`: a
frame time has passed since the last frame built (log 2). `periodDue`: an allocation period has ended whose demand
ALLOCATION_PERIOD_END has still to take (log 6). `haltDue`: HALTED has been entered, and the next frame built discards
the profile, the switch and the maps (R21, R139). `fallback` and `hold` are clear at reset
and at restart: DESIGN CHOICE (log 44). -/
structure LfrTx where
  framer : TxFramer := .off
  frameNo : BitVec 16 := 0
  prof : Nat := 0
  pend : Option TxSwitch := none
  switching : Bool := false
  map : TxMap := {}
  mpend : Option TxPendMap := none
  lastVer : Nat := 0
  fallback : Bool := false
  hold : Bool := false
  svc : List SvcMsg := []
  out : Option AirFrame := none
  due : Bool := false
  periodDue : Bool := false
  haltDue : Bool := false
  deriving DecidableEq, Repr

/-- The Link Framer. -/
structure Lfr where
  rx : LfrRx := {}
  tx : LfrTx := {}
  mapCause : MapCause := .announced
  fate : Option MapFate := none
  counts : LinkCounts := {}
  mcounts : MapStats := {}
  deriving DecidableEq, Repr

/-! ### Link Adaptation Unit and Thermal Limiter (chapter 3) -/

/-- The default up thresholds, U_p = 60 + 35p (chapter 3.1). -/
def defaultUp : List Nat := [60, 95, 130, 165, 200, 235, 270, 305]

/-- The default down thresholds, D_p = U_p - 15 (chapter 3.1). -/
def defaultDown : List Nat := [45, 80, 115, 150, 185, 220, 255, 290]

/-- The Link Adaptation Unit (R52). -/
structure Lau where
  up : List Nat := defaultUp
  down : List Nat := defaultDown
  winOn : Bool := false
  winSlots : Nat := 0
  winSum : Nat := 0
  upStreak : Nat := 0
  floorStreak : Nat := 0
  wish : Nat := 0
  fix : Option Nat := none
  hostCap : Nat := 7
  ceiling : Nat := 7
  deriving DecidableEq, Repr

/-- The thermal settings (R54). -/
structure ThermalSet where
  low : Nat := 4000
  high : Nat := 6000
  falling : Bool := false
  l1cap : Nat := 5
  l2cap : Nat := 2
  hotHigh : Bool := false
  deriving DecidableEq, Repr

/-- The Thermal Limiter (R62). `last3` holds the validity of the last three gates, the newest first. `coolHigh` is the
highest range of the cool-down streak; DESIGN CHOICE (log 45): 0 at reset and while the streak is 0. -/
structure Tlm where
  set : ThermalSet := {}
  enabled : Bool := false
  locked : Bool := false
  gateCount : Nat := 0
  last3 : Bool × Bool × Bool := (false, false, false)
  range : Option Nat := none
  sensor : Nat := 0
  cool : Nat := 0
  coolHigh : Nat := 0
  invalid : Nat := 0
  valid : Nat := 0
  failSafe : Bool := false
  hotHold : Nat := 0
  hotRelease : Nat := 0
  gateHot : Bool := false
  level : Nat := 0
  deriving DecidableEq, Repr

/-! ### Reference Monitor (chapter 4) -/

/-- The two references: the GNSS pulse and the link time marks. -/
inductive Ref where
  | g | l
  deriving DecidableEq, Repr

/-- The reference priority (chapter 4). -/
inductive Priority where
  | gThenL | lThenG | gOnly | lOnly
  deriving DecidableEq, Repr

/-- The Reference Monitor's settings (chapter 4). `gnssLow`: GNSS_OK is active low. -/
structure RefSet where
  priority : Priority := .gThenL
  gnssLow : Bool := false
  cable : Nat := 0
  ppsTol : Nat := 1000
  asym : Int := 0
  delayMax : Nat := 100000
  deriving DecidableEq, Repr

/-- A reference's state without its parameters (chapter 4.4). -/
inductive RefMode where
  | disabled | down | probation | up
  deriving DecidableEq, Repr

/-- A reference: state, probation count k, bad-second streak, wait-to-restore timer (R71, R73). -/
structure RefState where
  mode : RefMode := .down
  k : Nat := 0
  streak : Nat := 0
  wait : Option Nat := none
  deriving DecidableEq, Repr

/-- A judgement of a second. -/
inductive Verdict where
  | good | bad | neutral
  deriving DecidableEq, Repr

/-- The reason of a bad second, in the order of R65 and R69. -/
inductive BadReason where
  | noPulse | extraPulse | qualifier | interval | framer | peerQuality | fewMarks
  deriving DecidableEq, Repr

/-- A pulse window (R64): pulses counted, the stamps of the latest, whether GNSS_OK covered it so far, whether site
time was stepped inside it, and the settings it opened with (R63). -/
structure PulseWindow where
  pulses : Nat := 0
  ns : Nat := 0
  osc : Nat := 0
  covered : Bool
  stepped : Bool := false
  cable : Nat
  ppsTol : Nat
  deriving DecidableEq, Repr

/-- The last G judgement (R65). -/
structure GJudgement where
  verdict : Verdict
  reason : Option BadReason
  pulses : Nat
  e : Option Int
  deriving DecidableEq, Repr

/-- A mark's figures (R67, R68). -/
structure Mark where
  d : Int
  o : Int
  e : Int
  deriving DecidableEq, Repr

/-- The last L judgement (R69). -/
structure LJudgement where
  verdict : Verdict
  reason : Option BadReason
  accepted : Nat
  refQuality : Nat
  refDelay : Nat
  refStep : Nat
  best : Option Mark
  deriving DecidableEq, Repr

/-- What the Reference Monitor keeps of a site second for L (R68, R69). `start`: site time as the second began.
`judged`: the second is judged when it ends (it began after the phase left LOAD and with L named by the priority). -/
structure LSecond where
  start : SiteTime := ⟨0, 0⟩
  judged : Bool := false
  framerOk : Bool := false
  headers : Nat := 0
  allTrack : Bool := true
  accepted : Nat := 0
  refQuality : Nat := 0
  refDelay : Nat := 0
  refStep : Nat := 0
  best : Option Mark := none
  deriving DecidableEq, Repr

/-- The Reference Monitor (R78). `win` is the window of the boundary last crossed, `nextWin` that of the next one,
`winClosed` says that `win` has closed in the present second (log 11). `nextSec` keeps what headers bring for the coming
second whose frames are handed over before its crossing is (R67; log 40). `disturb` holds the boundaries at which site time
was stepped or set, the latest first, and `overlap` the send times since the latest that an older header may have too (R68;
log 7). -/
structure Rfm where
  set : RefSet := {}
  g : RefState := {}
  l : RefState := {}
  sel : Option Ref := none
  win : Option PulseWindow := none
  nextWin : Option PulseWindow := none
  winClosed : Bool := false
  prevPulse : Option Nat := none
  lastG : Option GJudgement := none
  lastL : Option LJudgement := none
  sec : LSecond := {}
  nextSec : LSecond := {}
  disturb : List SiteTime := []
  overlap : List SiteTime := []
  deriving DecidableEq, Repr

/-! ### Discipline Unit (chapter 5) -/

/-- The loop state (chapter 5.2). -/
inductive LoopState where
  | free | acquire | track | holdover
  deriving DecidableEq, Repr

/-- The second report (R74). -/
inductive Report where
  | phase (e : Int)
  | skipBad
  | skipStep
  | noReference
  deriving DecidableEq, Repr

/-- The cause of a TIME notice (R96). -/
inductive TimeCause where
  | selection | acquireStreak | trackStreak | step | setting | restart
  deriving DecidableEq, Repr

/-- The Discipline Unit's settings (chapter 5). -/
structure DsuSet where
  pShift : Nat := 3
  iShift : Nat := 7
  uBase : Nat := 50
  hRate : Nat := 500
  hAge : Nat := 1
  squelch : Bool := false
  deriving DecidableEq, Repr

/-- The Discipline Unit (R97). `residue` counts the part of site time below one nanosecond in 1/8000 ps (log 2).
`nextCross` is the seconds boundary of the next crossing (R80). `ring` holds the oldest correction first. `left`,
`cause` and `landing` are what the last TIME notice carries. -/
structure Dsu where
  time : SiteTime := ⟨0, 0⟩
  residue : Nat := 0
  nextCross : BitVec 32 := 1
  loop : LoopState := .free
  c : Int := 0
  i : Int := 0
  p : Int := 0
  ring : List Int := []
  hclock : Nat := 0
  u : Nat := Config.uSat
  acq : Nat := 0
  trk : Nat := 0
  steps : Count := 0
  pendStep : Option Int := none
  pendSec : Option (BitVec 32) := none
  report : Option Report := none
  set : DsuSet := {}
  pps : Option Nat := none
  left : LoopState := .free
  cause : TimeCause := .selection
  landing : Option (SiteTime × Int) := none
  deriving DecidableEq, Repr

/-! ### Tenant Ports (chapter 6) -/

/-- How a tenant's share is formed (chapter 6.1). -/
inductive ShareClass where
  | fixed | shared
  deriving DecidableEq, Repr

/-- The timing class (R92). -/
inductive TimingClass where
  | none | freq | phase
  deriving DecidableEq, Repr

/-- A present entry of the tenant table (chapter 6.1). Fields a class does not use are 0 or absent. -/
structure Entry where
  cls : ShareClass
  f : Nat
  g : Nat
  w : Nat
  ceil : Option Nat
  timing : TimingClass
  budget : Nat
  drop : Nat
  label : Option Bytes
  deriving DecidableEq, Repr

/-- The tenant state (chapter 6.2). -/
inductive TenantState where
  | vacant | held | active | unfit | barred
  deriving DecidableEq, Repr

/-- The fitness record (R102). -/
inductive Fitness where
  | fit | lost | refit
  deriving DecidableEq, Repr

/-- The cause of a TENANT notice (R116). -/
inductive TenantCause where
  | image | tenantSet | phase | port | fitness | barRequest | barResponse | unbar
  deriving DecidableEq, Repr

/-- The reassembly record (R113): the bytes of the packet in progress, its prefix included. -/
inductive Reassembly where
  | waitStart
  | inStream (buf : Bytes)
  deriving DecidableEq, Repr

/-- The counts of R116. -/
structure TenantCounts where
  accepted : Count := 0
  acceptedBytes : Count := 0
  sent : Count := 0
  noRoom : Count := 0
  badLength : Count := 0
  barred : Count := 0
  flushed : Count := 0
  delivered : Count := 0
  egressNoRoom : Count := 0
  egressDown : Count := 0
  egressDiscard : Count := 0
  broken : Count := 0
  deriving DecidableEq, Repr

/-- One tenant and its port (R117). The port link is as State.reset finds it (log 3). -/
structure Tenant where
  entry : Option Entry := none
  state : TenantState := .vacant
  fit : Option Fitness := none
  refit : Option Nat := none
  link : Bool := false
  permit : Bool := false
  queue : List Bytes := []
  sendOff : Nat := 0
  egress : List Bytes := []
  reasm : Reassembly := .waitStart
  accSince : Nat := 0
  snapA : Nat := 0
  snapQ : Nat := 0
  secDrops : Nat := 0
  thr : Nat := 0
  counts : TenantCounts := {}
  left : TenantState := .vacant
  cause : TenantCause := .image
  deriving DecidableEq, Repr

/-! ### Share Allocator (chapter 7) -/

/-- The trigger kind of a computation (R119). -/
inductive TriggerKind where
  | periodic | event
  deriving DecidableEq, Repr

/-- The trigger of a computation (R119). -/
inductive Trigger where
  | periodEnd | tenantState | tenantSet | test | profileSwitch
  deriving DecidableEq, Repr

/-- The newest map (R129). -/
structure NewestMap where
  counts : MapCounts := {}
  prof : Nat := 0
  kind : Option TriggerKind := none
  deriving DecidableEq, Repr

/-- A tenant's figures in the computation record (R130); a figure its class and state do not give is absent. -/
structure ShareFigures where
  state : TenantState
  cls : Option ShareClass
  d : Option Nat
  g : Option Nat
  e : Option Nat
  c : Option Nat
  want : Option Nat
  given : Nat
  deriving DecidableEq, Repr

/-- The computation record (R130). `scaled`: R124 applied. -/
structure ShareRecord where
  trigger : Trigger
  kind : TriggerKind
  prof : Nat
  bb : Nat
  r : Nat
  s : Nat
  spare : Nat
  scaled : Bool
  tReq : Nat
  grant : Option Nat
  gave : Bool
  revoked : Bool
  rExcess : Nat
  rounds : Nat
  remainderPass : Bool
  tenants : Four ShareFigures
  deriving DecidableEq, Repr

/-- The Share Allocator (R131). Its copy of the demand snapshot is the Tenant Ports' own. -/
structure Sha where
  newest : NewestMap := {}
  grant : Option Nat := none
  tReq : Nat := 0
  record : Option ShareRecord := none
  deriving DecidableEq, Repr

/-! ### Self-Test Unit (chapter 9) -/

/-- The kind of a test (chapter 9.1). -/
inductive TestKind where
  | linkPattern | refCross | sensorCheck
  deriving DecidableEq, Repr

/-- The schedule of a plan entry (chapter 9.1). -/
inductive Schedule where
  | bringup | periodic | onRequest
  deriving DecidableEq, Repr

/-- A plan entry (chapter 9.1). `duration` is in frames for LINK_PATTERN and in seconds for REF_CROSS; `mask` is the
16-byte check mask; `limit` is REF_CROSS's. -/
structure PlanEntry where
  kind : TestKind
  schedule : Schedule
  period : Nat
  raises : Bool
  blocks : Nat
  duration : Nat
  mask : Bytes
  errors : Nat
  limit : Nat
  deriving DecidableEq, Repr

/-- The state of a run (R147, chapter 9.3). -/
inductive RunState where
  | queued | waiting | starting | running | draining
  deriving DecidableEq, Repr

/-- The outcome of a run (R148). -/
inductive RunOutcome where
  | pass | fail | aborted
  deriving DecidableEq, Repr

/-- The cause of an outcome, in the order of R148's table. -/
inductive RunCause where
  | none | errors | lowCoverage | limit | invalidGate | linkDown | revoked | host | phase | hold | noCapacity | refAbsent
  deriving DecidableEq, Repr

/-- The figures of a run of any kind (R161): frames filled, checked, bad, reports; seconds counted and compared and the
largest difference; the gate count and the validity of three gates. -/
structure RunFigures where
  frames : Nat := 0
  checked : Nat := 0
  bad : Nat := 0
  reports : Nat := 0
  seconds : Nat := 0
  compared : Nat := 0
  largest : Nat := 0
  gateCount : Nat := 0
  gates : Bool × Bool × Bool := (false, false, false)
  deriving DecidableEq, Repr

/-- A run (R147) of a plan entry. `grantLeft` and `drainLeft`: the grant timer and the drain wait. -/
structure Run where
  idx : Nat
  entry : PlanEntry
  id : Nat
  round : Bool
  state : RunState := .queued
  fig : RunFigures := {}
  grantLeft : Option Nat := none
  drainLeft : Option Nat := none
  deriving DecidableEq, Repr

/-- A record of the result log (R161). -/
structure LogRecord where
  idx : Nat
  kind : TestKind
  id : Nat
  round : Bool
  outcome : RunOutcome
  cause : RunCause
  time : SiteTime
  phase : Phase
  blocks : Nat
  fig : RunFigures
  deriving DecidableEq, Repr

/-- A latest decisive outcome (R162). -/
inductive Decisive where
  | none | pass | fail
  deriving DecidableEq, Repr

/-- The far-end checker (R156, R163). DESIGN CHOICE (log 57): the check mask is empty and the block count 0 at reset. -/
structure Checker where
  armed : Bool := false
  id : Nat := 0
  mask : Bytes := []
  blocks : Nat := 0
  window : Nat := 0
  slots : Nat := 0
  checked : Nat := 0
  bad : Nat := 0
  seen : Bool := false
  empty : Nat := 0
  lastReport : Option (Nat × Nat × Nat × Nat) := none
  starts : Count := 0
  sent : Count := 0
  deriving DecidableEq, Repr

/-- The Self-Test Unit (R163). `log` holds the newest record first. `due` and `decisive` go with `plan` by index.
`lateRelease`: a revocation has ended a run whose release was due with it, and that release has still to follow (R126;
log 60). -/
structure Stu where
  plan : List PlanEntry := []
  due : List Nat := []
  decisive : List Decisive := []
  queue : List Run := []
  runId : Nat := 0
  log : List LogRecord := []
  kept : List SvcMsg := []
  stale : Count := 0
  lost : Count := 0
  removed : List Nat := []
  lateRelease : Bool := false
  chk : Checker := {}
  deriving DecidableEq, Repr

/-! ### Fault Monitor (chapter 10) -/

/-- A response (chapter 10.2). -/
inductive Response where
  | none | note | cap | bar | reseek | halt
  deriving DecidableEq, Repr

/-- What was done at a row's last raise (R175). -/
inductive Done where
  | taken | masked | latched | takenAsNote
  deriving DecidableEq, Repr

/-- A row of the fault table (R164). -/
structure FaultRow where
  active : Bool := false
  latched : Bool := false
  masked : Bool := false
  time : Option SiteTime := none
  detail : Nat := 0
  count : Count := 0
  done : Option Done := none
  deriving DecidableEq, Repr

/-- The outstanding record (chapter 10.3). -/
structure Outstanding where
  row : Nat
  resp : Response
  rank : Nat
  time : SiteTime
  phase : Phase
  deriving DecidableEq, Repr

/-- A class's bring-up and service response (R165). -/
structure ResponsePair where
  bringup : Response
  service : Response
  deriving DecidableEq, Repr

/-- The default response table (chapter 10.2). -/
def defaultTable : List ResponsePair :=
  [⟨.note, .note⟩, ⟨.note, .note⟩, ⟨.note, .note⟩, ⟨.note, .note⟩, ⟨.note, .note⟩, ⟨.note, .note⟩, ⟨.note, .note⟩,
   ⟨.note, .note⟩, ⟨.note, .cap⟩, ⟨.none, .note⟩, ⟨.none, .none⟩, ⟨.none, .note⟩]

/-- The 21 rows, none of them ever raised (R176). -/
def freshRows : List FaultRow := List.replicate 21 {}

/-- The Fault Monitor (R176). `capOn`: a CAP counts as outstanding (R169). -/
structure Fmn where
  rows : List FaultRow := freshRows
  out : Option Outstanding := none
  table : List ResponsePair := defaultTable
  capSet : Nat := 3
  capOn : Bool := false
  secRaises : Nat := 0
  lastRaises : Nat := 0
  deriving DecidableEq, Repr

/-! ### Image Loader (chapter 11) -/

/-- The image buffer: cells in canonical form (strictly rising addresses, no cell that reads as an unlisted one does).
An unlisted address reads 0, what the buffer holds after reset (R187). -/
abbrev Memory := List Host.Cell

/-- The image state (chapter 11.4). -/
inductive ImageState where
  | empty | reading | staging | accepted | rejected
  deriving DecidableEq, Repr

/-- The rejection reason (R179). -/
inductive RejectReason where
  | signature | length | crc | order | overlap | size | noLink | value
  deriving DecidableEq, Repr

/-- Where a validation read the image from (R188). -/
inductive ImageSource where
  | eeprom | commit
  deriving DecidableEq, Repr

/-- The outcome of a save (R186). -/
inductive SaveOutcome where
  | done | failed
  deriving DecidableEq, Repr

/-- The ATTN mode (R197). -/
inductive AttnMode where
  | level | pulse1 | pulse100
  deriving DecidableEq, Repr

/-- The LINK settings (chapter 11.2). -/
structure LinkSet where
  hub : Bool
  linkId : BitVec 16
  alignOn : Bool
  autoExit : Bool
  expect : Int
  attn : AttnMode
  deriving DecidableEq, Repr

/-- A directory entry (R177): kind, section length, offset in words. -/
structure DirEntry where
  kind : Nat
  len : Nat
  off : Nat
  deriving DecidableEq, Repr

/-- What a restart taken during a save left to do when the save ends (R186). -/
inductive AfterSave where
  | read | stayEmpty
  deriving DecidableEq, Repr

/-- The Image Loader (R187). `link` holds the LINK settings in force; there are none while no image is. -/
structure Il where
  buffer : Memory := []
  state : ImageState := .reading
  saving : Bool := false
  lastSave : Option (SaveOutcome × Nat) := none
  afterSave : Option AfterSave := none
  reject : Option (RejectReason × Nat) := none
  source : Option ImageSource := none
  answered : Option Bool := none
  dir : List DirEntry := []
  link : Option LinkSet := none
  deriving DecidableEq, Repr

/-! ### Message Port (chapter 12) -/

/-- A reply's status (chapter 12.2). -/
inductive Status where
  | ok | unknownKind | badLength | badValue | wrongPhase | busy | locked | noRoom
  deriving DecidableEq, Repr

/-- A request's body as the port reads it by its kind (chapter 12.6): the fields of an assigned kind, or what the first
checks of R191 find wrong with it. -/
inductive ReqBody where
  | ident | phaseGet | alignEnd | alignPeakReset | proveForce | siteReseek | siteStop
  | siteRestart (options : Byte)
  | imageWrite (offset : BitVec 16) (data : Bytes)
  | imageCommit
  | imageRead (offset count : BitVec 16)
  | imageSave | linkGet
  | profileCap (value : Byte)
  | profileFix (value : Byte)
  | noteSend (note : Bytes)
  | noteRead | thermalGet
  | thermalEnable (settings : Option ThermalBody)
  | refGet | timeGet
  | timeSet (body : TimeSetBody)
  | tenantGet (tenant : Byte)
  | tenantSet (tenant action : Byte) (entry : Option Bytes)
  | tenantBar (tenant : Byte)
  | tenantUnbar (tenant : Byte)
  | mapGet
  | testRun (index : Byte)
  | testAbort (index : Byte)
  | testLog | faultGet
  | faultAck (row : Byte)
  | faultClear (rows : BitVec 24)
  | faultSet (responses : Bytes) (cap : Byte)
  | unknownKind
  | badLength
  deriving DecidableEq, Repr

/-- A request waiting in the inbound queue (R192). -/
structure Request where
  kind : Byte
  tag : Byte
  body : ReqBody
  deriving DecidableEq, Repr

/-- A reply (chapter 12.2); `body` begins with the status byte. -/
structure Reply where
  kind : Byte
  tag : Byte
  body : Bytes
  restart : Bool := false
  deriving DecidableEq, Repr

/-- The kinds of notice (chapter 12.4). -/
inductive NoticeKind where
  | phase | align | link | profile | thermal | ref | time | tenant | map | test | fault | note | image
  deriving DecidableEq, Repr

/-- A waiting notice (R195): kind, subject, and the content that follows the subject byte. -/
structure Notice where
  kind : NoticeKind
  subject : Nat
  content : Bytes
  deriving DecidableEq, Repr

/-- The frame being sent on UART_TX (R190): its bytes, the length, tag and CRC that the port fills in among them;
`restart` marks the reply of a SITE_RESTART answered OK. -/
structure LineFrame where
  bytes : Bytes
  restart : Bool := false
  deriving DecidableEq, Repr

/-- The receive side of the port (R189); `got` holds the bytes after the start byte. -/
inductive UartRx where
  | hunt
  | length (got : Bytes)
  | body (got : Bytes) (left : Nat)
  | check (got : Bytes) (crc : Bytes)
  deriving DecidableEq, Repr

/-- The options of SITE_RESTART (R9). -/
structure RestartOpts where
  keepTime : Bool
  noImage : Bool
  deriving DecidableEq, Repr

/-- The counts of R200. `refused` counts requests refused by status code 1 to 7, in that order. -/
structure PortCounts where
  received : Count := 0
  hunt : Count := 0
  length : Count := 0
  crc : Count := 0
  timeout : Count := 0
  byteError : Count := 0
  replyKind : Count := 0
  answered : Count := 0
  refused : List Count := [0, 0, 0, 0, 0, 0, 0]
  busy : Count := 0
  overrun : Count := 0
  notices : Count := 0
  replaced : Count := 0
  deriving DecidableEq, Repr

/-- The Message Port (R201). `slotBehind`: refusals of the store that became ready before the reply in the slot (R194).
`restart`: a SITE_RESTART has been answered OK; `restartDue`: the last byte of that reply has left (R9). -/
structure Mp where
  rx : UartRx := .hunt
  rxIdle : Nat := 0
  inbound : List Request := []
  store : List (Byte × Byte) := []
  slot : Option Reply := none
  slotBehind : Nat := 0
  line : Option LineFrame := none
  notices : List Notice := []
  seq : Byte := 0
  attnMode : AttnMode := .level
  attn : Bool := false
  pulse : Option Nat := none
  baud : Bool × Bool := (false, false)
  restart : Option RestartOpts := none
  restartDue : Bool := false
  counts : PortCounts := {}
  deriving DecidableEq, Repr

/-! ### The whole -/

/-- Input lines as the part last saw them. The values at State.reset are the model's (log 3). -/
structure Pins where
  baudSel1 : Bool := false
  baudSel0 : Bool := false
  hotN : Bool := true
  gnssOk : Bool := true
  carriageHold : Bool := false
  deriving DecidableEq, Repr

/-- A fault response that has been taken and whose action is still to be done in the event (R170, R171; log 5). -/
inductive Action where
  | bar (tenant : Fin 4)
  | reseek
  | halt
  deriving DecidableEq, Repr

/-- Work that arises inside an event and is done before the event ends (log 5): responses taken, the run at the head of
the queue that has still to take its first state, the allocation that is still to be made. `phase` is the phase that the
event has left, once it has moved the phase: a raise is answered by it (R166). -/
structure Work where
  phase : Option Phase := none
  acts : List Action := []
  runDue : Bool := false
  alloc : Option Trigger := none
  deriving DecidableEq, Repr

/-- The state of the part, with the queue of commands that are waiting. -/
structure State where
  pending : List Instr := []
  pins : Pins := {}
  spc : Spc := {}
  lfr : Lfr := {}
  lau : Lau := {}
  tlm : Tlm := {}
  rfm : Rfm := {}
  dsu : Dsu := {}
  tpt : Four Tenant := ⟨{}, {}, {}, {}⟩
  sha : Sha := {}
  stu : Stu := {}
  fmn : Fmn := {}
  il : Il := {}
  mp : Mp := {}
  work : Work := {}
  deriving DecidableEq, Repr

/-- The part right after reset (R1, R21, R24, R52, R62, R78, R97, R117, R131, R163, R176, R187, R201), with the input
lines at the model's levels (log 3) and no command waiting. -/
def State.reset : State := {}

/-- Why a step stops with a fault. Only a command that cannot exist on the wire raises one; both are safe. -/
inductive Fault where
  /-- RX_FRAME_RECEIVED of a frame that is not 48 + 48 bytes and 62 blocks with 4-byte labels (chapter 2.1). Safe. -/
  | malformedFrame
  /-- GNSS_PPS_PULSE with a stamp that is no nanosecond-of-second (00_scope). Safe. -/
  | malformedStamp
  deriving DecidableEq, Repr

/-- Why a step refuses a command. -/
inductive Refusal where
  /-- A row whose meaning is not written yet; raised by no arm of this model. Safe. -/
  | notModelled (mnemonic : String)
  deriving DecidableEq, Repr

end Sys2Proof.Machine
end

