-- ==== Sys2Proof/Machine/Operands.lean ====
section
/-! DEFINITION. How values stand as bytes and how numbers are rounded, once for every block: little-endian fields
(00_scope, Byte order), the field types of R198, the CRC of chapter 2.1, the rounding of 00_scope, and stamps of site
time (R67, R79, R84). -/

namespace Sys2Proof.Machine

/-! ### Little-endian fields -/

/-- `x` as `n` little-endian bytes. -/
def le : Nat → Nat → Bytes
  | 0, _ => []
  | n + 1, x => BitVec.ofNat 8 x :: le n (x / 256)

/-- The number that little-endian bytes spell. -/
def readLe : Bytes → Nat
  | [] => 0
  | b :: bs => b.toNat + 256 * readLe bs

/-- A signed number as `n` little-endian bytes, two's complement. -/
def leInt (n : Nat) (x : Int) : Bytes := le n (x % (256 ^ n : Nat)).toNat

/-- The signed number that little-endian bytes spell. -/
def readLeInt (bs : Bytes) : Int :=
  let x := readLe bs
  if 2 * x < 256 ^ bs.length then (x : Int) else (x : Int) - (256 ^ bs.length : Nat)

/-- `n` bytes from offset `off` on. -/
def slice (bs : Bytes) (off n : Nat) : Bytes := (bs.drop off).take n

/-- The number in the `n`-byte field at offset `off`. -/
def field (bs : Bytes) (off n : Nat) : Nat := readLe (slice bs off n)

/-- The signed number in the `n`-byte field at offset `off`. -/
def fieldInt (bs : Bytes) (off n : Nat) : Int := readLeInt (slice bs off n)

/-- The `n` bits of a byte from bit `lo` on. -/
def bits (b : Nat) (lo n : Nat) : Nat := b / 2 ^ lo % 2 ^ n

/-- `bs` cut or filled with 0 to `n` bytes. -/
def padTo (n : Nat) (bs : Bytes) : Bytes := bs.take n ++ List.replicate (n - bs.length) 0

/-- The bytes as an unsigned number of the given width. -/
def word (w : Nat) (bs : Bytes) : BitVec w := BitVec.ofNat w (readLe bs)

/-! ### Field types of replies and notices (R198) -/

/-- A state, phase, cause, reason, kind, outcome, profile, level, tenant, index, version or countdown: 1 byte. -/
def e1 (x : Nat) : Bytes := le 1 x

/-- A flag: 1 byte, 0 or 1. -/
def eFlag (b : Bool) : Bytes := e1 b.toNat

/-- An unsigned 2-byte field (a frame number, an image length, a byte offset; log 12). -/
def e2 (x : Nat) : Bytes := le 2 x

/-- A count, occupancy, byte count, time in ms, uncertainty, settle clock, holdover clock or fault detail: 4 bytes. -/
def e4 (x : Nat) : Bytes := le 4 x

/-- A 32-bit count. -/
def eCount (c : Count) : Bytes := le 4 c.toNat

/-- A margin, received level or EXPECT_LEVEL: 2 bytes, signed. -/
def eLevel (x : Int) : Bytes := leInt 2 x

/-- A ppt value: 4 bytes, signed. -/
def ePpt (x : Int) : Bytes := leInt 4 x

/-- A phase error, difference, d, o or ASYM: 8 bytes, signed nanoseconds. -/
def eNs (x : Int) : Bytes := leInt 8 x

/-- A site time: seconds 4, nanoseconds 4. -/
def eTime (t : SiteTime) : Bytes := le 4 t.sec.toNat ++ le 4 t.ns

/-- An optional value of `n` bytes: a presence byte, then the value, all zero when absent. -/
def eOpt (n : Nat) : Option Bytes → Bytes
  | some bs => 1 :: bs
  | none => 0 :: List.replicate n 0

/-- A list: a count byte, then the items. -/
def eList (items : List Bytes) : Bytes := e1 items.length ++ items.flatten

/-! ### The CRC (chapter 2.1) -/

/-- One bit of the CRC, most significant first, polynomial 0x1021. -/
def crcBit (c : BitVec 16) : BitVec 16 :=
  if c.msb then (c <<< 1) ^^^ 0x1021 else c <<< 1

/-- One byte of the CRC. -/
def crcByte (c : BitVec 16) (b : Byte) : BitVec 16 :=
  crcBit (crcBit (crcBit (crcBit (crcBit (crcBit (crcBit (crcBit (c ^^^ (b.zeroExtend 16 <<< 8)))))))))

/-- The CRC of the link header, the service block, the site image and site messages (chapter 2.1). -/
def crc16 (bs : Bytes) : BitVec 16 := bs.foldl crcByte 0xFFFF

/-- The CRC as it is stored, low byte first. -/
def crcBytes (bs : Bytes) : Bytes := le 2 (crc16 bs).toNat

/-! ### Rounding (00_scope, Rounding) -/

/-- `a / n` to the nearest integer, a half to the even one. -/
def roundDiv (a : Int) (n : Nat) : Int :=
  let q := a / (n : Int)
  let r := a % (n : Int)
  if 2 * r < n then q else if 2 * r > n then q + 1 else if q % 2 = 0 then q else q + 1

/-- `ceil (a / n)`. -/
def ceilDiv (a n : Nat) : Nat := (a + n - 1) / n

/-- `x` brought into `lo` to `hi`. -/
def clampInt (lo hi x : Int) : Int := max lo (min hi x)

/-! ### Stamps of site time -/

/-- Nanoseconds in a second. -/
def nsPerSec : Nat := 1000000000

/-- The signed difference `a - b` in nanoseconds, seconds taken modulo 2^32 as a signed number (R67). -/
def timeDiff (a b : SiteTime) : Int := (a.sec - b.sec).toInt * (nsPerSec : Int) + ((a.ns : Int) - (b.ns : Int))

/-- The stamp `d` nanoseconds after `t`, in the form of R79. -/
def timeAdd (t : SiteTime) (d : Int) : SiteTime :=
  let total := (t.ns : Int) + d
  ⟨t.sec + BitVec.ofInt 32 (total / (nsPerSec : Int)), (total % (nsPerSec : Int)).toNat⟩

/-- The later of two seconds counts, by the signed difference (R80). -/
def laterSec (a b : BitVec 32) : BitVec 32 := if 0 ≤ (a - b).toInt then a else b

/-! ### Numbers of the frame -/

/-- Data bytes of a carriage block at profile `p` (chapter 2): 32 × (p + 1). -/
def blockBytes (p : Nat) : Nat := 32 * (p + 1)

/-- Byte `k` of the pattern of the block at position `q` of frame `n` (R151). -/
def patternByte (n q k : Nat) : Byte := BitVec.ofNat 8 (37 * n + 11 * q + k)

/-- Whole milliseconds of a number of frame times (125 us each). DESIGN CHOICE (log 31): a part of a millisecond left is
dropped. -/
def framesToMs (frames : Nat) : Nat := frames / 8

/-- The blocks of a map that are not IDLE. -/
def MapCounts.used (c : MapCounts) : Nat := c.test + c.ten.t0 + c.ten.t1 + c.ten.t2 + c.ten.t3

/-- The IDLE count of a map (R132). -/
def MapCounts.idle (c : MapCounts) : Nat := 62 - c.used

/-- The owner of a carriage block: the owner code of its label (chapter 2.1). -/
inductive Owner where
  | tenant (i : Fin 4)
  | test
  | idle
  deriving DecidableEq, Repr

/-- The owner code a label carries (chapter 2.1). -/
def Owner.code : Owner → Nat
  | .tenant i => i.val
  | .test => 4
  | .idle => 5

/-- The owner of carriage position `q`, 2 to 63, by the layout rule (R133). -/
def MapCounts.owner (c : MapCounts) (q : Nat) : Owner :=
  let k := q - 2
  if k < c.test then .test
  else if k < c.test + c.ten.t0 then .tenant 0
  else if k < c.test + c.ten.t0 + c.ten.t1 then .tenant 1
  else if k < c.test + c.ten.t0 + c.ten.t1 + c.ten.t2 then .tenant 2
  else if k < c.used then .tenant 3
  else .idle

/-- The carriage positions in order. -/
def positions : List Nat := (List.range 62).map (· + 2)

end Sys2Proof.Machine
end

