-- ==== Sys2Proof/Machine/Flags.lean ====
section
/-! DEFINITION. The conditions blocks read of one another's state, the flags of the link header, and the code of every
state, phase, cause, reason, kind and outcome: numbered from 0 in the order in which the owning chapter first lists them
(R198; the orders that needed a choice are in log 12). -/

namespace Sys2Proof.Machine

/-! ### Codes (R198) -/

def Phase.code : Phase → Nat
  | .load => 0 | .align => 1 | .seek => 2 | .prove => 3 | .service => 4 | .recover => 5 | .halt => 6

def PhaseCause.code : PhaseCause → Nat
  | .image => 0 | .alignEnd => 1 | .alignSettled => 2 | .linkUp => 3 | .linkDown => 4 | .provePassed => 5
  | .proveEmpty => 6 | .proveForce => 7 | .recoverExpiry => 8 | .reseekRequest => 9 | .reseekResponse => 10
  | .stopRequest => 11 | .haltResponse => 12 | .none => 13

def ProveState.code : ProveState → Nat
  | .idle => 0 | .round => 1 | .passed => 2 | .failed => 3

def RxFramer.code : RxFramer → Nat
  | .off => 0 | .hunt => 1 | .confirm => 2 | .up => 3 | .flywheel => 4 | .down => 5

def TxFramer.code : TxFramer → Nat
  | .off => 0 | .fallback => 1 | .normal => 2 | .halted => 3

def MapCause.code : MapCause → Nat
  | .announced => 0 | .superseded => 1 | .txInForce => 2 | .txDiscarded => 3 | .rxInForce => 4 | .rxPending => 5
  | .rxCorrected => 6 | .rxDown => 7

def MapFate.code : MapFate → Nat
  | .announced => 0 | .equal => 1 | .withheld => 2 | .setAside => 3

def Priority.code : Priority → Nat
  | .gThenL => 0 | .lThenG => 1 | .gOnly => 2 | .lOnly => 3

/-- The priority of a code, 0 to 3. -/
def Priority.ofCode : Nat → Option Priority
  | 0 => some .gThenL | 1 => some .lThenG | 2 => some .gOnly | 3 => some .lOnly | _ => none

def RefMode.code : RefMode → Nat
  | .disabled => 0 | .down => 1 | .probation => 2 | .up => 3

def Ref.code : Ref → Nat
  | .g => 0 | .l => 1

/-- The selection: G, L or none (R72). -/
def selCode : Option Ref → Nat
  | some r => r.code
  | none => 2

def Verdict.code : Verdict → Nat
  | .good => 0 | .bad => 1 | .neutral => 2

def BadReason.code : BadReason → Nat
  | .noPulse => 0 | .extraPulse => 1 | .qualifier => 2 | .interval => 3 | .framer => 4 | .peerQuality => 5
  | .fewMarks => 6

def LoopState.code : LoopState → Nat
  | .free => 0 | .acquire => 1 | .track => 2 | .holdover => 3

def Report.code : Report → Nat
  | .phase _ => 0 | .skipBad => 1 | .skipStep => 2 | .noReference => 3

def TimeCause.code : TimeCause → Nat
  | .selection => 0 | .acquireStreak => 1 | .trackStreak => 2 | .step => 3 | .setting => 4 | .restart => 5

def ShareClass.code : ShareClass → Nat
  | .fixed => 0 | .shared => 1

def TimingClass.code : TimingClass → Nat
  | .none => 0 | .freq => 1 | .phase => 2

def TenantState.code : TenantState → Nat
  | .vacant => 0 | .held => 1 | .active => 2 | .unfit => 3 | .barred => 4

def Fitness.code : Fitness → Nat
  | .fit => 0 | .lost => 1 | .refit => 2

def TenantCause.code : TenantCause → Nat
  | .image => 0 | .tenantSet => 1 | .phase => 2 | .port => 3 | .fitness => 4 | .barRequest => 5 | .barResponse => 6
  | .unbar => 7

def TriggerKind.code : TriggerKind → Nat
  | .periodic => 0 | .event => 1

def Trigger.code : Trigger → Nat
  | .periodEnd => 0 | .tenantState => 1 | .tenantSet => 2 | .test => 3 | .profileSwitch => 4

def TestKind.code : TestKind → Nat
  | .linkPattern => 0 | .refCross => 1 | .sensorCheck => 2

def Schedule.code : Schedule → Nat
  | .bringup => 0 | .periodic => 1 | .onRequest => 2

def RunState.code : RunState → Nat
  | .queued => 0 | .waiting => 1 | .starting => 2 | .running => 3 | .draining => 4

def RunOutcome.code : RunOutcome → Nat
  | .pass => 0 | .fail => 1 | .aborted => 2

def RunCause.code : RunCause → Nat
  | .none => 0 | .errors => 1 | .lowCoverage => 2 | .limit => 3 | .invalidGate => 4 | .linkDown => 5 | .revoked => 6
  | .host => 7 | .phase => 8 | .hold => 9 | .noCapacity => 10 | .refAbsent => 11

def Decisive.code : Decisive → Nat
  | .none => 0 | .pass => 1 | .fail => 2

def Response.code : Response → Nat
  | .none => 0 | .note => 1 | .cap => 2 | .bar => 3 | .reseek => 4 | .halt => 5

/-- The response of a code, 0 to 5. -/
def Response.ofCode : Nat → Option Response
  | 0 => some .none | 1 => some .note | 2 => some .cap | 3 => some .bar | 4 => some .reseek | 5 => some .halt
  | _ => none

/-- The rank of a response (chapter 10.2); NONE has none and is never compared. -/
def Response.rank : Response → Nat
  | .none => 0 | .note => 1 | .cap => 2 | .bar => 2 | .reseek => 3 | .halt => 4

def Done.code : Done → Nat
  | .taken => 0 | .masked => 1 | .latched => 2 | .takenAsNote => 3

def ImageState.code : ImageState → Nat
  | .empty => 0 | .reading => 1 | .staging => 2 | .accepted => 3 | .rejected => 4

def RejectReason.code : RejectReason → Nat
  | .signature => 0 | .length => 1 | .crc => 2 | .order => 3 | .overlap => 4 | .size => 5 | .noLink => 6 | .value => 7

def ImageSource.code : ImageSource → Nat
  | .eeprom => 0 | .commit => 1

def SaveOutcome.code : SaveOutcome → Nat
  | .done => 0 | .failed => 1

def AttnMode.code : AttnMode → Nat
  | .level => 0 | .pulse1 => 1 | .pulse100 => 2

/-- The status codes of chapter 12.2. -/
def Status.code : Status → Nat
  | .ok => 0 | .unknownKind => 1 | .badLength => 2 | .badValue => 3 | .wrongPhase => 4 | .busy => 5 | .locked => 6
  | .noRoom => 7

/-- The kind codes of notices (chapter 12.4). -/
def NoticeKind.code : NoticeKind → Nat
  | .phase => 0x40 | .align => 0x41 | .link => 0x42 | .profile => 0x43 | .thermal => 0x44 | .ref => 0x45
  | .time => 0x46 | .tenant => 0x47 | .map => 0x48 | .test => 0x49 | .fault => 0x4A | .note => 0x4B | .image => 0x4C

/-! ### Conditions on the state -/

/-- The receive framer is UP or FLYWHEEL (R26, R29, R44). -/
def RxFramer.carries (f : RxFramer) : Bool := decide (f = .up) || decide (f = .flywheel)

/-- An image is in force: one was accepted since reset or restart (R180, R185). -/
def State.imageInForce (s : State) : Bool := decide (s.il.state = .accepted)

/-- The role in force is FIELD. -/
def State.fieldRole (s : State) : Bool :=
  match s.il.link with
  | some l => s.imageInForce && !l.hub
  | none => false

/-- The fallback condition (R29): this part's receive framer is not UP or FLYWHEEL, or the peer record shows another
receive state than these two, or shows the halted flag, or there is none. -/
def State.fallbackCond (s : State) : Bool :=
  !s.lfr.rx.framer.carries ||
    match s.lfr.rx.peer with
    | some p => decide (p.state < 2) || p.halted
    | none => true

/-- HOT_N is asserted under a polarity (R54): active high or active low. -/
def hotAsserted (level activeHigh : Bool) : Bool := level == activeHigh

/-- HOT_N is asserted under the polarity in force. -/
def State.hot (s : State) : Bool := hotAsserted s.pins.hotN s.tlm.set.hotHigh

/-- GNSS_OK is asserted under the polarity in force (R63). -/
def State.gnssOk (s : State) : Bool := s.pins.gnssOk != s.rfm.set.gnssLow

/-- The thermal cap of a thermal level (R59). -/
def Tlm.cap (t : Tlm) : Nat :=
  match t.level with
  | 0 => 7
  | 1 => t.set.l1cap
  | _ => t.set.l2cap

/-- The fault cap (R49, R169): FAULT_CAP while a CAP counts as outstanding, 7 otherwise. -/
def Fmn.cap (f : Fmn) : Nat := if f.capOn then f.capSet else 7

/-- The transmit ceiling as the minimum of its three terms (R49). -/
def State.ceilingNow (s : State) : Nat := min s.lau.hostCap (min s.tlm.cap s.fmn.cap)

/-- The profile a computation works at (R120): the target of a pending transmit switch, else the profile in force. -/
def LfrTx.computeProfile (t : LfrTx) : Nat :=
  match t.pend with
  | some w => w.target
  | none => t.prof

/-- The timing class test (R92). -/
def timingFit (e : Entry) (loop : LoopState) (u : Nat) : Bool :=
  match e.timing with
  | .none => true
  | .freq => decide (loop ≠ .free)
  | .phase => decide (loop = .track) || (decide (loop = .holdover) && decide (u ≤ e.budget))

/-- The unsent stream bytes of an ingress queue (R112, R115). -/
def Tenant.unsent (t : Tenant) : Nat := (t.queue.map (fun p => p.length + 2)).sum - t.sendOff

/-- The occupancy of a queue of packets in bytes (R111, R114). -/
def occupancy (q : List Bytes) : Nat := (q.map List.length).sum

/-- A tenant's demand at `bb` data bytes per block (R115). -/
def Tenant.demand (t : Tenant) (bb : Nat) : Nat :=
  min 62 (ceilDiv t.snapA (64 * bb) + ceilDiv t.snapQ (64 * bb))

/-- The bring-up set answers a raise handed over in this phase (R166). -/
def Phase.bringupSet (p : Phase) : Bool :=
  decide (p = .load) || decide (p = .align) || decide (p = .seek) || decide (p = .prove)

/-- The class of a fault row (chapter 10.1): one for each of rows 0 to 8, one for each four tenant rows. -/
def rowClass (r : Nat) : Nat := if r < 9 then r else if r < 13 then 9 else if r < 17 then 10 else 11

/-- The row HOLDOVER_LIMIT of a tenant. -/
def rowHoldover (i : Fin 4) : Nat := 9 + i.val

/-- The row QUEUE_DROP of a tenant. -/
def rowQueueDrop (i : Fin 4) : Nat := 13 + i.val

/-- The row PORT_DOWN of a tenant. -/
def rowPortDown (i : Fin 4) : Nat := 17 + i.val

/-- The response in force for a class and a phase (R166); none in HALT. -/
def Fmn.response (f : Fmn) (cls : Nat) (p : Phase) : Option Response :=
  match f.table[cls]? with
  | none => none
  | some pair =>
    if p = .halt then none else if p.bringupSet then some pair.bringup else some pair.service

/-! ### The link header's flags (chapter 2.1) -/

/-- The receive state as a header codes it (R22): DOWN is sent as HUNT. -/
def RxFramer.headerCode : RxFramer → Nat
  | .confirm => 1
  | .up => 2
  | .flywheel => 3
  | .off | .hunt | .down => 0

/-- The flags byte: role, receive state, fallback, halted, echo-valid, hold, highest bit 0. -/
def headerFlags (hub : Bool) (state : Nat) (fallback halted echo hold : Bool) : Nat :=
  hub.toNat + 2 * state + 8 * fallback.toNat + 16 * halted.toNat + 32 * echo.toNat + 64 * hold.toNat

/-- Byte 8 of the header: the next profile and the profile countdown. -/
def nextByte (next count : Nat) : Nat := next + 8 * count

/-- A received header's fields (chapter 2.1). -/
structure Header where
  linkId : Nat
  state : Nat
  fallback : Bool
  halted : Bool
  echo : Bool
  hold : Bool
  frameNo : Nat
  prof : Nat
  next : Nat
  count : Nat
  wish : Nat
  ver : Nat
  pendVer : Nat
  mapCount : Nat
  cur : MapCounts
  pend : MapCounts
  loop : Nat
  u : Nat
  sent : SiteTime
  echoTime : SiteTime
  held : Nat
  deriving DecidableEq, Repr

/-- Five one-byte counts from offset `off` on. -/
def readCounts (h : Bytes) (off : Nat) : MapCounts :=
  ⟨field h off 1, ⟨field h (off + 1) 1, field h (off + 2) 1, field h (off + 3) 1, field h (off + 4) 1⟩⟩

/-- A site time field at `off`. -/
def readTime (h : Bytes) (off : Nat) : SiteTime := ⟨word 32 (slice h off 4), field h (off + 4) 4⟩

/-- The fields of a 48-byte header. -/
def parseHeader (h : Bytes) : Header :=
  let fl := field h 4 1
  let nx := field h 8 1
  { linkId := field h 2 2, state := bits fl 1 2, fallback := bits fl 3 1 = 1, halted := bits fl 4 1 = 1
    echo := bits fl 5 1 = 1, hold := bits fl 6 1 = 1, frameNo := field h 5 2, prof := field h 7 1
    next := bits nx 0 3, count := bits nx 3 4, wish := field h 9 1, ver := field h 10 1, pendVer := field h 11 1
    mapCount := field h 12 1, cur := readCounts h 13, pend := readCounts h 18, loop := field h 23 1
    u := field h 24 2, sent := readTime h 26, echoTime := readTime h 34, held := field h 42 4 }

/-- The CRC test of a header or service block of 48 bytes (chapter 2.1). -/
def crcOk (h : Bytes) : Bool := h.length == 48 && crcBytes (h.take 46) == slice h 46 2

/-- The profile and map fields of a good header pass the tests of R26. -/
def Header.fieldsOk (h : Header) : Bool :=
  decide (h.prof ≤ 7) && decide (h.count ≤ 8) && decide (h.mapCount ≤ 16) && decide (h.cur.used ≤ 62)
    && decide (h.pend.used ≤ 62) && decide (h.cur.test ≤ 8) && decide (h.pend.test ≤ 8)
    && !(decide (h.pendVer = 0) && decide (h.mapCount ≠ 0))

end Sys2Proof.Machine
end

