-- ==== Sys2Proof/Machine/Reports.lean ====
section
/-! DEFINITION. What notices and replies say: each body as the bytes of its fields, in the order of the rule that lists
them, by the encodings of R198 (the choices R198 leaves are in log 12). -/

namespace Sys2Proof.Machine

/-! ### Settings in their section layouts (11.2) -/

/-- The LINK section (8 bytes). -/
def LinkSet.bytes (l : LinkSet) : Bytes :=
  eFlag l.hub ++ le 2 l.linkId.toNat ++ eFlag l.alignOn ++ eFlag l.autoExit ++ leInt 2 l.expect ++ e1 l.attn.code

/-- The PROFILES section (32 bytes): U_0, D_0 to U_7, D_7. -/
def Lau.bytes (a : Lau) : Bytes := ((a.up.zip a.down).map (fun p => le 2 p.1 ++ le 2 p.2)).flatten

/-- The THERMAL section (9 bytes). -/
def Tlm.bytes (t : Tlm) : Bytes :=
  le 2 t.set.low ++ le 2 t.set.high ++ eFlag t.set.falling ++ e1 t.set.l1cap ++ e1 t.set.l2cap
    ++ eFlag t.set.hotHigh ++ eFlag t.enabled

/-- The Reference Monitor's part of the TIMING section (18 bytes). -/
def RefSet.bytes (r : RefSet) : Bytes :=
  e1 r.priority.code ++ eFlag r.gnssLow ++ le 4 r.cable ++ le 4 r.ppsTol ++ leInt 4 r.asym ++ le 4 r.delayMax

/-- The Discipline Unit's part of the TIMING section (11 bytes). -/
def DsuSet.bytes (d : DsuSet) : Bytes :=
  e1 d.pShift ++ e1 d.iShift ++ le 2 d.uBase ++ le 4 d.hRate ++ le 2 d.hAge ++ eFlag d.squelch

/-- An entry of the TENANTS section (24 bytes) for tenant `i`. -/
def Entry.bytes (i : Fin 4) (e : Entry) : Bytes :=
  e1 i.val ++ e1 e.cls.code ++ e1 e.f ++ le 2 e.g ++ e1 e.w ++ eFlag e.ceil.isSome ++ le 2 (e.ceil.getD 0)
    ++ e1 e.timing.code ++ le 4 e.budget ++ le 2 e.drop ++ e.label.getD (List.replicate 8 0)

/-- An entry of the TESTS section (28 bytes); REF_CROSS carries its limit in the mask field. -/
def PlanEntry.bytes (p : PlanEntry) : Bytes :=
  e1 p.kind.code ++ e1 p.schedule.code ++ eFlag (!p.raises) ++ e1 p.blocks ++ le 3 p.period ++ le 3 p.duration
    ++ le 2 p.errors ++ (match p.kind with
      | .linkPattern => p.mask
      | .refCross => le 4 p.limit ++ List.replicate 12 0
      | .sensorCheck => List.replicate 16 0)

/-- The FAULTS section (25 bytes). -/
def Fmn.bytes (f : Fmn) : Bytes :=
  (f.table.map (fun p => e1 p.bringup.code ++ e1 p.service.code)).flatten ++ e1 f.capSet

/-! ### Pieces shared by notices and replies -/

/-- The role in force, or none in LOAD (R10, R200). DESIGN CHOICE (log 12): its value takes 1 byte. -/
def State.roleBytes (s : State) : Bytes :=
  eOpt 1 (if s.imageInForce then s.il.link.map (fun l => eFlag l.hub) else none)

/-- The align record (R10, R15). -/
def AlignRecord.bytes (r : AlignRecord) : Bytes :=
  eOpt 2 (r.avg.map eLevel) ++ eOpt 2 (r.peak.map eLevel) ++ eOpt 8 (r.peakTime.map eTime) ++ e4 r.settle
    ++ eFlag r.settled

/-- The six counts of a map (R132). DESIGN CHOICE (log 12): no count byte stands before them. -/
def MapCounts.bytes (c : MapCounts) : Bytes :=
  e1 c.test ++ e1 c.ten.t0 ++ e1 c.ten.t1 ++ e1 c.ten.t2 ++ e1 c.ten.t3 ++ e1 c.idle

/-- The peer's recorded receive state, by the order of R198 for framer states, and its halted flag (R42). -/
def PeerRecord.bytes (p : PeerRecord) : Bytes := e1 (p.state + 1) ++ eFlag p.halted

/-- A pending profile switch: target and countdown. -/
def switchBytes (target count : Nat) : Bytes := e1 target ++ e1 count

/-- The figures of a run, by its kind (R161), filled to one length for all kinds (log 12). -/
def figureBytes (kind : TestKind) (blocks : Nat) (f : RunFigures) : Bytes :=
  padTo 16 (match kind with
    | .linkPattern => e4 (f.frames * blocks) ++ e4 f.checked ++ e4 f.bad ++ e4 f.reports
    | .refCross => eNs f.largest ++ e4 f.compared
    | .sensorCheck => e4 f.gateCount ++ eFlag f.gates.1 ++ eFlag f.gates.2.1 ++ eFlag f.gates.2.2)

/-- A record of the result log (R161). -/
def LogRecord.bytes (r : LogRecord) : Bytes :=
  e1 r.idx ++ e1 r.kind.code ++ e1 r.id ++ eFlag r.round ++ e1 r.outcome.code ++ e1 r.cause.code ++ eTime r.time
    ++ e1 r.phase.code ++ figureBytes r.kind r.blocks r.fig

/-- The active run with its plan index, run id, kind, state, round flag and figures (R163). -/
def Run.bytes (r : Run) : Bytes :=
  e1 r.idx ++ e1 r.id ++ e1 r.entry.kind.code ++ e1 r.state.code ++ eFlag r.round
    ++ figureBytes r.entry.kind r.entry.blocks r.fig

/-- The outstanding record (10.3). -/
def Outstanding.bytes (o : Outstanding) : Bytes :=
  e1 o.row ++ e1 o.resp.code ++ e1 o.rank ++ eTime o.time ++ e1 o.phase.code

/-- One row of the fault table as R175 lists it. DESIGN CHOICE (log 12): what was done at the last raise, and its time, are
absent optional values for a row never raised, and the response in force is absent in HALT, where none is. -/
def State.faultRowBytes (s : State) (r : Nat) : Bytes :=
  let row := s.fmn.rows[r]?.getD {}
  e1 r ++ eFlag row.active ++ eFlag row.latched ++ eFlag row.masked ++ e4 row.detail ++ eOpt 8 (row.time.map eTime)
    ++ eCount row.count ++ eOpt 1 ((s.fmn.response (rowClass r) s.spc.phase).map (fun x => e1 x.code))
    ++ eOpt 1 (row.done.map (fun d => e1 d.code))

/-- All 21 rows (R173, R175). DESIGN CHOICE (log 12): no count byte stands before them. -/
def State.faultRowsBytes (s : State) : Bytes := ((List.range 21).map s.faultRowBytes).flatten

/-- The row TEST_FAIL is active. -/
def State.testFail (s : State) : Bool := ((s.fmn.rows[8]?).map (·.active)).getD false

/-- What the transmit and receive maps are (R143), without the cause. -/
def State.mapsBytes (s : State) : Bytes :=
  e1 s.lfr.tx.map.ver ++ s.lfr.tx.map.counts.bytes ++ eOpt 1 (s.lfr.tx.map.prof.map e1)
    ++ eOpt 10 (s.lfr.tx.mpend.map (fun p => e1 p.ver ++ p.counts.bytes ++ e1 p.prof ++ e1 p.count ++ eFlag p.tied))
    ++ e1 s.lfr.rx.map.ver ++ s.lfr.rx.map.counts.bytes
    ++ eOpt 8 (s.lfr.rx.mpend.map (fun p => e1 p.ver ++ p.counts.bytes ++ e1 p.count))
    ++ e1 s.lfr.tx.lastVer

/-- A last judgement: verdict, the reason of a bad second, the phase error of a good one (R77). DESIGN CHOICE (log 12): the
verdict takes 1 byte. -/
def judgementBytes (v : Option (Verdict × Option BadReason × Option Int)) : Bytes :=
  eOpt 12 (v.map (fun j => e1 j.1.code ++ eOpt 1 (j.2.1.map (fun r => e1 r.code)) ++ eOpt 8 (j.2.2.map eNs)))

/-- The phase error of a good second of L: the e of the best mark (R69). -/
def LJudgement.e (j : LJudgement) : Option Int :=
  if j.verdict = .good then j.best.map (·.e) else none

/-- What a REF notice says of G (R77). -/
def State.refG (s : State) : Bytes :=
  e1 s.rfm.g.mode.code ++ e4 s.rfm.g.k ++ e4 s.rfm.g.streak
    ++ judgementBytes (s.rfm.lastG.map (fun j => (j.verdict, j.reason, j.e)))

/-- What a REF notice says of L (R77). DESIGN CHOICE (log 12): the count of accepted marks is 0 before the first judgement. -/
def State.refL (s : State) : Bytes :=
  e1 s.rfm.l.mode.code ++ e4 s.rfm.l.k ++ e4 s.rfm.l.streak
    ++ judgementBytes (s.rfm.lastL.map (fun j => (j.verdict, j.reason, j.e)))
    ++ e4 ((s.rfm.lastL.map (·.accepted)).getD 0) ++ eOpt 8 ((s.rfm.lastL.bind (·.best)).map (fun m => eNs m.d))

/-! ### Contents of notices -/

/-- PHASE (R3); the prove state and round number are the ones of the change (R19). -/
def State.phaseContent (s : State) (prove : ProveState) (roundNo : Nat) : Bytes :=
  e1 s.spc.phase.code ++ e1 s.spc.left.code ++ e1 s.spc.cause.code ++ e1 prove.code ++ e1 roundNo

/-- ALIGN (R15). -/
def State.alignContent (s : State) : Bytes := s.spc.record.bytes ++ e1 s.lfr.rx.framer.code

/-- LINK (R42). -/
def State.linkContent (s : State) : Bytes :=
  e1 s.lfr.rx.framer.code ++ e1 s.lfr.tx.framer.code ++ eFlag s.lfr.tx.fallback ++ eFlag s.lfr.tx.hold
    ++ eOpt 2 (s.lfr.rx.peer.map PeerRecord.bytes) ++ eCount s.lfr.counts.down

/-- PROFILE (R52). -/
def State.profileContent (s : State) : Bytes :=
  e1 s.lfr.tx.prof ++ eOpt 2 (s.lfr.tx.pend.map (fun p => switchBytes p.target p.count))
    ++ e1 s.lfr.rx.prof ++ eOpt 2 (s.lfr.rx.pend.map (fun p => switchBytes p.target p.count))
    ++ e1 s.lau.wish ++ eOpt 1 ((s.lfr.rx.peer.bind (·.wish)).map e1) ++ eOpt 1 (s.lau.fix.map e1)
    ++ e1 s.lau.ceiling ++ e1 s.lau.hostCap ++ e1 s.tlm.cap ++ e1 s.fmn.cap ++ e4 s.lau.upStreak
    ++ e4 s.lau.floorStreak

/-- A gate count is valid (R53). -/
def gateValid (count : Nat) : Bool := decide (100 ≤ count) && decide (count ≤ 20000)

/-- THERMAL (R61). -/
def State.thermalContent (s : State) : Bytes :=
  e1 s.tlm.level ++ e1 s.tlm.cap ++ e1 s.tlm.sensor ++ e1 s.tlm.hotHold ++ eFlag s.hot ++ eFlag s.tlm.failSafe
    ++ e4 s.tlm.gateCount ++ eFlag s.tlm.last3.1 ++ eOpt 1 (s.tlm.range.map e1) ++ eFlag s.tlm.enabled
    ++ eFlag s.tlm.locked

/-- The wait-to-restore timer that runs, if one does (R73, R77): it runs for one reference at most. -/
def Rfm.wait (m : Rfm) : Option Nat := m.g.wait.or m.l.wait

/-- The selection and any wait-to-restore timer running (R77). -/
def Rfm.choiceBytes (m : Rfm) : Bytes := e1 (selCode m.sel) ++ eOpt 4 (m.wait.map e4)

/-- REF (R77). -/
def State.refContent (s : State) (r : Ref) : Bytes :=
  match r with
  | .g => s.refG ++ s.rfm.choiceBytes
  | .l => s.refL ++ s.rfm.choiceBytes

/-- TIME (R96). -/
def State.timeContent (s : State) : Bytes :=
  eTime s.dsu.time ++ e1 s.dsu.loop.code ++ e1 s.dsu.left.code ++ e1 s.dsu.cause.code ++ ePpt s.dsu.c ++ ePpt s.dsu.i
    ++ e4 s.dsu.u ++ e4 s.dsu.hclock ++ eCount s.dsu.steps
    ++ eOpt 16 (s.dsu.landing.map (fun l => eTime l.1 ++ eNs l.2))

/-- TENANT (R116). DESIGN CHOICE (log 12): a refit timer that does not run is given as 0 ms. -/
def Tenant.content (t : Tenant) : Bytes :=
  e1 t.state.code ++ e1 t.left.code ++ e1 t.cause.code ++ eOpt 1 (t.fit.map (fun f => e1 f.code))
    ++ e4 (framesToMs (t.refit.getD 0)) ++ eFlag t.link ++ eFlag t.permit

/-- MAP (R143). -/
def State.mapContent (s : State) : Bytes := s.mapsBytes ++ e1 s.lfr.mapCause.code

/-- TEST (R163). DESIGN CHOICE (log 12): the runs just removed are named by their plan indices. -/
def State.testContent (s : State) : Bytes :=
  eOpt 21 (s.stu.queue.head?.map Run.bytes) ++ eList (s.stu.queue.tail.map (fun r => e1 r.idx))
    ++ eOpt 31 (s.stu.log.head?.map LogRecord.bytes) ++ eList (s.stu.removed.map e1) ++ eOpt 1 (s.sha.grant.map e1)
    ++ eFlag s.testFail

/-- FAULT (R175). -/
def State.faultContent (s : State) (r : Nat) : Bytes :=
  s.faultRowBytes r ++ eOpt 12 (s.fmn.out.map Outstanding.bytes) ++ e1 s.fmn.cap

/-- NOTE (R41). -/
def State.noteContent (s : State) : Bytes := e4 s.lfr.rx.relay.length ++ e4 s.lfr.rx.relayLost

/-- A byte of the image buffer; an unlisted address reads 0. -/
def Memory.read : Memory → Nat → Byte
  | [], _ => 0
  | (k, b) :: m, a => if k = a then b else Memory.read m a

/-- `n` bytes of the image buffer from address `a` on. -/
def Memory.readBytes (m : Memory) (a : Nat) : Nat → Bytes
  | 0 => []
  | n + 1 => Memory.read m a :: Memory.readBytes m (a + 1) n

/-- The image length field of the buffer (11.1). -/
def Il.length (il : Il) : Nat := readLe (il.buffer.readBytes 2 2)

/-- The section count of the buffer (11.1). -/
def Il.count (il : Il) : Nat := (il.buffer.read 4).toNat

/-- The rejection reason and position, none before any rejection. -/
def Il.rejectBytes (il : Il) : Bytes := eOpt 3 (il.reject.map (fun r => e1 r.1.code ++ e2 r.2))

/-- The save state with the outcome and bytes written of the last save. -/
def Il.saveBytes (il : Il) : Bytes := eFlag il.saving ++ eOpt 5 (il.lastSave.map (fun r => e1 r.1.code ++ e4 r.2))

/-- IMAGE (R188). -/
def Il.content (il : Il) : Bytes :=
  e1 il.state.code ++ eOpt 1 (il.source.map (fun x => e1 x.code)) ++ il.rejectBytes ++ eOpt 1 (il.answered.map eFlag)
    ++ il.saveBytes ++ e2 il.length ++ e4 il.count

/-! ### Bodies of replies -/

/-- The line rate of the straps (R190), BAUD_SEL1 first. -/
def lineRate : Bool × Bool → Nat
  | (false, false) => 115200
  | (false, true) => 460800
  | (true, false) => 921600
  | (true, true) => 3000000

/-- The counts of R200. DESIGN CHOICE (log 12): the requests refused by each status code are seven counts, codes 1 to 7 in
code order, without a count byte. -/
def PortCounts.bytes (c : PortCounts) : Bytes :=
  eCount c.received ++ eCount c.hunt ++ eCount c.length ++ eCount c.crc ++ eCount c.timeout ++ eCount c.byteError
    ++ eCount c.replyKind ++ eCount c.answered ++ (c.refused.map eCount).flatten ++ eCount c.busy ++ eCount c.overrun
    ++ eCount c.notices ++ eCount c.replaced

/-- IDENT (R200). DESIGN CHOICE (log 12): the role and the ATTN mode take 1 byte. -/
def State.identBody (s : State) : Bytes :=
  le 2 Config.partNumber ++ [Config.siliconRevision] ++ e1 Config.imageFormat ++ e4 (lineRate s.mp.baud)
    ++ e1 s.spc.phase.code ++ s.roleBytes ++ s.mp.counts.bytes ++ e4 s.mp.inbound.length ++ e4 s.mp.store.length
    ++ e4 s.mp.notices.length ++ [s.mp.seq] ++ e1 s.mp.attnMode.code

/-- PHASE_GET (R10). -/
def State.phaseBody (s : State) : Bytes :=
  e1 s.spc.phase.code ++ e1 s.spc.cause.code ++ e1 s.spc.prove.code ++ e1 s.spc.roundNo
    ++ e4 (framesToMs (s.spc.retry.getD 0)) ++ e4 (framesToMs (s.spc.recover.getD 0)) ++ s.roleBytes
    ++ s.spc.record.bytes

/-- IMAGE_READ (R184). -/
def State.imageReadBody (s : State) (off n : Nat) : Bytes :=
  s.il.buffer.readBytes off n ++ e1 s.il.state.code ++ eFlag s.il.saving ++ s.il.rejectBytes ++ e2 s.il.length

/-- LINK_GET (R42). -/
def State.linkBody (s : State) : Bytes :=
  let c := s.lfr.counts
  e1 s.lfr.rx.framer.code ++ e1 s.lfr.tx.framer.code ++ eFlag s.lfr.tx.fallback ++ eFlag s.lfr.tx.hold
    ++ eOpt 2 (s.lfr.rx.peer.map PeerRecord.bytes)
    ++ eCount c.good ++ eCount c.bad ++ eCount c.missing ++ eCount c.malformedHeader ++ eCount c.down
    ++ eCount c.blocksRead ++ eCount c.mismatch ++ eCount c.uncorrectable ++ eCount c.malformedLabel
    ++ eCount c.discardedService
    ++ e2 s.lfr.tx.frameNo.toNat ++ e2 s.lfr.rx.frameNo.toNat
    ++ e1 s.lfr.tx.prof ++ eOpt 2 (s.lfr.tx.pend.map (fun p => switchBytes p.target p.count))
    ++ e1 s.lfr.rx.prof ++ eOpt 2 (s.lfr.rx.pend.map (fun p => switchBytes p.target p.count))
    ++ e1 s.lfr.tx.map.ver ++ eOpt 2 (s.lfr.tx.mpend.map (fun p => e1 p.ver ++ e1 p.count))
    ++ e1 s.lfr.rx.map.ver ++ eOpt 2 (s.lfr.rx.mpend.map (fun p => e1 p.ver ++ e1 p.count))
    ++ eOpt 1 ((s.lfr.rx.peer.bind (·.wish)).map e1) ++ e1 s.lau.wish ++ eOpt 1 (s.lau.fix.map e1)
    ++ e4 s.lfr.tx.svc.length ++ e4 s.lfr.rx.relay.length

/-- PROFILE_CAP (R49). -/
def State.capBody (s : State) : Bytes := e1 s.lau.hostCap ++ e1 s.tlm.cap ++ e1 s.fmn.cap ++ e1 s.lau.ceiling

/-- NOTE_READ (R41): the note taken, if any, its arrival, the notes still waiting, the discarded count. -/
def noteReadBody (note : Option RelayNote) (waiting lost : Nat) : Bytes :=
  eList ((note.map (fun n => n.bytes.map (fun b => [b]))).getD []) ++ eOpt 8 (note.map (fun n => eTime n.arrived))
    ++ e4 waiting ++ e4 lost

/-- THERMAL_GET (R61). DESIGN CHOICE: the validity of the last three gates stands newest first (log 12), and the highest
range is 0 while the cool-down streak is 0 (log 45). -/
def State.thermalBody (s : State) : Bytes :=
  s.thermalContent ++ e4 s.tlm.cool ++ e1 s.tlm.coolHigh ++ e4 s.tlm.invalid ++ e4 s.tlm.valid ++ e4 s.tlm.hotRelease
    ++ eFlag s.tlm.last3.1 ++ eFlag s.tlm.last3.2.1 ++ eFlag s.tlm.last3.2.2 ++ s.tlm.bytes

/-- The mean of the ring (R88). -/
def Dsu.ringMean (d : Dsu) : Int := roundDiv d.ring.sum d.ring.length

/-- The phase error of a report. -/
def Report.e : Report → Option Int
  | .phase e => some e
  | _ => none

/-- TIME_GET (R96). DESIGN CHOICE (log 12): the mean of an empty history ring is an absent optional value, a pending step
and a pending seconds setting have a flag each, and the present tenants are listed in tenant order. -/
def State.timeBody (s : State) : Bytes :=
  let d := s.dsu
  eTime d.time ++ e1 d.loop.code ++ ePpt d.c ++ ePpt d.i ++ ePpt d.p ++ e4 d.u ++ e4 d.hclock ++ e4 d.acq ++ e4 d.trk
    ++ eCount d.steps ++ e4 d.ring.length ++ eOpt 4 (if d.ring = [] then none else some (ePpt d.ringMean))
    ++ eFlag d.pendStep.isSome ++ eFlag d.pendSec.isSome
    ++ eOpt 10 (d.report.map (fun r => e1 r.code ++ eOpt 8 (r.e.map eNs))) ++ d.set.bytes
    ++ eList (tenants.filterMap (fun i => (s.tpt.get i).entry.map (fun e =>
        e1 e.timing.code ++ eFlag (timingFit e d.loop d.u))))

/-- TIME_SET (R95). DESIGN CHOICE (log 12): the seconds value is an optional one, the pending N, and absent while none is
pending; the priority, the selection, P_SHIFT and I_SHIFT take 1 byte. -/
def State.timeSetBody (s : State) : Bytes :=
  eOpt 4 (s.dsu.pendSec.map (fun n => le 4 n.toNat)) ++ e1 s.rfm.set.priority.code ++ e4 s.rfm.set.cable
    ++ e4 s.rfm.set.ppsTol ++ eNs s.rfm.set.asym ++ e4 s.rfm.set.delayMax ++ e1 s.dsu.set.pShift
    ++ e1 s.dsu.set.iShift ++ e1 (selCode s.rfm.sel) ++ eFlag s.dsu.pendSec.isSome

/-- The entry of a tenant, or its absence. -/
def State.entryBytes (s : State) (i : Fin 4) : Bytes := eOpt 24 ((s.tpt.get i).entry.map (Entry.bytes i))

/-- TENANT_SET (R101). -/
def State.tenantSetBody (s : State) (i : Fin 4) : Bytes :=
  s.entryBytes i ++ e1 (s.tpt.get i).state.code ++ eOpt 1 ((s.tpt.get i).fit.map (fun f => e1 f.code))

/-- The twelve counts of R116. -/
def TenantCounts.bytes (c : TenantCounts) : Bytes :=
  eCount c.accepted ++ eCount c.acceptedBytes ++ eCount c.sent ++ eCount c.noRoom ++ eCount c.badLength
    ++ eCount c.barred ++ eCount c.flushed ++ eCount c.delivered ++ eCount c.egressNoRoom ++ eCount c.egressDown
    ++ eCount c.egressDiscard ++ eCount c.broken

/-- TENANT_GET (R116). DESIGN CHOICE (log 12): the send offset of an empty queue is 0. -/
def State.tenantBody (s : State) (i : Fin 4) : Bytes :=
  let t := s.tpt.get i
  s.entryBytes i ++ e1 t.state.code ++ eOpt 1 (t.fit.map (fun f => e1 f.code)) ++ e4 (framesToMs (t.refit.getD 0))
    ++ eFlag t.link ++ e4 (occupancy t.queue) ++ e4 t.queue.length ++ e4 t.sendOff ++ e4 (occupancy t.egress)
    ++ e4 t.snapA ++ e4 t.snapQ ++ e1 (t.demand (blockBytes s.lfr.tx.prof)) ++ e4 t.secDrops ++ t.counts.bytes

/-- A tenant's figures in the computation record (R130). -/
def ShareFigures.bytes (f : ShareFigures) : Bytes :=
  e1 f.state.code ++ eOpt 1 (f.cls.map (fun c => e1 c.code)) ++ eOpt 1 (f.d.map e1) ++ eOpt 1 (f.g.map e1)
    ++ eOpt 1 (f.e.map e1) ++ eOpt 1 (f.c.map e1) ++ eOpt 1 (f.want.map e1) ++ e1 f.given

/-- The computation record (R130), 78 bytes. DESIGN CHOICE (log 12): a grant given and a grant revoked have a flag each,
and the figures of the four tenants stand without a count byte. -/
def ShareRecord.bytes (r : ShareRecord) : Bytes :=
  e1 r.trigger.code ++ e1 r.kind.code ++ e1 r.prof ++ e4 r.bb ++ e1 r.r ++ e1 r.s ++ e1 r.spare ++ eFlag r.scaled
    ++ e1 r.tReq ++ eOpt 1 (r.grant.map e1) ++ eFlag r.gave ++ eFlag r.revoked ++ e1 r.rExcess ++ e4 r.rounds
    ++ eFlag r.remainderPass ++ (r.tenants.toList.map ShareFigures.bytes).flatten

/-- The first position of each owner in the layout of R133: TEST, tenants 0 to 3, IDLE. DESIGN CHOICE (log 12): an optional
value of 1 byte, absent for an owner without blocks, and no count byte before the six. -/
def MapCounts.firstBytes (c : MapCounts) : Bytes :=
  let first (n at_ : Nat) : Bytes := eOpt 1 (if n = 0 then none else some (e1 (2 + at_)))
  first c.test 0 ++ first c.ten.t0 c.test ++ first c.ten.t1 (c.test + c.ten.t0)
    ++ first c.ten.t2 (c.test + c.ten.t0 + c.ten.t1) ++ first c.ten.t3 (c.test + c.ten.t0 + c.ten.t1 + c.ten.t2)
    ++ first c.idle c.used

/-- MAP_GET (R144). -/
def State.mapBody (s : State) : Bytes :=
  s.mapContent ++ s.sha.newest.counts.bytes ++ e1 s.sha.newest.prof
    ++ eOpt 1 (s.sha.newest.kind.map (fun k => e1 k.code)) ++ eOpt 1 (s.lfr.fate.map (fun f => e1 f.code))
    ++ eOpt 78 (s.sha.record.map ShareRecord.bytes) ++ s.lfr.tx.map.counts.firstBytes
    ++ s.lfr.rx.map.counts.firstBytes
    ++ eCount s.lfr.mcounts.announced ++ eCount s.lfr.mcounts.superseded ++ eCount s.lfr.mcounts.tied
    ++ eCount s.lfr.mcounts.withheld ++ eCount s.lfr.mcounts.setAside ++ eCount s.lfr.mcounts.discarded
    ++ eCount s.lfr.mcounts.rxTaken ++ eCount s.lfr.mcounts.corrections

/-- The time left on the active run's grant timer or drain wait, in frames. -/
def Run.timeLeft (r : Run) : Nat := (r.grantLeft.orElse (fun _ => r.drainLeft)).getD 0

/-- The far-end checker as TEST_LOG gives it (R158). -/
def State.checkerBytes (s : State) : Bytes :=
  let c := s.stu.chk
  eFlag c.armed ++ e1 c.id ++ e4 c.window
    ++ eOpt 13 (c.lastReport.map (fun r => e1 r.1 ++ e4 r.2.1 ++ e4 r.2.2.1 ++ e4 r.2.2.2)) ++ eCount c.starts
    ++ eCount c.sent ++ eCount s.stu.lost

/-- TEST_LOG (R161). DESIGN CHOICE (log 12): the due counters are listed in plan order. -/
def State.testLogBody (s : State) : Bytes :=
  eList (s.stu.log.map LogRecord.bytes) ++ eOpt 21 (s.stu.queue.head?.map Run.bytes)
    ++ e4 (framesToMs ((s.stu.queue.head?.map Run.timeLeft).getD 0)) ++ eList (s.stu.queue.tail.map (fun r => e1 r.idx))
    ++ eList ((s.stu.plan.zip s.stu.due).filterMap (fun p =>
        if p.1.schedule = .periodic then some (e4 p.2) else none))
    ++ eList (s.stu.decisive.map (fun d => e1 d.code)) ++ eFlag s.testFail ++ eCount s.stu.stale ++ eCount s.stu.lost
    ++ s.checkerBytes

/-- The outstanding record, the fault cap, FAULT_CAP, the table and the raises of the last second, after the rows
(R175). DESIGN CHOICE (log 12): FAULT_CAP stands once, in front of the 24 responses, which have no count byte. -/
def State.faultBody (s : State) : Bytes :=
  s.faultRowsBytes ++ eOpt 12 (s.fmn.out.map Outstanding.bytes) ++ e1 s.fmn.cap ++ e1 s.fmn.capSet
    ++ (s.fmn.table.map (fun p => e1 p.bringup.code ++ e1 p.service.code)).flatten ++ e4 s.fmn.lastRaises

end Sys2Proof.Machine
end

