-- ==== Sys2Proof/Machine/Ops.lean ====
section
/-! DEFINITION. The shared operations: the image buffer, the notice queue with ATTN (R195, R197), the service queue
(R38, R39), the ceiling (R49), and raising and clearing a row at the Fault Monitor (R164 to R169). -/

namespace Sys2Proof.Machine

/-! ### The image buffer -/

/-- The bytes of the image buffer (R187). -/
def bufferSize : Nat := 1024

/-- One cell put in its place: the canonical form is kept, and a 0, what an unlisted address reads as, leaves no cell. -/
def Memory.put : Memory → Nat → Byte → Memory
  | [], a, b => if b = 0 then [] else [(a, b)]
  | (k, c) :: m, a, b =>
    if a < k then (if b = 0 then (k, c) :: m else (a, b) :: (k, c) :: m)
    else if a = k then (if b = 0 then m else (a, b) :: m)
    else (k, c) :: Memory.put m a b

/-- One byte written; there is no byte outside the buffer. -/
def Memory.write (m : Memory) (a : Nat) (b : Byte) : Memory := if a < bufferSize then m.put a b else m

/-- Bytes written from address `a` on. -/
def Memory.writeBytes (m : Memory) (a : Nat) : Bytes → Memory
  | [] => m
  | b :: bs => Memory.writeBytes (m.write a b) (a + 1) bs

/-- The buffer that holds `bs` from byte 0 on and 0 elsewhere. -/
def Memory.ofBytes (bs : Bytes) : Memory := Memory.writeBytes [] 0 bs

/-- Every cell lies above `lo` and inside the 1024 bytes, in rising order, and none holds 0. -/
def Memory.wfFrom (lo : Nat) : Memory → Bool
  | [] => true
  | (k, b) :: m => decide (lo ≤ k) && decide (k < bufferSize) && decide (b ≠ 0) && Memory.wfFrom (k + 1) m

/-- The canonical form of the image buffer. -/
def Memory.wf (m : Memory) : Bool := Memory.wfFrom 0 m

/-! ### Notices and ATTN -/

/-- Same kind and subject (R195). -/
def Notice.key (n : Notice) : NoticeKind × Nat := (n.kind, n.subject)

/-- A waiting notice's content replaced, in its place (R195). -/
def replaceNotice (n : Notice) : List Notice → List Notice
  | [] => []
  | x :: xs => if x.key = n.key then n :: xs else x :: replaceNotice n xs

/-- The frame times of a pulse of the ATTN mode (R197). -/
def AttnMode.frames : AttnMode → Option Nat
  | .level => none
  | .pulse1 => some 8
  | .pulse100 => some 800

/-- A notice has entered the queue, which was empty before when `wasEmpty` (R197). -/
def Mp.attnEnter (m : Mp) (wasEmpty : Bool) : Mp :=
  match m.attnMode.frames with
  | none => { m with attn := true }
  | some n => if wasEmpty && m.pulse.isNone then { m with attn := true, pulse := some n } else m

/-- A notice is queued at the port (R195). -/
def Mp.push (m : Mp) (n : Notice) : Mp :=
  if m.notices.any (fun x => x.key = n.key) then
    { m with notices := replaceNotice n m.notices, counts.replaced := m.counts.replaced + 1 }
  else
    { m with notices := m.notices ++ [n] }.attnEnter m.notices.isEmpty

/-- A notice is queued: its subject's byte opens the body when it is sent (12.4). -/
def State.notify (s : State) (kind : NoticeKind) (subject : Nat) (content : Bytes) : State :=
  { s with mp := s.mp.push ⟨kind, subject, content⟩ }

/-- A LINK notice (R42). -/
def State.noteLink (s : State) : State := s.notify .link 0 s.linkContent

/-- A PROFILE notice (R52). -/
def State.noteProfile (s : State) : State := s.notify .profile 0 s.profileContent

/-- A THERMAL notice (R61). -/
def State.noteThermal (s : State) : State := s.notify .thermal 0 s.thermalContent

/-- A REF notice for one reference (R77). -/
def State.noteRef (s : State) (r : Ref) : State := s.notify .ref r.code (s.refContent r)

/-- A TIME notice (R96). -/
def State.noteTime (s : State) : State := s.notify .time 0 s.timeContent

/-- A TENANT notice (R116). -/
def State.noteTenant (s : State) (i : Fin 4) : State := s.notify .tenant i.val (s.tpt.get i).content

/-- A MAP notice with its cause (R143). -/
def State.noteMap (s : State) (c : MapCause) : State :=
  let s := { s with lfr.mapCause := c }
  s.notify .map 0 s.mapContent

/-- A TEST notice (R163). -/
def State.noteTest (s : State) : State := s.notify .test 0 s.testContent

/-- A FAULT notice for a row (R175). -/
def State.noteFault (s : State) (r : Nat) : State := s.notify .fault r (s.faultContent r)

/-- An IMAGE notice (R188). -/
def State.noteImage (s : State) : State := s.notify .image 0 s.il.content

/-- An ALIGN notice (R15). -/
def State.noteAlign (s : State) : State := s.notify .align 0 s.alignContent

/-! ### The service queue (R38, R39) -/

/-- The service queue has room. -/
def LfrTx.svcRoom (t : LfrTx) : Bool := decide (t.svc.length < 8)

/-- A TEST_START among the messages. -/
def SvcMsg.isStart : SvcMsg → Bool
  | .testStart _ _ _ => true
  | _ => false

/-- A TEST_REPORT among the messages. -/
def SvcMsg.isReport : SvcMsg → Bool
  | .testReport _ _ _ _ => true
  | _ => false

/-- The Self-Test Unit offers a message: it enters the queue if there is room, and is kept otherwise (R39). -/
def State.offer (s : State) (m : SvcMsg) : State :=
  if s.lfr.tx.svcRoom then { s with lfr.tx.svc := s.lfr.tx.svc ++ [m] }
  else { s with stu.kept := s.stu.kept ++ [m] }

/-- The kept messages are offered again, the one kept earlier first (R39). There are at most two. -/
def State.offerKept (s : State) : State :=
  let room := 8 - s.lfr.tx.svc.length
  { s with lfr.tx.svc := s.lfr.tx.svc ++ s.stu.kept.take room, stu.kept := s.stu.kept.drop room }

/-! ### The ceiling (R49) -/

/-- The ceiling is recomputed; a change queues a PROFILE notice. -/
def State.recomputeCeiling (s : State) : State :=
  if s.ceilingNow = s.lau.ceiling then s else { s with lau.ceiling := s.ceilingNow }.noteProfile

/-! ### The Fault Monitor (R164 to R169) -/

/-- A row of the fault table; there are 21. -/
def Fmn.row (f : Fmn) (r : Nat) : FaultRow := (f.rows[r]?).getD {}

/-- The fault table with one row changed. -/
def Fmn.modifyRow (f : Fmn) (r : Nat) (g : FaultRow → FaultRow) : Fmn := { f with rows := f.rows.modify r g }

/-- What an owner hands over with a raise: the row's detail and the phase that decides (R166). -/
structure Raise where
  row : Nat
  detail : Nat
  phase : Phase
  deriving DecidableEq, Repr

/-- The raise is recorded on its row (R164). DESIGN CHOICE (log 65): the count of the site second takes every raise. -/
def State.recordRaise (s : State) (x : Raise) : State :=
  { s with fmn := { s.fmn.modifyRow x.row (fun w =>
      { w with active := true, time := some s.dsu.time, detail := x.detail, count := w.count + 1 }) with
      secRaises := s.fmn.secRaises + 1 } }

/-- The row is latched, because no response is in force or it is NONE (R166). -/
def State.latchRow (s : State) (r : Nat) : State :=
  { s with fmn := s.fmn.modifyRow r (fun w => { w with latched := true, done := some .latched }) }

/-- The row is masked (R167). -/
def State.maskRow (s : State) (r : Nat) : State :=
  { s with fmn := s.fmn.modifyRow r (fun w => { w with latched := true, masked := true, done := some .masked }) }

/-- A RESEEK handed over where the phase has no edge to SEEK acts as NOTE (R171). -/
def actsAs (resp : Response) (p : Phase) : Response :=
  if resp = .reseek && (decide (p = .load) || decide (p = .align) || decide (p = .seek)) then .note else resp

/-- The tenant of a tenant row (10.1). -/
def rowTenant (r : Nat) : Fin 4 := Fin.ofNat 4 ((r + 3) % 4)

/-- The fault table and record once a response is taken: the row is marked, a record it replaces leaves its row latched
(R168), and the record is written. DESIGN CHOICE (log 49): a replaced record's row is latched also when it is the row now
taken. -/
def Fmn.respond (f : Fmn) (x : Raise) (resp : Response) (now : SiteTime) : Fmn :=
  let acted := actsAs resp x.phase
  let g := f.modifyRow x.row (fun w => { w with done := some (if acted = resp then .taken else .takenAsNote) })
  let g := match f.out with
    | some o => g.modifyRow o.row (fun w => { w with latched := true })
    | none => g
  { g with out := some ⟨x.row, acted, acted.rank, now, x.phase⟩ }

/-- The action of a response begins (R169 to R171): the cap's at once, and BAR, RESEEK and HALT are left in `work`
(log 5). -/
def State.beginAction (s : State) (r : Nat) (acted : Response) : State :=
  match acted with
  | .cap => { s with fmn.capOn := true }.recomputeCeiling
  | .bar => { s with work.acts := s.work.acts ++ [Action.bar (rowTenant r)] }
  | .reseek => { s with work.acts := s.work.acts ++ [Action.reseek] }
  | .halt => { s with work.acts := s.work.acts ++ [Action.halt] }
  | .note | .none => s

/-- A FAULT notice for the row of a replaced record, if it is another row (R175). -/
def State.noteReplaced (s : State) (old : Option Outstanding) (r : Nat) : State :=
  match old with
  | some o => if o.row = r then s else s.noteFault o.row
  | none => s

/-- A response is taken: the record is written, its action begins and the FAULT notices are queued, that of the row taken
before that of the row replaced (R168 to R171, R175; log 58). -/
def State.takeResponse (s : State) (x : Raise) (resp : Response) : State :=
  let t : State := { s with fmn := s.fmn.respond x resp s.dsu.time }
  (((t.beginAction x.row (actsAs resp x.phase)).noteFault x.row)).noteReplaced s.fmn.out x.row

/-- A raise that has been recorded is answered, masked or latched (R166, R167). The rank compared is that of the response
in force, also where a RESEEK then acts as a NOTE (R171; log 29). -/
def State.answerRaise (s : State) (x : Raise) : State :=
  match s.fmn.response (rowClass x.row) x.phase with
  | none => (s.latchRow x.row).noteFault x.row
  | some .none => s.latchRow x.row
  | some resp =>
    match s.fmn.out with
    | some o =>
      if resp.rank ≤ o.rank then (s.maskRow x.row).noteFault x.row else s.takeResponse x resp
    | none => s.takeResponse x resp

/-- An owner hands a row over as active (R164): a row already active stays as it is. -/
def State.raise (s : State) (x : Raise) : State :=
  if (s.fmn.row x.row).active then s else (s.recordRaise x).answerRaise x

/-- The phase that a raise is handed over with (R166): the one before the event moved it, or the one that stands. -/
def State.raisePhase (s : State) : Phase := s.work.phase.getD s.spc.phase

/-- A row is raised in the event being taken (R164, R166). -/
def State.raiseNow (s : State) (row detail : Nat) : State := s.raise ⟨row, detail, s.raisePhase⟩

/-- The row is latched, masked or named by the outstanding record (R175). -/
def Fmn.shown (f : Fmn) (r : Nat) : Bool :=
  (f.row r).latched || (f.row r).masked || (match f.out with | some o => decide (o.row = r) | none => false)

/-- An owner hands a row over as inactive (R164). -/
def State.clear (s : State) (r : Nat) : State :=
  if (s.fmn.row r).active then
    let s := { s with fmn := s.fmn.modifyRow r (fun w => { w with active := false }) }
    if s.fmn.shown r then s.noteFault r else s
  else s

/-! ### Allocation triggers (R119) -/

/-- A trigger of an allocation arises in this event; the first that is of kind EVENT names the computation (log 5). -/
def State.wantAlloc (s : State) (t : Trigger) : State :=
  match s.work.alloc with
  | none => { s with work.alloc := some t }
  | some .periodEnd => { s with work.alloc := some t }
  | some _ => s

end Sys2Proof.Machine
end

