-- ==== Sys2Proof/Machine/Tenants.lean ====
section
/-! DEFINITION. The Tenant Ports (chapter 6): tenant states, fitness, the tenant fault conditions, ingress, egress, and
the cutting of packets into blocks and back. -/

namespace Sys2Proof.Machine

/-- One tenant changed. -/
def State.modTenant (s : State) (i : Fin 4) (f : Tenant → Tenant) : State :=
  { s with tpt := s.tpt.set i (f (s.tpt.get i)) }

/-- `f` done for each tenant in order. -/
def State.forTenants (s : State) (f : State → Fin 4 → State) : State := tenants.foldl f s

/-- The tenant's cause of the next notice, and the notice (R116). -/
def State.tellTenant (s : State) (i : Fin 4) (c : TenantCause) : State :=
  (s.modTenant i (fun t => { t with cause := c })).noteTenant i

/-! ### States (6.2) -/

/-- A tenant goes to another state: TX_PERMIT follows, a TENANT notice is queued, an allocation is triggered (R107). -/
def State.moveTenant (s : State) (i : Fin 4) (st : TenantState) (c : TenantCause) : State :=
  ((s.modTenant i (fun t => { t with left := t.state, state := st, permit := decide (st = .active) })).tellTenant i
    c).wantAlloc .tenantState

/-- A tenant becomes ACTIVE, which clears HOLDOVER_LIMIT (R109), behind the TENANT notice: DESIGN CHOICE (log 58). -/
def State.activate (s : State) (i : Fin 4) (c : TenantCause) : State :=
  (s.moveTenant i .active c).clear (rowHoldover i)

/-- The conditions of R103 for a HELD tenant. -/
def State.readyForActive (s : State) (i : Fin 4) : Bool :=
  let t := s.tpt.get i
  decide (t.state = .held) && decide (s.spc.phase = .service) && t.link && decide (t.fit = some .fit)

/-- A HELD tenant goes on to ACTIVE if R103's conditions hold. -/
def State.tryActive (s : State) (c : TenantCause) (i : Fin 4) : State :=
  if s.readyForActive i then s.activate i c else s

/-- An ACTIVE or UNFIT tenant becomes HELD (R105). -/
def State.hold (s : State) (c : TenantCause) (i : Fin 4) : State :=
  match (s.tpt.get i).state with
  | .active | .unfit => s.moveTenant i .held c
  | .vacant | .held | .barred => s

/-- The ingress queue is flushed; its packets count as flushed and Q of the snapshot becomes 0 (R106, R115). -/
def Tenant.flush (t : Tenant) : Tenant :=
  { t with queue := [], sendOff := 0, snapQ := 0, counts.flushed := t.counts.flushed + BitVec.ofNat 32 t.queue.length }

/-- A tenant is barred (R106): HELD, ACTIVE or UNFIT becomes BARRED; any other state is left. -/
def State.bar (s : State) (i : Fin 4) (c : TenantCause) : State :=
  match (s.tpt.get i).state with
  | .held | .active | .unfit => (s.modTenant i Tenant.flush).moveTenant i .barred c
  | .vacant | .barred => s

/-- A BARRED tenant becomes HELD and goes on to ACTIVE if it can (R106). -/
def State.unbar (s : State) (i : Fin 4) : State :=
  match (s.tpt.get i).state with
  | .barred => (s.moveTenant i .held .unbar).tryActive .unbar i
  | .vacant | .held | .active | .unfit => s

/-! ### Fitness (R102, R104) -/

/-- A judgement of one tenant's fitness from the loop state and uncertainty (R92, R102): the tenant's notice before its
HOLDOVER_LIMIT (log 58). -/
def State.judgeFitness (s : State) (c : TenantCause) (i : Fin 4) : State :=
  let t := s.tpt.get i
  match t.entry with
  | none => s
  | some e =>
    if timingFit e s.dsu.loop s.dsu.u then
      if t.fit = some .lost then
        (s.modTenant i (fun t => { t with fit := some .refit, refit := some Config.refitFrames })).tellTenant i c
      else s
    else if t.fit = some .lost then s
    else
      let s := (s.modTenant i (fun t => { t with fit := some .lost, refit := none })).tellTenant i c
      if t.state = .active then
        let s := s.moveTenant i .unfit c
        if e.timing = .phase && decide (s.dsu.loop = .holdover) then s.raiseNow (rowHoldover i) i.val else s
      else s

/-- The hand-over of loop state and uncertainty (R91): every tenant is judged. DESIGN CHOICE (log 59): they are judged, and
raise HOLDOVER_LIMIT, in the order of their numbers. -/
def State.handQuality (s : State) : State := s.forTenants (fun s i => s.judgeFitness .fitness i)

/-- The refit timer has run out: the record becomes FIT, and the tenant state moves on it (R102 to R104). -/
def State.refitDone (s : State) (i : Fin 4) : State :=
  if (s.tpt.get i).refit.isSome then
    let s := (s.modTenant i (fun t => { t with refit := none, fit := some .fit })).tellTenant i .fitness
    match (s.tpt.get i).state with
    | .unfit => s.activate i .fitness
    | .held | .vacant | .active | .barred => s.tryActive .fitness i
  else s

/-! ### The table (R99, R101) -/

/-- An entry comes into force for a tenant that had none (R99, R101, R108): its fitness is judged, it becomes HELD, and
PORT_DOWN is raised if its port is down, behind the tenant's notice (log 58). Its drop count of the current second is 0
(log 54). -/
def State.enterEntry (s : State) (i : Fin 4) (e : Entry) (thr : Nat) (c : TenantCause) : State :=
  let s := s.modTenant i (fun t => { t with
    entry := some e, refit := none, thr := thr, secDrops := 0
    fit := some (if timingFit e s.dsu.loop s.dsu.u then .fit else .lost) })
  let s := s.moveTenant i .held c
  if (s.tpt.get i).link then s else s.raiseNow (rowPortDown i) i.val

/-- A tenant becomes VACANT (R101, R108 to R110). DESIGN CHOICE (log 54): the drop count of the current second returns to 0.
DESIGN CHOICE (log 58): HOLDOVER_LIMIT, QUEUE_DROP and PORT_DOWN are cleared in this order. -/
def State.vacate (s : State) (i : Fin 4) : State :=
  let s := s.modTenant i (fun t => { t.flush with entry := none, fit := none, refit := none, thr := 0, secDrops := 0 })
  let s := s.moveTenant i .vacant .tenantSet
  ((s.clear (rowHoldover i)).clear (rowQueueDrop i)).clear (rowPortDown i)

/-- A present tenant's entry is replaced whole (R101, R109). DESIGN CHOICE (log 58): HOLDOVER_LIMIT is cleared before the
TENANT notice of the TENANT_SET. -/
def State.replaceEntry (s : State) (i : Fin 4) (e : Entry) : State :=
  let s := s.modTenant i (fun t => { t with entry := some e })
  let s := s.judgeFitness .tenantSet i
  let s := if e.timing = .phase then s else s.clear (rowHoldover i)
  s.tryActive .tenantSet i

/-- The fixed blocks of all present FIXED entries (R100). -/
def State.fixedSum (s : State) : Nat :=
  (s.tpt.toList.map (fun t => match t.entry with
    | some e => if e.cls = .fixed then e.f else 0
    | none => 0)).sum

/-! ### Ports, ingress and egress -/

/-- A port link changes (R105, R108, R114). DESIGN CHOICE (log 58): PORT_DOWN is raised or cleared before the TENANT notice
and the change of the tenant's state. -/
def State.portLink (s : State) (i : Fin 4) (up : Bool) : State :=
  let t := s.tpt.get i
  if t.link = up then s
  else if up then
    let s := s.modTenant i (fun t => { t with link := true })
    if t.entry.isSome then ((s.clear (rowPortDown i)).tellTenant i .port).tryActive .port i else s
  else
    let s := s.modTenant i (fun t => { t with
      link := false, egress := []
      counts.egressDown := t.counts.egressDown + BitVec.ofNat 32 t.egress.length })
    if t.entry.isSome then ((s.raiseNow (rowPortDown i) i.val).tellTenant i .port).hold .port i else s

/-- The states in which arrivals are queued (6.2). -/
def TenantState.queues (st : TenantState) : Bool :=
  decide (st = .held) || decide (st = .active) || decide (st = .unfit)

/-- A packet arrives at a tenant port (R110, R111). -/
def State.arrive (s : State) (i : Fin 4) (p : Bytes) : State :=
  let t := s.tpt.get i
  if p.length < 64 || 2000 < p.length then
    s.modTenant i (fun t => { t with counts.badLength := t.counts.badLength + 1 })
  else if !t.state.queues then s.modTenant i (fun t => { t with counts.barred := t.counts.barred + 1 })
  else if occupancy t.queue + p.length ≤ 65536 then
    s.modTenant i (fun t => { t with
      queue := t.queue ++ [p], accSince := t.accSince + (p.length + 2)
      counts.accepted := t.counts.accepted + 1
      counts.acceptedBytes := t.counts.acceptedBytes + BitVec.ofNat 32 (p.length + 2) })
  else
    let s := s.modTenant i (fun t => { t with secDrops := t.secDrops + 1, counts.noRoom := t.counts.noRoom + 1 })
    if t.thr ≠ 0 ∧ t.secDrops + 1 = t.thr then s.raiseNow (rowQueueDrop i) i.val else s

/-- The drop counts of the second just ended are judged and start afresh (R110). -/
def State.dropSecond (s : State) (i : Fin 4) : State :=
  let t := s.tpt.get i
  match t.entry with
  | none => s
  | some e =>
    let s := if t.secDrops < t.thr || t.thr = 0 || e.drop = 0 then s.clear (rowQueueDrop i) else s
    s.modTenant i (fun t => { t with secDrops := 0, thr := e.drop })

/-- A completed packet is tested for the egress buffer (R114). -/
def Tenant.deliver (t : Tenant) (p : Bytes) : Tenant :=
  if t.entry.isNone then { t with counts.egressDiscard := t.counts.egressDiscard + 1 }
  else if !t.link then { t with counts.egressDown := t.counts.egressDown + 1 }
  else if occupancy t.egress + p.length ≤ 16384 then { t with egress := t.egress ++ [p] }
  else { t with counts.egressNoRoom := t.counts.egressNoRoom + 1 }

/-- The port takes the packet at the head of the egress buffer (R114). -/
def Tenant.takeEgress (t : Tenant) : Tenant :=
  match t.egress with
  | [] => t
  | _ :: ps => { t with egress := ps, counts.delivered := t.counts.delivered + 1 }

/-! ### Reassembly (R113) -/

/-- What reading stream bytes from a point in a packet came to: the bytes in progress, the packets completed, whether
the stream broke. -/
structure Reading where
  buf : Bytes
  packets : List Bytes
  broke : Bool
  deriving DecidableEq, Repr

/-- A length prefix outside 64 to 2,000 (R113). -/
def badPrefix (buf : Bytes) : Bool := decide (buf.length = 2) && (decide (readLe buf < 64) || decide (2000 < readLe buf))

/-- The bytes in progress are a whole packet with its prefix. -/
def wholePacket (buf : Bytes) : Bool := decide (2 ≤ buf.length) && decide (buf.length = readLe (buf.take 2) + 2)

/-- Stream bytes read packet after packet, from `buf` of a packet in progress on. -/
def readStream : Bytes → Bytes → List Bytes → Reading
  | buf, [], done => ⟨buf, done, false⟩
  | buf, b :: bs, done =>
    let buf := buf ++ [b]
    if badPrefix buf then ⟨[], done, true⟩
    else if wholePacket buf then readStream [] bs (done ++ [buf.drop 2])
    else readStream buf bs done

/-- Bytes that only continue the packet in progress: a packet that ends with bytes left over breaks the stream. -/
def readRest : Bytes → Bytes → Reading
  | buf, [] => ⟨buf, [], false⟩
  | buf, b :: bs =>
    if buf = [] then ⟨[], [], true⟩
    else
      let buf := buf ++ [b]
      if badPrefix buf then ⟨[], [], true⟩
      else if wholePacket buf then ⟨[], [buf.drop 2], !bs.isEmpty⟩
      else readRest buf bs

/-- Packets that were completed go on, and a break is counted. -/
def Tenant.takeReading (t : Tenant) (r : Reading) : Tenant :=
  let t := r.packets.foldl Tenant.deliver t
  if r.broke then { t with counts.broken := t.counts.broken + 1 } else t

/-- Reading from a packet boundary on. -/
def Tenant.readFrom (t : Tenant) (bytes : Bytes) : Tenant :=
  let r := readStream [] bytes []
  { t.takeReading r with reasm := if r.broke then .waitStart else .inStream r.buf }

/-- A block delivered to the tenant (R113): its fill bytes and the offset of its first packet start. -/
def Tenant.block (t : Tenant) (fill : Bytes) (start : Option Nat) : Tenant :=
  if fill = [] then t
  else
    match t.reasm, start with
    | .waitStart, none => t
    | .waitStart, some k => t.readFrom (fill.drop k)
    | .inStream buf, none =>
      let r := readRest buf fill
      { t.takeReading r with reasm := if r.broke then .waitStart else .inStream r.buf }
    | .inStream buf, some k =>
      let r := readRest buf (fill.take k)
      (t.takeReading { r with broke := r.broke || decide (r.buf ≠ []) }).readFrom (fill.drop k)

/-- A gap (R36, R113): a packet in progress is dropped and counted as broken; reassembly waits for a start. -/
def Tenant.gap (t : Tenant) : Tenant :=
  match t.reasm with
  | .waitStart => t
  | .inStream [] => { t with reasm := .waitStart }
  | .inStream _ => { t with reasm := .waitStart, counts.broken := t.counts.broken + 1 }

/-! ### Filling blocks (R112) -/

/-- What filling one block came to: the bytes placed, where the first prefix byte lies, the queue and send offset left. -/
structure Filling where
  data : Bytes
  start : Option Nat
  queue : List Bytes
  sendOff : Nat
  deriving DecidableEq, Repr

/-- Stream bytes of the queue placed from position `pos` of the block on, in `room` bytes. -/
def fillFrom : List Bytes → Nat → Nat → Nat → Filling
  | [], _, _, _ => ⟨[], none, [], 0⟩
  | p :: ps, off, room, pos =>
    if room = 0 then ⟨[], none, p :: ps, off⟩
    else
      let rest := (le 2 p.length ++ p).drop off
      let here := if off = 0 then some pos else none
      if rest.length ≤ room then
        let f := fillFrom ps 0 (room - rest.length) (pos + rest.length)
        { f with data := rest ++ f.data, start := here.orElse (fun _ => f.start) }
      else ⟨rest.take room, here, p :: ps, off + room⟩

/-- The label of a block (chapter 2.1). -/
def blockLabel (owner fill : Nat) (start : Option Nat) : Bytes :=
  e1 (owner + 16 * start.isSome.toNat) ++ le 2 fill ++ e1 (start.getD 0)

/-- One block of the tenant filled at `bb` bytes: the block, and the tenant with the packets sent gone (R112). -/
def Tenant.fillBlock (t : Tenant) (i : Fin 4) (bb : Nat) : TxBlock × Tenant :=
  let f := fillFrom t.queue t.sendOff bb 0
  (⟨blockLabel i.val f.data.length f.start, padTo bb f.data⟩,
    { t with
      queue := f.queue, sendOff := f.sendOff
      counts.sent := t.counts.sent + BitVec.ofNat 32 (t.queue.length - f.queue.length) })

end Sys2Proof.Machine
end

