-- ==== Sys2Proof/Machine/Share.lean ====
section
/-! DEFINITION. The Share Allocator's arithmetic (chapter 7) and the fate of its results at the transmit side
(R135 to R137). -/

namespace Sys2Proof.Machine

/-! ### The arithmetic -/

/-- Guarantee blocks (R118). -/
def Entry.guarantee (e : Entry) (bb : Nat) : Nat := min 62 (ceilDiv e.g bb)

/-- Ceiling blocks (R118). -/
def Entry.ceiling (e : Entry) (bb : Nat) : Nat :=
  match e.ceil with
  | none => 62
  | some c => min 62 (ceilDiv c bb)

/-- The entry of an ACTIVE SHARED tenant. -/
def Tenant.shared (t : Tenant) : Option Entry :=
  match t.entry with
  | some e => if t.state = .active && decide (e.cls = .shared) then some e else none
  | none => none

/-- The blocks a tenant takes before the guarantees: F while ACTIVE FIXED, 1 while UNFIT (R121). -/
def Tenant.owed (t : Tenant) : Nat :=
  match t.state, t.entry with
  | .unfit, some _ => 1
  | .active, some e => if e.cls = .fixed then e.f else 0
  | _, _ => 0

/-- The claim e = min(g, D) of an ACTIVE SHARED tenant, 0 for any other (R122). -/
def Tenant.claim (t : Tenant) (bb : Nat) : Nat :=
  match t.shared with
  | some e => min (e.guarantee bb) (t.demand bb)
  | none => 0

/-- The most an ACTIVE SHARED tenant can use: min(D, c) (R127). -/
def Tenant.usable (t : Tenant) (bb : Nat) : Nat :=
  match t.shared with
  | some e => min (t.demand bb) (e.ceiling bb)
  | none => 0

/-- The weight of an ACTIVE SHARED tenant. -/
def Tenant.weight (t : Tenant) : Nat := (t.shared.map (·.w)).getD 0

/-- The place of tenant `i` in descending order of key, the lower number first among equal keys. -/
def rankOf (keys : Four Nat) (i : Fin 4) : Nat :=
  (tenants.filter (fun j => decide (keys.get i < keys.get j) || (keys.get j = keys.get i && decide (j < i)))).length

/-- One block each to the first `n` tenants by key; a key of 0 names a tenant that takes no part. -/
def oneEach (keys : Four Nat) (n : Nat) : Four Nat :=
  Four.of (fun i => if keys.get i ≠ 0 ∧ rankOf keys i < n then 1 else 0)

/-- The guarantee step when the claims do not fit (R124). -/
def scaleClaims (claims : Four Nat) (r s : Nat) : Four Nat :=
  let floors := Four.of (fun i => claims.get i * r / s)
  let rems := Four.of (fun i => if claims.get i = 0 then 0 else claims.get i * r % s + 1)
  let extra := oneEach rems (r - floors.total)
  Four.of (fun i => floors.get i + extra.get i)

/-- What the excess step came to. -/
structure Excess where
  given : Four Nat
  left : Nat
  rounds : Nat
  remainder : Bool
  deriving DecidableEq, Repr

/-- The excess step (R127, R128) from R' and the wants; `given` counts the blocks it has given. It ends within five
rounds, which `fuel` bounds. -/
def excess : Nat → Nat → Four Nat → Four Nat → Four Nat → Nat → Excess
  | 0, r, _, _, given, rounds => ⟨given, r, rounds, false⟩
  | fuel + 1, r, weights, wants, given, rounds =>
    let wu := (Four.of (fun i => if wants.get i = 0 then 0 else weights.get i)).total
    if r = 0 ∨ wants.total = 0 then ⟨given, r, rounds, false⟩
    else
      let q := Four.of (fun i => if wants.get i = 0 then 0 else r * weights.get i / wu)
      let x := Four.of (fun i => min (q.get i) (wants.get i))
      let capped := tenants.any (fun i => decide (wants.get i ≠ 0) && decide (wants.get i ≤ q.get i))
      let given' := Four.of (fun i => given.get i + x.get i)
      let wants' := Four.of (fun i => wants.get i - x.get i)
      let r' := r - x.total
      if capped then excess fuel r' weights wants' given' (rounds + 1)
      else
        let keys := Four.of (fun i => if wants.get i = 0 then 0 else r * weights.get i % wu + 1)
        let extra := oneEach keys r'
        ⟨Four.of (fun i => given'.get i + extra.get i), r' - extra.total, rounds + 1, true⟩

/-- The inputs of a computation (R120). -/
structure ShareIn where
  tenants : Four Tenant
  prof : Nat
  tReq : Nat
  grant : Option Nat
  canGrant : Bool

/-- The outcome of a computation: the result's counts, the grant and T_req after it, and the figures of R130. -/
structure ShareOut where
  counts : MapCounts
  grant : Option Nat
  tReq : Nat
  gave : Bool
  revoked : Bool
  r : Nat
  s : Nat
  spare : Nat
  scaled : Bool
  base : Four Nat
  rExcess : Nat
  rounds : Nat
  remainder : Bool

/-- The computation (R121 to R128). -/
def share (x : ShareIn) : ShareOut :=
  let bb := blockBytes x.prof
  let owed := Four.of (fun i => (x.tenants.get i).owed)
  let r := 62 - owed.total
  let claims := Four.of (fun i => (x.tenants.get i).claim bb)
  let s := claims.total
  let scaled := decide (r < s)
  let base := if scaled then scaleClaims claims r s else claims
  let spare := if scaled then 0 else r - s
  let gave := decide (0 < x.tReq) && x.grant.isNone && decide (x.tReq ≤ spare) && x.canGrant
  let revoked := x.grant.isSome && decide (spare < x.tReq)
  let grant := if revoked then none else if gave then some x.tReq else x.grant
  let test := if grant.isSome then x.tReq else 0
  let rExcess := spare - test
  let wants := Four.of (fun i => (x.tenants.get i).usable bb - base.get i)
  let weights := Four.of (fun i => (x.tenants.get i).weight)
  let e := excess 5 rExcess weights wants ⟨0, 0, 0, 0⟩ 0
  { counts := ⟨test, Four.of (fun i => owed.get i + base.get i + e.given.get i)⟩
    grant := grant, tReq := if revoked then 0 else x.tReq, gave := gave, revoked := revoked
    r := r, s := s, spare := spare, scaled := scaled, base := base, rExcess := rExcess
    rounds := e.rounds, remainder := e.remainder }

/-- The trigger kind of a trigger by itself (R119). -/
def Trigger.kind : Trigger → TriggerKind
  | .periodEnd => .periodic
  | .tenantState | .tenantSet | .test | .profileSwitch => .event

/-- A tenant's figures for the record (R130). -/
def Tenant.figures (t : Tenant) (bb base given : Nat) : ShareFigures :=
  { state := t.state, cls := t.entry.map (·.cls)
    d := t.shared.map (fun _ => t.demand bb), g := t.shared.map (fun e => e.guarantee bb)
    e := t.shared.map (fun _ => t.claim bb), c := t.shared.map (fun e => e.ceiling bb)
    want := t.shared.map (fun _ => t.usable bb - base), given := given }

/-- The inputs as they stand (R120, R125). -/
def State.shareIn (s : State) : ShareIn :=
  { tenants := s.tpt, prof := s.lfr.tx.computeProfile, tReq := s.sha.tReq, grant := s.sha.grant
    canGrant := decide (s.lfr.tx.framer = .normal) && !s.lfr.tx.hold }

/-- The kind of a computation: EVENT when it gives or revokes a grant, whatever its trigger (R119). -/
def ShareOut.kind (o : ShareOut) (t : Trigger) : TriggerKind := if o.gave || o.revoked then .event else t.kind

/-- A computation's record (R130). DESIGN CHOICE (log 46): T_req is the one after the test step. -/
def ShareOut.record (o : ShareOut) (x : ShareIn) (t : Trigger) : ShareRecord :=
  let bb := blockBytes x.prof
  { trigger := t, kind := o.kind t, prof := x.prof, bb := bb, r := o.r, s := o.s, spare := o.spare, scaled := o.scaled
    tReq := o.tReq, grant := o.grant, gave := o.gave, revoked := o.revoked, rExcess := o.rExcess, rounds := o.rounds
    remainderPass := o.remainder
    tenants := Four.of (fun i => (x.tenants.get i).figures bb (o.base.get i) (o.counts.ten.get i)) }

/-! ### The fate of a result (R135 to R137) -/

/-- Two maps are equal (R135): the five counts agree and the profile is the same, or both hold nothing but IDLE. -/
def sameMap (a : MapCounts) (pa : Nat) (b : MapCounts) (pb : Option Nat) : Bool :=
  decide (a = b) && (decide (pb = some pa) || decide (a.used = 0))

/-- The next version: 255 is followed by 1 (R132). -/
def nextVersion (v : Nat) : Nat := v % 255 + 1

/-- The profile countdown of the first frame that will carry an announcement made now (R137). -/
def LfrTx.tieCount (t : LfrTx) : Nat :=
  match t.pend with
  | some w => if w.carried then w.count - 1 else w.count
  | none => 0

/-- The newest map is announced as a new version, or supersedes the pending map (R136), with the countdown of the tie
rule (R137). -/
def State.announce (s : State) (counts : MapCounts) (prof : Nat) : State :=
  let k := s.lfr.tx.tieCount
  let tied := decide (2 ≤ k)
  let ver := nextVersion s.lfr.tx.lastVer
  let newer := s.lfr.tx.mpend.isSome
  let m := s.lfr.mcounts
  let m := if newer then { m with superseded := m.superseded + 1 } else { m with announced := m.announced + 1 }
  let m := if tied then { m with tied := m.tied + 1 } else m
  let s := { s with
    lfr.tx.mpend := some ⟨ver, counts, prof, if tied then k else 16, false, tied⟩
    lfr.tx.lastVer := ver, lfr.mcounts := m, lfr.fate := some .announced }
  s.noteMap (if newer then .superseded else .announced)

/-- The newest map is handed to the transmit side (R135, R136). -/
def State.handNewest (s : State) (counts : MapCounts) (prof : Nat) (kind : TriggerKind) : State :=
  if s.lfr.tx.framer = .normal then
    let same := match s.lfr.tx.mpend with
      | some p => sameMap counts prof p.counts (some p.prof)
      | none => sameMap counts prof s.lfr.tx.map.counts s.lfr.tx.map.prof
    if same then { s with lfr.fate := some .equal }
    else if kind = .periodic && s.lfr.tx.mpend.isSome then
      { s with lfr.fate := some .withheld, lfr.mcounts.withheld := s.lfr.mcounts.withheld + 1 }
    else s.announce counts prof
  else { s with lfr.fate := some .setAside, lfr.mcounts.setAside := s.lfr.mcounts.setAside + 1 }

/-- The allocator's own part of a computation: the newest map, the grant and the record are replaced, and the result is
handed to the transmit side (R119, R129, R130). -/
def State.computeShare (s : State) (t : Trigger) (o : ShareOut) : State :=
  let x := s.shareIn
  let s := { s with sha := {
    newest := ⟨o.counts, x.prof, some (o.kind t)⟩, grant := o.grant, tReq := o.tReq
    record := some (o.record x t) } }
  s.handNewest o.counts x.prof (o.kind t)

/-- A test request (R125). -/
def State.testRequest (s : State) (blocks : Nat) : State := { s with sha.tReq := blocks }.wantAlloc .test

/-- A test release (R126). -/
def State.testRelease (s : State) : State := { s with sha.tReq := 0, sha.grant := none }.wantAlloc .test

end Sys2Proof.Machine
end

