-- ==== Sys2Proof/Machine/SelfTest.lean ====
section
/-! DEFINITION. The Self-Test Unit (chapter 9): the run queue, the runs of each kind, the results, and the far-end
checker. What the Site Phase Controller makes of a round's end is in SitePhase.lean. -/

namespace Sys2Proof.Machine

/-! ### The run queue (R147, R148) -/

/-- The row index of TEST_FAIL. -/
def rowTestFail : Nat := 8

/-- The active run: the head of the queue once it has left QUEUED. -/
def Stu.active (u : Stu) : Option Run :=
  match u.queue with
  | r :: _ => if r.state = .queued then none else some r
  | [] => none

/-- The active run changed. -/
def State.setActive (s : State) (r : Run) : State := { s with stu.queue := r :: s.stu.queue.tail }

/-- The next run id: 255 is followed by 1 (R147). -/
def nextRunId (n : Nat) : Nat := n % 255 + 1

/-- The run of a plan index, if one is queued or active. -/
def Stu.runOf (u : Stu) (idx : Nat) : Option Run := u.queue.find? (fun r => r.idx = idx)

/-- A request for a plan entry (R147): coalesced with a run of that index, or a new run at the tail. -/
def State.requestRun (s : State) (idx : Nat) (round : Bool) : State :=
  match s.stu.plan[idx]? with
  | none => s
  | some e =>
    if (s.stu.runOf idx).isSome then
      { s with stu.queue := s.stu.queue.map (fun r => if r.idx = idx then { r with round := r.round || round } else r) }
    else
      let id := nextRunId s.stu.runId
      { s with
        stu.queue := s.stu.queue ++ [{ idx := idx, entry := e, id := id, round := round }], stu.runId := id
        work.runDue := s.work.runDue || s.stu.queue.isEmpty }

/-- The plan indices of the entries of a schedule, in plan order. -/
def Stu.entriesOf (u : Stu) (sch : Schedule) : List Nat :=
  u.plan.zipIdx.filterMap (fun p => if p.1.schedule = sch then some p.2 else none)

/-- A bring-up round is asked for (R159). -/
def State.requestRound (s : State) : State :=
  (s.stu.entriesOf .bringup).foldl (fun s i => s.requestRun i true) s

/-- The due counters at a crossing (R146); `serving`: it was taken in SERVICE. DESIGN CHOICE (log 55): the entries that reach
their period at one crossing are requested in plan order. -/
def State.dueSecond (s : State) (serving : Bool) : State :=
  if serving then
    (s.stu.entriesOf .periodic).foldl (fun s i =>
      let d := (s.stu.due[i]?).getD 0 + 1
      let period := ((s.stu.plan[i]?).map (·.period)).getD 0
      if d = period then { s with stu.due := s.stu.due.set i 0 }.requestRun i false
      else { s with stu.due := s.stu.due.set i d }) s
  else s

/-- Runs that have not become active are removed and named in the TEST notice of the event (R148). -/
def State.removeRuns (s : State) (which : Run → Bool) : State :=
  let goes : Run → Bool := fun r => decide (r.state = .queued) && which r
  let gone := (s.stu.queue.filter goes).map (·.idx)
  let kept := s.stu.queue.filter (fun r => !goes r)
  if gone.isEmpty then s
  else { s with stu.queue := kept, stu.removed := s.stu.removed ++ gone }.noteTest

/-- Every entry that may raise TEST_FAIL has a latest decisive outcome of none or PASS (R162). -/
def Stu.noFail (u : Stu) : Bool := (u.plan.zip u.decisive).all (fun p => !p.1.raises || decide (p.2 ≠ .fail))

/-- The latest decisive outcome and the row TEST_FAIL after a run's end (R162). -/
def State.settleOutcome (s : State) (r : Run) (o : RunOutcome) : State :=
  match o with
  | .aborted => s
  | .fail =>
    let s := { s with stu.decisive := s.stu.decisive.set r.idx .fail }
    if r.entry.raises then s.raiseNow rowTestFail r.idx else s
  | .pass =>
    let s := { s with stu.decisive := s.stu.decisive.set r.idx .pass }
    if s.stu.noFail then s.clear rowTestFail else s

/-- A run's record in the result log, the newest first, at most 16 (R161). -/
def State.logRun (s : State) (r : Run) (o : RunOutcome) (c : RunCause) : State :=
  { s with stu.log := (⟨r.idx, r.entry.kind, r.id, r.round, o, c, s.dsu.time, s.spc.phase, r.entry.blocks, r.fig⟩
      :: s.stu.log).take 16 }

/-- The active run ends: its record, R162, its removal, and the next run is due at the head (R148). DESIGN CHOICE (log 58):
the FAULT notice of a TEST_FAIL raised or cleared is queued before the TEST notice. -/
def State.finishRun (s : State) (r : Run) (o : RunOutcome) (c : RunCause) : State :=
  let s := (s.logRun r o c).settleOutcome r o
  { s with stu.queue := s.stu.queue.tail, work.runDue := !s.stu.queue.tail.isEmpty }.noteTest

/-- What an abort gives back (R153): the request while WAITING, the grant while STARTING or RUNNING, and the TEST_START
still kept when the run leaves STARTING (R150). A revocation gives nothing back. -/
def State.giveBack (s : State) (r : Run) (c : RunCause) : State :=
  if r.entry.kind = .linkPattern then
    let s := if r.state = .starting then
        { s with stu.kept := s.stu.kept.filter (fun m => match m with
          | .testStart id _ _ => id ≠ r.id
          | _ => true) }
      else s
    if c = .revoked || decide (r.state = .draining) then s else s.testRelease
  else s

/-- The cause of an abort by a phase change whose own cause is LINK_DOWN or another (R153). DESIGN CHOICE (log 66): a run of
another kind ends with PHASE in either case (R159). -/
def phaseAbortCause (r : Run) (c : PhaseCause) : RunCause :=
  if c = .linkDown ∧ r.entry.kind = .linkPattern then .linkDown else .phase

/-- The active run ends ABORTED, with no round to report to. -/
def State.abortQuietly (s : State) (c : PhaseCause) (which : Run → Bool) : State :=
  match s.stu.active with
  | some r =>
    if which r then
      let k := phaseAbortCause r c
      (s.giveBack r k).finishRun r .aborted k
    else s
  | none => s

/-- The round is over (R19, R159): the active run of the round ends ABORTED, the round's queued runs are removed. -/
def State.roundOver (s : State) (c : PhaseCause) : State :=
  (s.abortQuietly c (·.round)).removeRuns (·.round)

/-- The phase leaves PROVE or SERVICE for a phase that carries no runs (R159). -/
def State.stopRuns (s : State) (c : PhaseCause) : State :=
  (s.abortQuietly c (fun _ => true)).removeRuns (fun _ => true)

/-! ### Link pattern runs (9.3) -/

/-- A grant reaches the run in WAITING (R149, R150): STARTING, and TEST_START is offered. -/
def State.grantGiven (s : State) : State :=
  match s.stu.active with
  | some r =>
    if r.state = .waiting then
      ((s.setActive { r with state := .starting, grantLeft := none }).offer
        (.testStart r.id r.entry.mask r.entry.blocks)).noteTest
    else s
  | none => s

/-- The transmit side hands a new map in force to the unit (R134, R150). -/
def State.mapTaken (s : State) (test : Nat) : State :=
  match s.stu.active with
  | some r =>
    if r.state = .starting ∧ s.sha.grant = some test then (s.setActive { r with state := .running }).noteTest else s
  | none => s

/-- A link pattern run is RUNNING. -/
def Stu.patternRunning (u : Stu) : Bool :=
  match u.active with
  | some r => decide (r.entry.kind = .linkPattern) && decide (r.state = .running)
  | none => false

/-- The frame just built has been filled with pattern (R151), or counts for the drain wait (R152). -/
def State.countFrame (s : State) : State :=
  match s.stu.active with
  | some r =>
    if r.entry.kind = .linkPattern ∧ r.state = .running then s.setActive { r with fig.frames := r.fig.frames + 1 }
    else match r.drainLeft with
      | some n => s.setActive { r with drainLeft := some (n - 1) }
      | none => s
  | none => s

/-- The count of filled frames has reached the duration. -/
def Stu.durationDone (u : Stu) : Bool :=
  match u.active with
  | some r => u.patternRunning && decide (r.entry.duration ≤ r.fig.frames)
  | none => false

/-- A release that a revocation has come before (R126): it finds no grant of its run, and a computation follows. A grant or
request of the run behind is not its own, and stays. -/
def State.settleRelease (s : State) : State :=
  if s.stu.lateRelease then { s with stu.lateRelease := false }.wantAlloc .test else s

/-- The run enters DRAINING (R151, R152), or, where a revocation has ended it first, its release follows (R126; log 60). -/
def State.drainRun (s : State) : State :=
  match s.stu.active with
  | some r =>
    if s.stu.durationDone then
      ((s.setActive { r with state := .draining, drainLeft := some Config.drainFrames }).testRelease).noteTest
    else s.settleRelease
  | none => s.settleRelease

/-- The judgement of a drained run (R152). -/
def Run.verdict (r : Run) : RunOutcome × RunCause :=
  if r.entry.errors < r.fig.bad then (.fail, .errors)
  else if 8 * r.fig.checked < 7 * (r.fig.frames * r.entry.blocks) then (.fail, .lowCoverage)
  else (.pass, .none)

/-- A TEST_REPORT is handed over (R152). DESIGN CHOICE (log 56): one that names a run still WAITING is discarded and counted
as stale. -/
def State.takeReport (s : State) (id checked bad : Nat) : State :=
  match s.stu.active with
  | some r =>
    if r.entry.kind = .linkPattern ∧ r.id = id ∧ (r.state = .starting ∨ r.state = .running ∨ r.state = .draining) then
      s.setActive { r with
        fig.checked := r.fig.checked + checked, fig.bad := r.fig.bad + bad, fig.reports := r.fig.reports + 1 }
    else { s with stu.stale := s.stu.stale + 1 }
  | none => { s with stu.stale := s.stu.stale + 1 }

/-- A run that these events abort is active (R153): fallback and hold touch STARTING and RUNNING, DOWN every state. -/
def Stu.holdsGrant (u : Stu) : Bool :=
  match u.active with
  | some r => decide (r.entry.kind = .linkPattern) && (decide (r.state = .starting) || decide (r.state = .running))
  | none => false

/-! ### The far-end checker (9.5) -/

/-- A TEST_START arms the checker afresh (R156); a TEST_REPORT still kept is withdrawn and counted as lost. -/
def State.armChecker (s : State) (id : Nat) (mask : Bytes) (blocks : Nat) : State :=
  let stale := s.stu.kept.any SvcMsg.isReport && s.stu.chk.armed
  { s with
    stu.chk := { s.stu.chk with
      armed := true, id := id, mask := mask, blocks := blocks, window := 0, slots := 0, checked := 0, bad := 0
      seen := false, empty := 0, starts := s.stu.chk.starts + 1 }
    stu.kept := if stale then s.stu.kept.filter (fun m => !m.isReport) else s.stu.kept
    stu.lost := if stale then s.stu.lost + 1 else s.stu.lost }

/-- The checker returns to IDLE and its window is discarded (R156). -/
def Checker.idle (c : Checker) : Checker := { c with armed := false, slots := 0, checked := 0, bad := 0 }

/-- The mask bit of byte `k` of a data part (R157). -/
def maskBit (mask : Bytes) (k : Nat) : Bool := ((mask[k % 128 / 8]?).getD 0).toNat.testBit (k % 8)

/-- A compared byte of a block differs from the pattern (R157). -/
def patternDiffers (mask : Bytes) (n q : Nat) : Nat → Bytes → Bool
  | _, [] => false
  | k, b :: bs => (maskBit mask k && decide (b ≠ patternByte n q k)) || patternDiffers mask n q (k + 1) bs

/-- A judged block (R157). -/
def Checker.judge (c : Checker) (bad : Bool) : Checker :=
  { c with checked := min 65535 (c.checked + 1), bad := if bad then min 65535 (c.bad + 1) else c.bad }

/-- A block of a TEST position is handed to the checker (R157): `data` is absent for an uncorrectable block. -/
def Checker.take (c : Checker) (bb n q : Nat) (data : Option (Nat × Bytes)) : Checker :=
  if c.armed then
    match data with
    | none => c.judge true
    | some (fill, bytes) =>
      if fill = 0 then c
      else if fill ≠ bb then c.judge true
      else c.judge (patternDiffers c.mask n q 0 (bytes.take bb))
  else c

/-- A receive slot in UP or FLYWHEEL is counted into the window (R158). -/
def Checker.slot (c : Checker) : Checker := if c.armed then { c with slots := c.slots + 1 } else c

/-- The checker's window has its 800 slots. -/
def Checker.windowDone (c : Checker) : Bool := c.armed && decide (800 ≤ c.slots)

/-- The end of a checker window (R158). DESIGN CHOICE (log 68): the window number counts on past 65,535. -/
def State.checkerWindow (s : State) : State :=
  let c := s.stu.chk
  if c.windowDone then
    let next := { c with window := c.window + 1, slots := 0, checked := 0, bad := 0 }
    if 0 < c.checked then
      let s := if s.stu.kept.any SvcMsg.isReport then
          { s with stu.kept := s.stu.kept.filter (fun m => !m.isReport), stu.lost := s.stu.lost + 1 }
        else s
      { s with stu.chk := { next with
        seen := true, empty := 0
        lastReport := some (c.id, c.checked, c.bad, c.window) } }.offer (.testReport c.id c.checked c.bad c.window)
    else
      let next := { next with empty := c.empty + 1 }
      { s with stu.chk := if c.seen || decide (4 ≤ c.empty + 1) then next.idle else next }
  else s

end Sys2Proof.Machine
end

