-- ==== Sys2Proof/Machine/Timing.lean ====
section
/-! DEFINITION. The Reference Monitor (chapter 4) and the Discipline Unit (chapter 5): windows, marks, judgements,
selection, the loop, holdover and site time. The crossing as one event is in Second.lean. -/

namespace Sys2Proof.Machine

/-- The row index of REF_LOSS. -/
def rowRefLoss : Nat := 7

/-! ### The Discipline Unit -/

/-- The correction, integral term and ring bound of R86, R87: within 20,000,000 ppt of zero. -/
def clampPpt (x : Int) : Int := clampInt (-Config.ppmLimit) Config.ppmLimit x

/-- A loop update from a phase error (R86). -/
def Dsu.update (d : Dsu) (e : Int) : Dsu :=
  let p := roundDiv (e * 1000) (2 ^ d.set.pShift)
  let i := clampPpt (d.i + roundDiv (e * 1000) (2 ^ d.set.iShift))
  { d with p := p, i := i, c := clampPpt (-(p + i)) }

/-- The correction is written to the ring (R87). -/
def Dsu.writeRing (d : Dsu) : Dsu :=
  { d with ring := (if d.ring.length < 64 then d.ring else d.ring.drop 1) ++ [d.c] }

/-- The uncertainty reckoned from the holdover clock (R89). -/
def Dsu.reckoned (d : Dsu) : Nat :=
  min Config.uSat (d.set.uBase + (d.set.hRate * d.hclock + d.set.hAge * d.hclock ^ 2) / 1000)

/-- A crossing in HOLDOVER: the clock increases, and U never decreases (R88, R89). -/
def Dsu.age (d : Dsu) : Dsu :=
  if d.loop = .holdover then
    let d := { d with hclock := min 4294967295 (d.hclock + 1) }
    { d with u := max d.u d.reckoned }
  else d

/-- Entry to HOLDOVER from TRACK or ACQUIRE (R88). -/
def Dsu.enterHoldover (d : Dsu) : Dsu :=
  { d with c := d.ringMean, i := -d.ringMean, hclock := 0
           u := if d.loop = .track then d.set.uBase else Config.uSat, loop := .holdover }

/-- The loop state and U after a move to a state (R89); HOLDOVER is entered by R88. -/
def Dsu.moveTo (d : Dsu) (st : LoopState) : Dsu :=
  match st with
  | .holdover => d.enterHoldover
  | .track => { d with loop := .track, u := d.set.uBase }
  | .free => { d with loop := .free, u := Config.uSat }
  | .acquire => { d with loop := .acquire, u := Config.uSat }

/-- The loop moves to another state (R81): both streaks are cleared, the tenants are judged, and then a TIME notice is queued
(log 58). -/
def State.moveLoop (s : State) (st : LoopState) (c : TimeCause) : State :=
  let d := { s.dsu.moveTo st with acq := 0, trk := 0, left := s.dsu.loop, cause := c, landing := none }
  ({ s with dsu := d }.handQuality).noteTime

/-- The loop when its reference is lost: HOLDOVER if the ring holds a correction, FREE if not (R81). -/
def Dsu.lostState (d : Dsu) : LoopState := if d.ring = [] then .free else .holdover

/-- A change of the selection reaches the loop (R81). -/
def State.loopOnSelection (s : State) (old new : Option Ref) : State :=
  match old, new with
  | none, some _ =>
    if s.dsu.loop = .free ∨ s.dsu.loop = .holdover then s.moveLoop .acquire .selection else s
  | some _, none =>
    if s.dsu.loop = .track ∨ s.dsu.loop = .acquire then s.moveLoop s.dsu.lostState .selection else s
  | _, _ => s

/-- An ACQUIRE report with its phase error (R82, R83). -/
def State.acquireReport (s : State) (e : Int) : State :=
  if 1000 < e.natAbs then { s with dsu.pendStep := some e, dsu.acq := 0 }
  else
    let s := { s with dsu := s.dsu.update e }
    if s.dsu.acq + 1 = 5 then s.moveLoop .track .acquireStreak else { s with dsu.acq := s.dsu.acq + 1 }

/-- A TRACK report with its phase error (R82, R83, R87). -/
def State.trackReport (s : State) (e : Int) : State :=
  if 1000 < e.natAbs then
    if s.dsu.trk + 1 = 3 then (s.moveLoop .acquire .trackStreak).acquireReport e
    else { s with dsu := { (s.dsu.update (clampInt (-1000) 1000 e)).writeRing with trk := s.dsu.trk + 1 } }
  else { s with dsu := { (s.dsu.update e).writeRing with trk := 0 } }

/-- The second report is taken by the loop state at that moment (R82). -/
def State.takeSecondReport (s : State) (r : Report) : State :=
  let s := { s with dsu.report := some r }
  match s.dsu.loop, r with
  | .acquire, .phase e => s.acquireReport e
  | .track, .phase e => s.trackReport e
  | .holdover, _ => { s with dsu := s.dsu.age }
  | _, _ => s

/-! ### Reference states and selection -/

/-- A reference's state. -/
def Rfm.get (m : Rfm) : Ref → RefState
  | .g => m.g
  | .l => m.l

/-- A reference's state replaced. -/
def Rfm.put (m : Rfm) (r : Ref) (x : RefState) : Rfm :=
  match r with
  | .g => { m with g := x }
  | .l => { m with l := x }

/-- The order of the references under a priority (R72). -/
def Priority.order : Priority → List Ref
  | .gThenL => [.g, .l]
  | .lThenG => [.l, .g]
  | .gOnly => [.g]
  | .lOnly => [.l]

/-- The first reference in the order that is UP. -/
def Rfm.firstUp (m : Rfm) : Option Ref := m.set.priority.order.find? (fun r => (m.get r).mode = .up)

/-- The reference stands before the other in the order. -/
def Rfm.earlier (m : Rfm) (r other : Ref) : Bool := m.set.priority.order.head? = some r && decide (r ≠ other)

/-- A reference's state is replaced; a change of state, probation count or streak queues its REF notice (R71, R77). -/
def State.setRef (s : State) (r : Ref) (x : RefState) : State :=
  let old := s.rfm.get r
  let s := { s with rfm := s.rfm.put r x }
  if old.mode = x.mode ∧ old.k = x.k ∧ old.streak = x.streak then s else s.noteRef r

/-- The selection changes (R72, R75, R81): the selected reference's wait stops, REF_LOSS is raised or cleared, both REF
notices are queued, and the loop is told. DESIGN CHOICE (log 53): REF_LOSS comes before the loop is told, and so before
HOLDOVER_LIMIT. -/
def State.select (s : State) (new : Option Ref) : State :=
  let old := s.rfm.sel
  if old = new then s
  else
    let m := { s.rfm with sel := new }
    let m := match new with
      | some r => m.put r { m.get r with wait := none }
      | none => m
    let s := { s with rfm := m }
    let s := match old, new with
      | some r, none => s.raiseNow rowRefLoss r.code
      | none, some _ => s.clear rowRefLoss
      | _, _ => s
    ((s.noteRef .g).noteRef .l).loopOnSelection old new

/-- The selection is updated (R72): a selected reference that has left UP is replaced by the first that is UP. -/
def State.updateSelection (s : State) : State :=
  match s.rfm.sel with
  | some r => if (s.rfm.get r).mode = .up then s else s.select s.rfm.firstUp
  | none => s.select s.rfm.firstUp

/-- A reference goes DOWN at once from PROBATION or UP (R66, R70). -/
def State.refDown (s : State) (r : Ref) : State :=
  match (s.rfm.get r).mode with
  | .probation | .up => (s.setRef r { mode := .down }).updateSelection
  | .disabled | .down => s

/-- A reference's state after a judgement (R71), but for its wait. DESIGN CHOICE (log 71): the entry to UP sets the probation
count to 0, which R77 reports in UP. -/
def RefState.judged (x : RefState) (v : Verdict) : RefState :=
  match x.mode, v with
  | .down, .good => { x with mode := .probation, k := 1 }
  | .probation, .good =>
    if x.k + 1 = 10 then { x with mode := .up, k := 0, streak := 0 } else { x with k := x.k + 1 }
  | .probation, .bad => { mode := .down }
  | .up, .good => { x with streak := 0 }
  | .up, .bad => if x.streak = 0 then { x with streak := 1 } else { mode := .down }
  | _, _ => x

/-- A judgement moves its reference, the wait-to-restore timer, and the selection (R71 to R73). -/
def State.judgeRef (s : State) (r : Ref) (v : Verdict) : State :=
  let old := s.rfm.get r
  let new := old.judged v
  let new := if old.mode = .up ∧ new.mode = .up then { new with wait := new.wait.map (· + 1) }
    else if new.mode = .up ∧ (s.rfm.sel.map (s.rfm.earlier r)) = some true then { new with wait := some 0 }
    else new
  let s := s.setRef r new
  if new.wait = some 30 then s.select (some r) else s.updateSelection

/-- A new priority acts on the references at once (R63, R76). -/
def RefState.named (x : RefState) (named : Bool) : RefState :=
  if !named then { mode := .disabled }
  else if x.mode = .disabled then { mode := .down }
  else { x with wait := none }

/-! ### Pulse windows (R64, R65) -/

/-- The Reference Monitor judges: the phase has left LOAD with an image in force (R8, R63). -/
def State.judges (s : State) : Bool := decide (s.spc.phase ≠ .load) && s.imageInForce

/-- A window for G opens now with the settings in force. DEDUCED (log 11): none is open until the first that opens after the
phase has left LOAD and G is named. -/
def State.freshWindow (s : State) : Option PulseWindow :=
  if s.judges && decide (s.rfm.g.mode ≠ .disabled) then
    some { covered := s.gnssOk, cable := s.rfm.set.cable, ppsTol := s.rfm.set.ppsTol }
  else none

/-- Site time with nanoseconds `ns` has passed the closing point of the window of the boundary last crossed. -/
def State.pastClose (s : State) (ns : Nat) : Bool :=
  decide (0 ≤ timeDiff ⟨s.dsu.time.sec, ns⟩ ⟨s.dsu.nextCross - 1, 500000000 + s.rfm.set.cable⟩)

/-- The window of the boundary last crossed closes and the next one opens. -/
def State.closeWindow (s : State) : State :=
  if s.rfm.winClosed then s else { s with rfm.winClosed := true, rfm.nextWin := s.freshWindow }

/-- The windows are brought up to site time with nanoseconds `ns`. -/
def State.rollWindow (s : State) (ns : Nat) : State := if s.pastClose ns then s.closeWindow else s

/-- The open window changed. -/
def Rfm.modifyOpen (m : Rfm) (f : PulseWindow → PulseWindow) : Rfm :=
  if m.winClosed then { m with nextWin := m.nextWin.map f } else { m with win := m.win.map f }

/-- The pulse window open now (R64): the next boundary's once the present one has closed. -/
def Rfm.openWindow (m : Rfm) : Option PulseWindow := if m.winClosed then m.nextWin else m.win

/-- REF_GET (R77). The open window is the one that site time stands in at the request. DEDUCED (log 36): its GNSS_OK sample
is whether GNSS_OK has been asserted at every moment of it so far. DEDUCED (log 11): no window is given, and no pulse counted,
before the first that will be judged. DESIGN CHOICE (log 12): the three counts of marks refused are 0 before the first
judgement of L. -/
def State.refBody (s : State) : Bytes :=
  let w := (s.rollWindow s.dsu.time.ns).rfm.openWindow
  s.refG ++ eOpt 5 (w.map (fun w => e4 w.pulses ++ eFlag w.covered)) ++ s.refL
    ++ e4 ((s.rfm.lastL.map (·.refQuality)).getD 0) ++ e4 ((s.rfm.lastL.map (·.refDelay)).getD 0)
    ++ e4 ((s.rfm.lastL.map (·.refStep)).getD 0) ++ eOpt 8 ((s.rfm.lastL.bind (·.best)).map (fun m => eNs m.o))
    ++ s.rfm.choiceBytes ++ s.rfm.set.bytes

/-- A phase error brought into −500,000,000 to 499,999,999 by one second at most (R65). -/
def intoSecond (e : Int) : Int :=
  if 499999999 < e then e - 1000000000 else if e < -500000000 then e + 1000000000 else e

/-- The interval test of R65. -/
def intervalOk (prev : Option Nat) (w : PulseWindow) : Bool :=
  match prev with
  | none => true
  | some p =>
    let d := (w.osc : Int) - (p : Int)
    decide (1000000000 - (w.ppsTol : Int) ≤ d) && decide (d ≤ 1000000000 + (w.ppsTol : Int))

/-- The judgement of a closed window (R64, R65). -/
def judgeWindow (prev : Option Nat) (w : PulseWindow) : GJudgement :=
  if w.stepped then ⟨.neutral, none, w.pulses, none⟩
  else if w.pulses = 0 then ⟨.bad, some .noPulse, w.pulses, none⟩
  else if w.pulses ≠ 1 then ⟨.bad, some .extraPulse, w.pulses, none⟩
  else if !w.covered then ⟨.bad, some .qualifier, w.pulses, none⟩
  else if !intervalOk prev w then ⟨.bad, some .interval, w.pulses, none⟩
  else ⟨.good, none, w.pulses, some (intoSecond ((w.ns : Int) - (w.cable : Int)))⟩

/-- The judgement of G at a crossing, when a window of it is to be judged (R65, R71). -/
def State.judgeG (s : State) : State :=
  match s.rfm.win with
  | none => s
  | some w =>
    let j := judgeWindow s.rfm.prevPulse w
    { s with rfm.lastG := some j }.judgeRef .g j.verdict

/-- The windows pass to the boundary being crossed. -/
def Rfm.shiftWindows (m : Rfm) : Rfm :=
  { m with
    prevPulse := m.win.bind (fun w => if w.pulses = 0 then none else some w.osc)
    win := m.nextWin, nextWin := none, winClosed := false }

/-! ### Link time marks (R67 to R69) -/

/-- Halving with the part's rounding gives the delay of a mark (R67). -/
def markOf (set : RefSet) (t1 : SiteTime) (h : Nat) (sent t4 : SiteTime) : Mark :=
  let d := roundDiv (timeDiff t4 t1 - (h : Int)) 2
  let o := timeDiff sent t4 + d + set.asym
  ⟨d, o, -o⟩

/-- A header sent at `t1` may have left before a step or a seconds setting of this part's site time: its send time lies at
or before the boundary of one (R68; log 7). -/
def Rfm.mayPrecede (m : Rfm) (t1 : SiteTime) : Bool := m.disturb.any (fun x => decide (timeDiff t1 x ≤ 0))

/-- A step or a seconds setting of this part's site time fell between the departure of the header sent at `t1` and now: its
send time is one from before, and no header has left at it since the latest (R68; log 7). -/
def Rfm.spans (m : Rfm) (t1 : SiteTime) : Bool := m.mayPrecede t1 && !m.overlap.contains t1

/-- A mark is accepted or refused into a second (R68); `step`: it spans a step or a setting of site time. -/
def LSecond.takeMark (x : LSecond) (k : Mark) (delayMax : Nat) (step : Bool) : LSecond :=
  if k.d < 0 ∨ (delayMax : Int) < k.d then { x with refDelay := x.refDelay + 1 }
  else if step then { x with refStep := x.refStep + 1 }
  else
    { x with
      accepted := x.accepted + 1
      best := match x.best with
        | some b => if k.d < b.d then some k else some b
        | none => some k }

/-- Marks are taken from received headers (R67). -/
def State.takesMarks (s : State) : Bool :=
  s.fieldRole && decide (s.rfm.l.mode ≠ .disabled) && decide (s.spc.phase ≠ .load)

/-- What a good header that arrived at `t4` adds to the second `x` (R67 to R69); `step` judges the send time echoed. -/
def State.headerInto (s : State) (x : LSecond) (h : Header) (t4 : SiteTime) (step : SiteTime → Bool) : LSecond :=
  let track := decide (h.loop = 2)
  let x := { x with headers := x.headers + 1, allTrack := x.allTrack && track }
  if !s.takesMarks then x
  else if !track then { x with refQuality := x.refQuality + 1 }
  else if h.echo then
    x.takeMark (markOf s.rfm.set h.echoTime h.held h.sent t4) s.rfm.set.delayMax (step h.echoTime)
  else x

/-- The seconds boundary of the next crossing (R80). -/
def Dsu.boundary (d : Dsu) : SiteTime := ⟨d.nextCross, 0⟩

/-- A step or a seconds setting waits for the next boundary (R84, R95), and the header sent at `t1` left before it. -/
def Dsu.willSpan (d : Dsu) (t1 : SiteTime) : Bool :=
  (d.pendStep.isSome || d.pendSec.isSome) && decide (timeDiff t1 d.boundary ≤ 0)

/-- A good header reaches the Reference Monitor (R67, R69): it counts in the site second in which its arrival falls, the
coming one from the next boundary on. DESIGN CHOICE (log 40): a header that arrived before the second in progress began
counts in none, since that second has been judged. -/
def State.markHeader (s : State) (h : Header) (arrival : SiteTime) : State :=
  if 0 ≤ timeDiff arrival s.dsu.boundary then
    { s with rfm.nextSec := s.headerInto s.rfm.nextSec h arrival (fun t1 => s.rfm.spans t1 || s.dsu.willSpan t1) }
  else if timeDiff arrival s.rfm.sec.start < 0 then s
  else { s with rfm.sec := s.headerInto s.rfm.sec h arrival s.rfm.spans }

/-- The judgement of a site second for L (R69). -/
def LSecond.judge (x : LSecond) : LJudgement :=
  let v : Verdict × Option BadReason :=
    if !x.framerOk then (.bad, some .framer)
    else if x.headers = 0 ∨ !x.allTrack then (.bad, some .peerQuality)
    else if x.accepted < 1000 then (.bad, some .fewMarks)
    else (.good, none)
  ⟨v.1, v.2, x.accepted, x.refQuality, x.refDelay, x.refStep, x.best⟩

/-- The judgement of L at a crossing (R69, R71). -/
def State.judgeL (s : State) : State :=
  if s.rfm.sec.judged && decide (s.rfm.l.mode ≠ .disabled) then
    let j := s.rfm.sec.judge
    { s with rfm.lastL := some j }.judgeRef .l j.verdict
  else s

/-- The counts of L start afresh for the second that begins (R69), with what frames of it have already brought. -/
def State.startSecondL (s : State) : State :=
  { s with
    rfm.sec := { s.rfm.nextSec with
      start := s.dsu.time, judged := s.judges && decide (s.rfm.l.mode ≠ .disabled)
      framerOk := s.lfr.rx.framer.carries }
    rfm.nextSec := {} }

/-- The second report (R74). -/
def Rfm.report (m : Rfm) : Report :=
  let of (v : Option Verdict) (e : Option Int) : Report :=
    match v, e with
    | some .good, some e => .phase e
    | some .neutral, _ => .skipStep
    | _, _ => .skipBad
  match m.sel with
  | none => .noReference
  | some .g => of (m.lastG.map (·.verdict)) (m.lastG.bind (·.e))
  | some .l => of (m.lastL.map (·.verdict)) (m.lastL.bind (·.e))

end Sys2Proof.Machine
end

