-- ==== Sys2Proof/Machine/Adapt.lean ====
section
/-! DEFINITION. The Link Adaptation Unit's windows and wish (R44 to R48) and the Thermal Limiter (R53 to R60). -/

namespace Sys2Proof.Machine

/-- The row index of PROFILE_FLOOR. -/
def rowProfileFloor : Nat := 3

/-- The row index of THERMAL. -/
def rowThermal : Nat := 5

/-- The row index of SENSOR_LOST. -/
def rowSensorLost : Nat := 6

/-! ### The wish -/

/-- The up threshold of a profile in force. -/
def Lau.upOf (a : Lau) (p : Nat) : Nat := (a.up[p]?).getD 0

/-- The down threshold of a profile in force. -/
def Lau.downOf (a : Lau) (p : Nat) : Nat := (a.down[p]?).getD 0

/-- The highest profile below `p` whose down threshold is at or below `avg`, or 0 (R45). -/
def Lau.highestBelow (a : Lau) (avg : Nat) : Nat → Nat
  | 0 => 0
  | p + 1 => if a.downOf p ≤ avg then p else a.highestBelow avg p

/-- The wish and upshift streak that R45 gives for a window. -/
def Lau.window (a : Lau) (cur avg : Nat) : Nat × Nat :=
  if avg < a.downOf cur then (a.highestBelow avg cur, 0)
  else if cur < 7 ∧ a.upOf (cur + 1) ≤ avg then
    if a.upStreak + 1 = 8 then (cur + 1, 0) else (a.wish, a.upStreak + 1)
  else (a.wish, 0)

/-- The wish is set; a change queues a PROFILE notice (R45). -/
def State.setWish (s : State) (w : Nat) : State :=
  if s.lau.wish = w then s else { s with lau.wish := w }.noteProfile

/-- The floor streak of a window at P0 (R47). -/
def State.floorWindow (s : State) (avg : Nat) : State :=
  if s.lfr.rx.prof = 0 then
    if avg < s.lau.downOf 0 then
      let n := min 255 (s.lau.floorStreak + 1)
      let s : State := { s with lau.floorStreak := n }
      if n = 32 then s.raiseNow rowProfileFloor 0 else s
    else { s with lau.floorStreak := 0 }.clear rowProfileFloor
  else s

/-- The margin window has its 32 slots (R44). -/
def Lau.windowDone (a : Lau) : Bool := a.winOn && decide (32 ≤ a.winSlots)

/-- The end of a margin window (R44, R45, R47, R48). DESIGN CHOICE (log 58): PROFILE_FLOOR is raised or cleared before the
PROFILE notice of a changed wish. -/
def State.marginWindow (s : State) : State :=
  if s.lau.windowDone then
    let avg := s.lau.winSum / 32
    let r := s.lau.window s.lfr.rx.prof avg
    let s : State := { s with lau.winSlots := 0, lau.winSum := 0, lau.upStreak := r.2 }
    let s := s.floorWindow avg
    if s.lau.fix.isSome then s else s.setWish r.1
  else s

/-- A receive slot's margin (R44). -/
def Lau.slot (a : Lau) (margin : Nat) : Lau :=
  if a.winOn then { a with winSlots := a.winSlots + 1, winSum := a.winSum + margin } else a

/-- The receive profile in force has changed from `old` (R28, R46): a new window starts with this frame. DESIGN CHOICE (log
58): PROFILE_FLOOR is cleared before the PROFILE notice. -/
def State.rxProfileChanged (s : State) (old : Nat) : State :=
  let s : State := { s with lau.winSlots := 0, lau.winSum := 0, lau.upStreak := 0 }
  let s := if old = 0 then { s with lau.floorStreak := 0 }.clear rowProfileFloor else s
  s.noteProfile

/-- The receive framer goes DOWN (R46). DESIGN CHOICE (log 58): PROFILE_FLOOR is cleared before the PROFILE notice. -/
def State.adaptDown (s : State) : State :=
  let s : State := { s with
    lau.winOn := false, lau.winSlots := 0, lau.winSum := 0, lau.upStreak := 0, lau.floorStreak := 0 }
  (s.clear rowProfileFloor).setWish 0

/-- The receive framer enters UP (R44, R48): a window starts when it comes from CONFIRM, and a fix takes the wish. -/
def State.adaptUp (s : State) (fromConfirm : Bool) : State :=
  let s : State := if fromConfirm then { s with lau.winOn := true, lau.winSlots := 0, lau.winSum := 0 } else s
  match s.lau.fix with
  | some v => s.setWish v
  | none => s

/-- A fix is put in force or released (R48); a release with no fix in force changes nothing. -/
def State.setFix (s : State) (v : Option Nat) : State :=
  if v = none ∧ s.lau.fix = none then s
  else
    let up := s.lfr.rx.framer.carries
    let wish := match v with
      | some x => if up then x else s.lau.wish
      | none => if up then s.lfr.rx.prof else 0
    { s with lau.fix := v, lau.wish := wish }.noteProfile

/-! ### The Thermal Limiter -/

/-- The range of a valid count (R55). -/
def ThermalSet.range (t : ThermalSet) (count : Nat) : Nat :=
  if t.falling then (if t.high ≤ count then 0 else if t.low ≤ count then 1 else 2)
  else if count < t.low then 0 else if count < t.high then 1 else 2

/-- The sensor level at a gate that indicates range `r` (R56). -/
def Tlm.rangeGate (t : Tlm) (r : Nat) : Tlm :=
  if t.sensor < r then { t with sensor := r, cool := 0, coolHigh := 0 }
  else if r = t.sensor then { t with cool := 0, coolHigh := 0 }
  else
    let n := t.cool + 1
    let high := max t.coolHigh r
    if n = 5 ∧ !t.failSafe then { t with sensor := high, cool := 0, coolHigh := 0 }
    else { t with cool := n, coolHigh := high }

/-- The gate's count, its range and the sensor level (R53, R55, R56). -/
def Tlm.takeGate (t : Tlm) (edges : Nat) : Tlm :=
  let count := min 65535 edges
  let ok := gateValid count
  let t := { t with
    gateCount := count, last3 := (ok, t.last3.1, t.last3.2.1)
    range := if ok then some (t.set.range count) else none }
  if ok then { t.rangeGate (t.set.range count) with valid := t.valid + 1, invalid := 0 }
  else { t with cool := 0, coolHigh := 0, valid := 0, invalid := t.invalid + 1 }

/-- The fail-safe after a gate (R57). -/
def Tlm.failGate (t : Tlm) : Tlm :=
  if t.failSafe then (if 3 ≤ t.valid then { t with failSafe := false } else t)
  else if 3 ≤ t.invalid then { t with failSafe := true, sensor := 2 } else t

/-- The hot hold at a gate end (R58); `hot`: HOT_N is asserted now, as the next gate begins. -/
def Tlm.hotGate (t : Tlm) (hot : Bool) : Tlm :=
  let t' : Tlm :=
    if t.hotHold = 0 then { t with hotRelease := 0 }
    else if t.gateHot then { t with hotRelease := 0 }
    else if t.hotRelease + 1 = 5 then { t with hotHold := 0, hotRelease := 0 }
    else { t with hotRelease := t.hotRelease + 1 }
  { t' with gateHot := hot }

/-- HOT_N becomes asserted (R58). -/
def Tlm.hotAssert (t : Tlm) : Tlm := { t with hotHold := 2, hotRelease := 0, gateHot := true }

/-- The thermal level made from the sensor level and the hot hold (R59). -/
def Tlm.levelNow (t : Tlm) : Nat := if t.enabled then max t.sensor t.hotHold else t.hotHold

/-- The fail-safe has been updated, or the limiter enabled, since `old` (R57): SENSOR_LOST is raised on entry while the
limiter is enabled and at enabling, and cleared on leaving. -/
def State.settleFailSafe (s : State) (old : Tlm) : State :=
  let t := s.tlm
  if t.failSafe && t.enabled && !(old.failSafe && old.enabled) then s.raiseNow rowSensorLost 0
  else if old.failSafe && !t.failSafe then s.clear rowSensorLost
  else s

/-- The thermal level is recomputed after a change of the limiter from `old` (R59, R61): the notice is queued, the ceiling
follows the cap, and THERMAL is raised and cleared, in this order (log 58). -/
def State.thermalSettle (s : State) (old : Tlm) : State :=
  let t := { s.tlm with level := s.tlm.levelNow }
  let s : State := { s with tlm := t }
  let s := if t.level ≠ old.level ∨ t.sensor ≠ old.sensor ∨ t.hotHold ≠ old.hotHold ∨ t.failSafe ≠ old.failSafe
    then s.noteThermal else s
  let s := s.recomputeCeiling
  if t.level = 2 ∧ old.level ≠ 2 then s.raiseNow rowThermal 2
  else if t.level ≠ 2 ∧ old.level = 2 then s.clear rowThermal
  else s

/-- A gate end (R53): the count, range and sensor level (R55, R56), the fail-safe (R57), the hot hold (R58), and the
thermal level (R59), in this order. DESIGN CHOICE (log 58): SENSOR_LOST is raised or cleared before the THERMAL notice. -/
def State.gate (s : State) (edges : Nat) : State :=
  let old := s.tlm
  let s := { s with tlm := (s.tlm.takeGate edges).failGate }.settleFailSafe old
  { s with tlm := s.tlm.hotGate s.hot }.thermalSettle old

/-- HOT_N is taken as a change of the input from `was` (R58). -/
def State.hotTaken (s : State) (was : Bool) : State :=
  if s.hot && !was then { s with tlm := s.tlm.hotAssert }.thermalSettle s.tlm else s

/-- The limits and relations of R54. -/
def ThermalSet.valid (t : ThermalSet) : Bool :=
  decide (100 ≤ t.low) && decide (t.low < t.high) && decide (t.high ≤ 20000) && decide (t.l1cap ≤ 7)
    && decide (t.l2cap ≤ t.l1cap)

/-- Settings come into force and the limiter may be enabled, which locks it (R54, R58, R60). DESIGN CHOICE (log 35): of the
two raises at enabling, SENSOR_LOST comes before THERMAL, as at a gate end, and (log 58) before the THERMAL notice. -/
def State.thermalForce (s : State) (set : ThermalSet) (enable : Bool) : State :=
  let old := s.tlm
  let was := s.hot
  let s : State := { s with tlm := { s.tlm with
    set := set, enabled := s.tlm.enabled || enable, locked := s.tlm.locked || enable } }
  let s : State := if s.hot && !was then { s with tlm := s.tlm.hotAssert } else s
  (s.settleFailSafe old).thermalSettle old

end Sys2Proof.Machine
end

