-- ==== Sys2Proof/Machine/SitePhase.lean ====
section
/-! DEFINITION. The Site Phase Controller (chapter 1): the moves between phases, the alignment assist, the rounds; the
receive framer's DOWN and its restart, which reach every block; and the work an event leaves to be done before it
ends (log 5). -/

namespace Sys2Proof.Machine

/-- The row index of LINK_LOSS. -/
def rowLinkLoss : Nat := 1

/-- The row index of PROVE_FAIL. -/
def rowProveFail : Nat := 2

/-! ### Moves between phases -/

/-- What the phase left tells the other blocks (R5, R8, R19, R105, R159), once the phase is `p`. DESIGN CHOICE (log 58):
the tenants are held, and their notices queued, in the order of their numbers, and before the runs end. -/
def State.leaveEffects (s : State) (old p : Phase) (c : PhaseCause) : State :=
  match old with
  | .prove =>
    let s := if p = .service then s.roundOver c else s.stopRuns c
    s.clear rowProveFail
  | .service => (s.forTenants (fun s i => s.hold .phase i)).stopRuns c
  | .load | .align | .seek | .recover | .halt => s

/-- The phase moves (R3): the timers stop, the prove state returns to IDLE (R19), the PHASE notice is queued with the
prove state and round number given, and the phase left has its effects. A raise later in the event is answered by the
first phase left in it (R166). -/
def State.movePhase (s : State) (p : Phase) (c : PhaseCause) (prove : ProveState) (roundNo : Nat) : State :=
  let old := s.spc.phase
  let s := if old = .align then s.noteAlign else s
  let s : State := { s with
    work.phase := s.work.phase.or (some old)
    spc := { s.spc with
      phase := p, left := old, cause := c, prove := .idle, roundNo := 0, retry := none, recover := none
      winSlots := 0, winSum := 0, led := false } }
  (s.notify .phase 0 (s.phaseContent prove roundNo)).leaveEffects old p c

/-- SERVICE is entered: every HELD tenant that can becomes ACTIVE (R103). DESIGN CHOICE (log 58): in the order of their
numbers, and behind what the phase left brings (R19), the TEST notice of the round and the clear of PROVE_FAIL. -/
def State.enterService (s : State) (c : PhaseCause) (prove : ProveState) (roundNo : Nat) : State :=
  (s.movePhase .service c prove roundNo).forTenants (fun s i => s.tryActive .phase i)

/-- PROVE is entered (R4, R16). -/
def State.enterProve (s : State) (c : PhaseCause) : State :=
  if s.stu.entriesOf .bringup = [] then
    (s.movePhase .prove c .passed 0).enterService .proveEmpty .passed 0
  else
    let s := s.movePhase .prove c .round 1
    { s with spc.prove := .round, spc.roundNo := 1 }.requestRound

/-- SEEK is entered (R5 to R7). -/
def State.enterSeek (s : State) (c : PhaseCause) : State := s.movePhase .seek c .idle 0

/-- RECOVER is entered (R5). -/
def State.enterRecover (s : State) : State :=
  { s.movePhase .recover .linkDown .idle 0 with spc.recover := some Config.recoverFrames }

/-- A read in progress is stopped when HALT is entered from LOAD (R181). DESIGN CHOICE (log 62): the buffer has taken nothing
of it. -/
def State.stopRead (s : State) : State :=
  if s.il.state = .reading then { s with il.state := .empty }.noteImage else s

/-- HALT is entered (R8, R21). DESIGN CHOICE (log 58): the LINK notice is the last, behind PHASE and behind the TENANT, TEST
and PROVE_FAIL notices of the phase left. -/
def State.enterHalt (s : State) (c : PhaseCause) : State :=
  let old := s.spc.phase
  let s := s.movePhase .halt c .idle 0
  if old = .load then s.stopRead else { s with lfr.tx.framer := .halted, lfr.tx.haltDue := true }.noteLink

/-- ALIGN is left for SEEK, and at once for PROVE if the receive framer is UP (R13). -/
def State.leaveAlign (s : State) (c : PhaseCause) : State :=
  let s := s.enterSeek c
  if s.lfr.rx.framer = .up then s.enterProve c else s

/-! ### The alignment assist -/

/-- The level window has its 64 slots (R11). -/
def Spc.windowDone (c : Spc) : Bool := decide (c.phase = .align) && decide (64 ≤ c.winSlots)

/-- The align record after a window with average `avg` (R12, R13). -/
def AlignRecord.window (r : AlignRecord) (avg : Int) (now : SiteTime) (expect : Int) : AlignRecord :=
  let r := { r with avg := some avg }
  let r := match r.peak with
    | none => { r with peak := some avg, peakTime := some now, settle := 0 }
    | some p =>
      if p < avg then { r with peak := some avg, peakTime := some now, settle := 0 }
      else if p - 10 ≤ avg then { r with settle := min 65535 (r.settle + 1) }
      else { r with settle := 0 }
  { r with settled := decide (1250 ≤ r.settle) && decide (expect - 30 ≤ r.peak.getD 0) }

/-- ALIGN_LED at the end of a window (R15). -/
def AlignRecord.lamp (r : AlignRecord) : Bool :=
  match r.avg, r.peak with
  | some a, some p => decide (p - 10 ≤ a)
  | _, _ => false

/-- The end of a level window (R11 to R13, R15). -/
def State.alignWindow (s : State) : State :=
  if s.spc.windowDone then
    match s.il.link with
    | some l =>
      let r := s.spc.record.window (s.spc.winSum / 64) s.dsu.time l.expect
      let s : State := { s with spc := { s.spc with record := r, led := r.lamp, winSlots := 0, winSum := 0 } }
      if r.settled && l.autoExit then s.leaveAlign .alignSettled else s
    | none => s
  else s

/-- A receive slot's level (R11). -/
def Spc.slot (c : Spc) (level : Int) : Spc :=
  if c.phase = .align then { c with winSlots := c.winSlots + 1, winSum := c.winSum + level } else c

/-! ### Rounds (R17, R159) -/

/-- A round has passed (R17). -/
def State.roundPassed (s : State) : State :=
  if s.spc.prove = .round then s.enterService .provePassed .passed s.spc.roundNo else s

/-- A round has failed at a plan index (R17); a report that finds no round is discarded (R19). The PHASE notice comes before
the raise of PROVE_FAIL (log 58). -/
def State.roundFailed (s : State) (idx : Nat) : State :=
  if s.spc.prove = .round then
    if s.spc.roundNo < 3 then
      let s : State := { s with spc.roundNo := s.spc.roundNo + 1, spc.retry := some Config.retryFrames }
      s.notify .phase 0 (s.phaseContent s.spc.prove s.spc.roundNo)
    else
      let s : State := { s with spc.prove := .failed }
      (s.notify .phase 0 (s.phaseContent s.spc.prove s.spc.roundNo)).raiseNow rowProveFail idx
  else s

/-- The active run ends, and a round it belonged to may end with it (R148, R159). DESIGN CHOICE (log 58): the TEST notice of a
round's end is queued before the PHASE notice (R17). -/
def State.endRun (s : State) (r : Run) (o : RunOutcome) (c : RunCause) : State :=
  let s := s.finishRun r o c
  if r.round then
    if o = .pass then
      (if s.stu.queue.any (·.round) then s else s.noteTest.roundPassed)
    else ((s.removeRuns (·.round)).noteTest).roundFailed r.idx
  else s

/-- The active run ends ABORTED (R153): what it holds is given back first. -/
def State.abortRun (s : State) (r : Run) (c : RunCause) : State := (s.giveBack r c).endRun r .aborted c

/-- A link pattern run that holds a grant is aborted (R153), and a release that a revocation came before follows (R126). -/
def State.abortGranted (s : State) (c : RunCause) : State :=
  let s := s.settleRelease
  match s.stu.active with
  | some r => if s.stu.holdsGrant then s.abortRun r c else s
  | none => s

/-- The retry timer has run out: the next round is asked for (R17). -/
def State.retryDone (s : State) : State :=
  if s.spc.retry.isSome then { s with spc.retry := none }.requestRound else s

/-- The recover timer has run out (R6). -/
def State.recoverDone (s : State) : State :=
  if s.spc.recover.isSome then s.enterSeek .recoverExpiry else s

/-! ### The receive framer's DOWN and restart -/

/-- The receive side drops what it holds of the peer (R25, R142). DESIGN CHOICE (log 47): the base map it puts in force is
not counted among the receive maps taken into force (R144). DESIGN CHOICE (log 52): an entry to UP that is still due is
dropped with the rest. Its MAP notice comes before the LINK notice of the DOWN (log 58). -/
def State.dropPeer (s : State) : State :=
  let s : State := { s with
    lfr.rx.framer := .down, lfr.rx.run := 0, lfr.rx.upDue := none, lfr.rx.prof := 0, lfr.rx.pend := none
    lfr.rx.map := {}, lfr.rx.mpend := none, lfr.rx.peer := none
    lfr.counts.down := s.lfr.counts.down + 1
    tpt := Four.of (fun i => (s.tpt.get i).gap) }
  s.noteMap .rxDown

/-- LINK_LOSS is raised for a DOWN in PROVE, SERVICE or RECOVER (R25). -/
def State.raiseLinkLoss (s : State) : State :=
  if s.spc.phase = .prove ∨ s.spc.phase = .service ∨ s.spc.phase = .recover
  then s.raiseNow rowLinkLoss s.lfr.counts.down.toNat else s

/-- The Site Phase Controller takes a DOWN (R4, R5). -/
def State.phaseDown (s : State) : State :=
  match s.spc.phase with
  | .prove => s.enterSeek .linkDown
  | .service => s.enterRecover
  | .load | .align | .seek | .recover | .halt => s

/-- The Self-Test Unit takes a DOWN (R153, R156); a release that a revocation came before follows (R126). -/
def State.testDown (s : State) : State :=
  let s := s.settleRelease
  let s : State := match s.stu.active with
    | some r => if r.entry.kind = .linkPattern then s.abortRun r .linkDown else s
    | none => s
  { s with stu.chk := s.stu.chk.idle }

/-- The receive framer goes DOWN and then to HUNT (R24, R25): one event at every block that takes it. DESIGN CHOICE
(log 38): L's loss reaches the tenants before the phase moves. DESIGN CHOICE (log 58): the MAP notice, the LINK notice, and
only then the raises. DESIGN CHOICE (log 59): LINK_LOSS is raised before REF_LOSS. DESIGN CHOICE (log 67): a DOWN taken before
a crossing that falls together with it falls in the second just ended (R70). -/
def State.rxDown (s : State) : State :=
  let hadProf := s.lfr.rx.prof
  let s := s.dropPeer
  let s := (s.noteLink).raiseLinkLoss
  let s := s.adaptDown
  let s := if hadProf = 0 then s else s.noteProfile
  let s := { s with rfm.sec.framerOk := false }.refDown .l
  let s := (s.phaseDown).testDown
  { s with lfr.rx.framer := .hunt }.noteLink

/-- The receive framer is restarted (R7). -/
def State.restartRx (s : State) : State :=
  match s.lfr.rx.framer with
  | .up | .flywheel | .down => s.rxDown
  | .confirm => { s with lfr.rx.framer := .hunt, lfr.rx.run := 0, lfr.rx.peer := none }.noteLink
  | .hunt | .off => s

/-- The site goes back to SEEK by request or response (R7). The DOWN of the restart is taken with the phase already SEEK, so
what it raises is handed over with SEEK (R166). -/
def State.reseek (s : State) (c : PhaseCause) : State :=
  let s := s.enterSeek c
  let left := s.work.phase
  let s := { s with work.phase := none }.restartRx
  { s with work.phase := left }

/-- The receive framer has entered UP (R24, R25): LINK_LOSS is cleared, the Link Adaptation Unit begins (R44, R48), and the
phase may move (R4, R6); their notices in this order: DESIGN CHOICE (log 58). -/
def State.rxUp (s : State) (fromConfirm : Bool) : State :=
  let s := (s.clear rowLinkLoss).adaptUp fromConfirm
  match s.spc.phase with
  | .seek => s.enterProve .linkUp
  | .recover => s.enterService .linkUp .idle 0
  | .load | .align | .prove | .service | .halt => s

/-! ### Work left in an event (log 5) -/

/-- A response's action is done (R170, R171). -/
def State.act (s : State) (a : Action) : State :=
  match a with
  | .bar i => s.bar i .barResponse
  | .reseek =>
    if s.spc.phase = .prove ∨ s.spc.phase = .service ∨ s.spc.phase = .recover then s.reseek .reseekResponse else s
  | .halt => if s.spc.phase = .halt then s else s.enterHalt .haltResponse

/-- The run at the head leaves QUEUED for the first state of its kind (R147); a SENSOR_CHECK is judged at once (R155). -/
def State.startRun (s : State) : State :=
  match s.stu.queue with
  | [] => s
  | r :: _ =>
    if r.state = .queued then
      match r.entry.kind with
      | .linkPattern =>
        ((s.setActive { r with state := .waiting, grantLeft := some Config.grantFrames }).testRequest
          r.entry.blocks).noteTest
      | .refCross => (s.setActive { r with state := .running }).noteTest
      | .sensorCheck =>
        let r := { r with state := .running, fig.gateCount := s.tlm.gateCount, fig.gates := s.tlm.last3 }
        let ok := s.tlm.last3.1 && s.tlm.last3.2.1 && s.tlm.last3.2.2
        ((s.setActive r).noteTest).endRun r (if ok then .pass else .fail) (if ok then .none else .invalidGate)
    else s

/-- What aborts or drains the run that holds a grant stands already, so that a revocation taken now falls together with its
release (R126): its duration is reached, or a DOWN, the fallback condition or CARRIAGE_HOLD is still to be taken (R29, R32,
R152, R153). DESIGN CHOICE (log 60). -/
def State.releaseStands (s : State) : Bool :=
  s.stu.durationDone || decide (s.lfr.rx.framer = .down) || (decide (s.lfr.tx.framer = .normal) && s.fallbackCond)
    || (s.pins.carriageHold && !s.lfr.tx.hold)

/-- The run that held a revoked grant is aborted (R126), and a release that falls together with the revocation is left to
follow it. -/
def State.revokeRun (s : State) (r : Run) : State :=
  { s with stu.lateRelease := s.stu.lateRelease || s.releaseStands }.abortRun r .revoked

/-- One computation, with the grant given or revoked handed to the Self-Test Unit (R119, R125, R126). DESIGN CHOICE
(log 39): what a revocation sets off in the runs queued behind leads to a second computation in the event. DESIGN CHOICE
(log 58): the newest map, and its MAP notice, come before the grant given or revoked, and its TEST notice. -/
def State.compute (s : State) (t : Trigger) : State :=
  let o := share s.shareIn
  let s := s.computeShare t o
  if o.gave then s.grantGiven
  else if o.revoked then
    match s.stu.active with
    | some r => s.revokeRun r
    | none => s
  else s

/-- One piece of the work left that is no computation: first the responses' actions, then the run at the head. -/
def State.actStep (s : State) : State :=
  match s.work.acts with
  | a :: as => { s with work.acts := as }.act a
  | [] => if s.work.runDue then { s with work.runDue := false }.startRun else s

/-- One piece of the work left: actions and the run at the head first, then the allocation (log 5). DESIGN CHOICE (log 39):
where these leave a trigger after a computation, the event has a second one. -/
def State.workStep (s : State) : State :=
  if s.work.acts.isEmpty && !s.work.runDue then
    match s.work.alloc with
    | some t => { s with work.alloc := none }.compute t
    | none => s
  else s.actStep

/-- The work left is done piece by piece. -/
def State.doWork : Nat → State → State
  | 0, s => s
  | n + 1, s => doWork n s.workStep

/-- The actions and the runs at the head are done, and the allocation is left for the end of the event (R119). -/
def State.doActs : Nat → State → State
  | 0, s => s
  | n + 1, s => doActs n s.actStep

/-- The event ends: the work left is done, and the runs removed in it (R163) and the phase it left are forgotten. -/
def State.finishWork (s : State) : State := { State.doWork 48 s with stu.removed := [], work.phase := none }

end Sys2Proof.Machine
end

