-- ==== Sys2Proof/Machine/LinkRx.lean ====
section
/-! DEFINITION. The receive side of the Link Framer (chapter 2): classifying a slot, moving the framer, the profile and
map records (R26, R28, R140, R141), the carriage blocks (R35 to R37) and the service block (R40, R41). -/

namespace Sys2Proof.Machine

/-- The row index of MAP_SLIP. -/
def rowMapSlip : Nat := 4

/-- What a receive slot brought (R23): a good header, a bad one, or none. -/
inductive SlotHeader where
  | good (h : Header)
  | bad
  | missing
  deriving DecidableEq, Repr

/-- The header of a received frame classified (R23): CRC and link id. -/
def State.classify (s : State) (f : RxFrame) : SlotHeader :=
  let h := parseHeader f.header
  match s.il.link with
  | some l => if crcOk f.header && decide (h.linkId = l.linkId.toNat) then .good h else .bad
  | none => .bad

/-- The header of a slot is good. -/
def SlotHeader.isGood : SlotHeader → Bool
  | .good _ => true
  | .bad | .missing => false

/-- The receive framer and its run counter after a slot (R24), and an entry to UP with whether it is from CONFIRM. DESIGN
CHOICE (log 43): the entry to UP from CONFIRM puts the run counter at 0, as the one from FLYWHEEL does. -/
def LfrRx.step (x : LfrRx) (good : Bool) : RxFramer × Nat × Option Bool :=
  match x.framer, good with
  | .hunt, true => (.confirm, 1, none)
  | .confirm, true => if x.run + 1 = 16 then (.up, 0, some true) else (.confirm, x.run + 1, none)
  | .confirm, false => (.hunt, 0, none)
  | .up, false => (.flywheel, 1, none)
  | .flywheel, true => (.up, 0, some false)
  | .flywheel, false => if x.run + 1 = 8 then (.down, 8, none) else (.flywheel, x.run + 1, none)
  | st, _ => (st, x.run, none)

/-- A slot's counts and frame number (R23). -/
def Lfr.countSlot (l : Lfr) (h : SlotHeader) : Lfr :=
  match h with
  | .good x =>
    { l with counts.good := l.counts.good + 1, rx.frameNo := BitVec.ofNat 16 x.frameNo }
  | .bad => { l with counts.bad := l.counts.bad + 1, rx.frameNo := l.rx.frameNo + 1 }
  | .missing => { l with counts.missing := l.counts.missing + 1, rx.frameNo := l.rx.frameNo + 1 }

/-- The framer moves (R24); a change queues a LINK notice, but for DOWN, whose event reports it (R25). The peer record
goes with a fall to HUNT (R29). -/
def State.moveFramer (s : State) (good : Bool) : State :=
  let r := s.lfr.rx.step good
  let old := s.lfr.rx.framer
  let s : State := { s with
    lfr.rx.framer := r.1, lfr.rx.run := r.2.1
    lfr.rx.upDue := if r.2.2.isSome then r.2.2 else s.lfr.rx.upDue
    lfr.rx.peer := if r.1 = .hunt then none else s.lfr.rx.peer }
  if r.1 = old ∨ r.1 = .down then s else s.noteLink

/-- The peer record is set from a good header (R25, R29, R50); a change of its state or halted flag queues a LINK
notice (R42). -/
def State.takePeer (s : State) (h : Header) : State :=
  let old := s.lfr.rx.peer
  let new : PeerRecord :=
    ⟨h.state, h.halted, h.hold, if h.wish ≤ 7 then some h.wish else old.bind (·.wish)⟩
  let s : State := { s with lfr.rx.peer := some new }
  if old.map (fun p => (p.state, p.halted)) = some (new.state, new.halted) then s else s.noteLink

/-- The receive profile in force becomes `p` (R28, R46). -/
def State.setRxProf (s : State) (p : Nat) : State :=
  let old := s.lfr.rx.prof
  if p = old then s else { s with lfr.rx.prof := p }.rxProfileChanged old

/-- The receive map in force becomes `m` (R142). -/
def State.setRxMap (s : State) (m : RxMap) (c : MapCause) : State :=
  if m = s.lfr.rx.map then s
  else { s with lfr.rx.map := m, lfr.mcounts.rxTaken := s.lfr.mcounts.rxTaken + 1 }.noteMap c

/-- The map the records predict for the frame (R140, R141). -/
def LfrRx.predicted (x : LfrRx) : RxMap :=
  match x.mpend with
  | some p => if p.count = 1 then ⟨p.ver, p.counts⟩ else x.map
  | none => x.map

/-- The records are brought into line with a good header whose fields pass R26 (R28, R140): the profile first, then the map
(log 58). -/
def State.alignRecords (s : State) (h : Header) : State :=
  let stated : RxMap := ⟨h.ver, h.cur⟩
  let corrected := decide (stated ≠ s.lfr.rx.predicted)
  let s : State := { s with lfr.rx.pend := if h.count = 0 then none else some ⟨h.next, h.count⟩ }
  let s := s.setRxProf h.prof
  let s : State := if corrected then { s with lfr.mcounts.corrections := s.lfr.mcounts.corrections + 1 } else s
  let hadVer := s.lfr.rx.mpend.map (·.ver)
  let s : State := { s with
    lfr.rx.mpend := if h.mapCount = 0 then none else some ⟨h.pendVer, h.pend, h.mapCount⟩ }
  let s := s.setRxMap stated (if corrected then .rxCorrected else .rxInForce)
  if h.mapCount ≠ 0 ∧ hadVer ≠ some h.pendVer then s.noteMap .rxPending else s

/-- The records are counted down through a frame whose header they replace (R28, R141). -/
def State.countRecords (s : State) : State :=
  let s : State := match s.lfr.rx.pend with
    | none => s
    | some p =>
      if p.count = 1 then { s with lfr.rx.pend := none }.setRxProf p.target
      else { s with lfr.rx.pend := some { p with count := p.count - 1 } }
  match s.lfr.rx.mpend with
  | none => s
  | some p =>
    if p.count = 1 then { s with lfr.rx.mpend := none }.setRxMap ⟨p.ver, p.counts⟩ .rxInForce
    else { s with lfr.rx.mpend := some { p with count := p.count - 1 } }

/-- What a slot does to the peer record and the records (R26). -/
def State.takeHeader (s : State) (h : SlotHeader) : State :=
  match h with
  | .good x =>
    let s := s.takePeer x
    let s : State := if x.fieldsOk && decide (x.wish ≤ 7) then s
      else { s with lfr.counts.malformedHeader := s.lfr.counts.malformedHeader + 1 }
    if x.fieldsOk then s.alignRecords x else s.countRecords
  | .bad | .missing => if s.lfr.rx.framer.carries then s.countRecords else s

/-! ### Carriage blocks -/

/-- A label's fields (chapter 2.1). -/
structure Label where
  owner : Nat
  start : Bool
  fill : Nat
  offset : Nat
  deriving DecidableEq, Repr

/-- The label of a block. -/
def readLabel (b : Bytes) : Label :=
  ⟨bits (field b 0 1) 0 4, bits (field b 0 1) 4 1 = 1, field b 1 2, field b 3 1⟩

/-- How a received block is handled (R34, R35). -/
inductive Handling where
  | uncorrectable
  | mismatch
  | malformed
  | deliver (l : Label)
  deriving DecidableEq, Repr

/-- The handling of a block at a position owned by `o`, with `bb` data bytes (R34, R35). -/
def handling (o : Owner) (bb : Nat) (b : RxBlock) : Handling :=
  let l := readLabel b.label
  if b.uncorrectable then .uncorrectable
  else if l.owner ≠ o.code then .mismatch
  else if bb < l.fill ∨ (l.start = true ∧ l.fill ≤ l.offset) then .malformed
  else .deliver l

/-- A label mismatch is counted; the sixteenth of the site second raises MAP_SLIP (R37). -/
def State.countMismatch (s : State) : State :=
  let n := s.lfr.rx.secMismatch + 1
  let s : State := { s with lfr.rx.secMismatch := n, lfr.counts.mismatch := s.lfr.counts.mismatch + 1 }
  if n = 16 then s.raiseNow rowMapSlip 0 else s

/-- A gap at a position: it breaks the stream of the tenant that owns it (R36). -/
def State.gapAt (s : State) (o : Owner) : State :=
  match o with
  | .tenant i => s.modTenant i Tenant.gap
  | .test | .idle => s

/-- One carriage block at position `q` (R35). -/
def State.takeBlock (s : State) (bb q : Nat) (b : RxBlock) : State :=
  let o := s.lfr.rx.map.counts.owner q
  let n := s.lfr.rx.frameNo.toNat
  let s : State := { s with lfr.counts.blocksRead := s.lfr.counts.blocksRead + 1 }
  match handling o bb b with
  | .uncorrectable =>
    let s : State := { s with lfr.counts.uncorrectable := s.lfr.counts.uncorrectable + 1 }
    match o with
    | .test => { s with stu.chk := s.stu.chk.take bb n q none }
    | .tenant _ | .idle => s.gapAt o
  | .mismatch => s.countMismatch.gapAt o
  | .malformed => { s with lfr.counts.malformedLabel := s.lfr.counts.malformedLabel + 1 }.gapAt o
  | .deliver l =>
    match o with
    | .tenant i => s.modTenant i (fun t => t.block (b.data.take l.fill) (if l.start then some l.offset else none))
    | .test => { s with stu.chk := s.stu.chk.take bb n q (some (l.fill, b.data)) }
    | .idle => s

/-- The tenants that hold positions of the receive map. -/
def State.gapAll (s : State) : State :=
  s.forTenants (fun s i => if s.lfr.rx.map.counts.ten.get i = 0 then s else s.modTenant i Tenant.gap)

/-- The carriage blocks of a slot (R33, R35): none when the framer does not carry or the peer holds. DEDUCED (log 15): a
frame under the peer's hold counts no carriage blocks read. -/
def State.takeCarriage (s : State) (h : SlotHeader) (blocks : List RxBlock) : State :=
  let held := match h with
    | .good x => x.hold
    | .bad | .missing => (s.lfr.rx.peer.map (·.hold)).getD false
  if s.lfr.rx.framer.carries && !held then
    match h with
    | .missing => s.gapAll
    | .good _ | .bad =>
      let bb := blockBytes s.lfr.rx.prof
      (blocks.zip positions).foldl (fun s x => s.takeBlock bb x.2 x.1) s
  else s

/-! ### The service block (R40, R41) -/

/-- What a service block says, or that it fails the tests of R40. -/
inductive Service where
  | idle
  | start (id : Nat) (mask : Bytes) (blocks : Nat)
  | report (id checked bad window : Nat)
  | note (bytes : Bytes)
  | discard
  deriving DecidableEq, Repr

/-- A service block read (chapter 2.1, R40). -/
def readService (bad : Bool) (b : Bytes) : Service :=
  let len := field b 1 1
  if bad || !crcOk b then .discard
  else match field b 0 1 with
  | 0 => if len = 0 then .idle else .discard
  | 1 => if len = 18 then .start (field b 2 1) (slice b 3 16) (field b 19 1) else .discard
  | 2 => if len = 7 then .report (field b 2 1) (field b 3 2) (field b 5 2) (field b 7 2) else .discard
  | 3 => if 1 ≤ len ∧ len ≤ 32 then .note (slice b 2 len) else .discard
  | _ => .discard

/-- A note arrives (R41). DESIGN CHOICE (log 34): its arrival is site time at the event. -/
def State.takeNote (s : State) (b : Bytes) : State :=
  let s : State := if s.lfr.rx.relay.length < 4 then
      { s with lfr.rx.relay := s.lfr.rx.relay ++ [⟨b, s.dsu.time⟩] }
    else { s with lfr.rx.relayLost := min 255 (s.lfr.rx.relayLost + 1) }
  s.notify .note 0 s.noteContent

/-- The service block of a frame with a good header is taken (R40). -/
def State.takeService (s : State) (v : Service) : State :=
  match v with
  | .idle => s
  | .start id mask blocks => s.armChecker id mask blocks
  | .report id checked bad _ => s.takeReport id checked bad
  | .note b => s.takeNote b
  | .discard => { s with lfr.counts.discardedService := s.lfr.counts.discardedService + 1 }

/-! ### Events of the receive side that a slot leaves due (log 6) -/

/-- An entry to UP is handed over. -/
def State.deliverUp (s : State) : State :=
  match s.lfr.rx.upDue with
  | some fromConfirm => { s with lfr.rx.upDue := none }.rxUp fromConfirm
  | none => s

/-- A DOWN is handed over. -/
def State.deliverDown (s : State) : State := if s.lfr.rx.framer = .down then s.rxDown else s

/-- Events of the receive side that are due are taken before the next slot, each whole (log 6). -/
def State.settleRx (s : State) : State :=
  let s := s.deliverDown.finishWork
  let s := s.deliverUp.finishWork
  let s := s.marginWindow.finishWork
  let s := s.alignWindow.finishWork
  s.checkerWindow.finishWork

/-- One receive slot (R23 to R41): the frame as handed over, or none. DESIGN CHOICE (log 48): a TEST_START in the slot that
fills an armed checker's window comes before the window's end, and discards it. DESIGN CHOICE (log 51): the framer moves
before the slot's frame is read, so that the frame of the sixteenth good header is read, and that of the eighth bad one is
not. -/
def State.slot (s : State) (h : SlotHeader) (f : Option RxFrame) : State :=
  let s := s.settleRx
  let s : State := { s with lfr := s.lfr.countSlot h }
  let s := (s.moveFramer h.isGood).takeHeader h
  let margin := (f.map (fun x => (clampInt 0 400 x.margin).toNat)).getD 0
  let level := (f.map (fun x => clampInt (-900) (-200) x.level)).getD (-900)
  let s : State := { s with
    lau := if s.lfr.rx.framer.carries then s.lau.slot margin else s.lau
    spc := s.spc.slot level }
  let s := s.takeCarriage h ((f.map (·.blocks)).getD [])
  let s : State := if s.lfr.rx.framer.carries then { s with stu.chk := s.stu.chk.slot } else s
  match h, f with
  | .good x, some fr =>
    let s := s.takeService (readService fr.serviceBad fr.service)
    let s := s.markHeader x fr.arrival
    { s with lfr.rx.lastGood := some ⟨x.sent, fr.arrival⟩ }
  | _, _ => s

end Sys2Proof.Machine
end

