-- ==== Sys2Proof/Machine/LinkTx.lean ====
section
/-! DEFINITION. The transmit side of the Link Framer (chapter 2): building a frame (R20, R22), fallback (R29, R30),
profile and map switches (R27, R50, R134), and the end of an allocation period (R115). -/

namespace Sys2Proof.Machine

/-! ### Before the frame -/

/-- CARRIAGE_HOLD is sampled for the frame (R32). -/
def State.sampleHold (s : State) (hold : Bool) : State :=
  if s.lfr.tx.hold = hold then s
  else
    let s := { s with lfr.tx.hold := hold }.noteLink
    if hold then s.abortGranted .hold else s

/-- The pending switch and map are discarded, and P0 and the base map are in force (R21, R29, R139). -/
def State.discardTx (s : State) : State :=
  let s : State := { s with
    lfr.tx.prof := 0, lfr.tx.pend := none, lfr.tx.map := {}, lfr.tx.mpend := none
    lfr.mcounts.discarded := if s.lfr.tx.mpend.isSome then s.lfr.mcounts.discarded + 1 else s.lfr.mcounts.discarded }
  s.noteMap .txDiscarded

/-- A frame built in HALTED (R21): its fallback flag follows the condition, and the first one discards as the fall to
FALLBACK does (R139). -/
def State.haltTx (s : State) : State :=
  let s : State := { s with lfr.tx.fallback := s.fallbackCond }
  if s.lfr.tx.haltDue then { s with lfr.tx.haltDue := false }.discardTx else s

/-- NORMAL falls to FALLBACK, and the frame being built is already a fallback frame (R29). DESIGN CHOICE (log 58): the MAP
notice of R139 is queued before the LINK notice. -/
def State.fallBack (s : State) : State :=
  ({ s with lfr.tx.framer := .fallback, lfr.tx.fallback := true }.discardTx).noteLink

/-- The transmit framer moves by the fallback condition (R21, R29, R30). -/
def State.moveTx (s : State) : State :=
  let cond := s.fallbackCond
  match s.lfr.tx.framer with
  | .off => s
  | .halted => s.haltTx
  | .normal => if cond then s.fallBack.abortGranted .linkDown else s
  | .fallback =>
    if cond then s else { s with lfr.tx.framer := .normal, lfr.tx.fallback := false }.noteLink

/-- The frame being built follows what the responses' actions of its own event have done: after a HALT it is the first
frame of HALTED, and after a RESEEK it is a fallback frame (R8, R21, R29). DESIGN CHOICE (log 41): the actions come before
the frame is sent. Either action has ended the run that held a grant. -/
def State.retestTx (s : State) : State :=
  match s.lfr.tx.framer with
  | .halted => s.haltTx
  | .normal => if s.fallbackCond then s.fallBack else s
  | .off | .fallback => s

/-- A switch can take effect in the frame about to be built: a frame that finds HALTED or the fallback condition discards
what is pending before any switch (R21, R29; log 23). -/
def State.maySwitch (s : State) : Bool := decide (s.lfr.tx.framer = .normal) && !s.fallbackCond

/-- A pending profile switch takes effect in the frame about to be built (R27). -/
def State.profileSwitch (s : State) : State :=
  match s.lfr.tx.pend with
  | some w =>
    if s.maySwitch && (w.carried && decide (w.count = 1)) then
      { s with lfr.tx.prof := w.target, lfr.tx.pend := none, lfr.tx.switching := true }.noteProfile
    else s
  | none => s

/-- A pending map takes effect in the frame about to be built (R134). DESIGN CHOICE (log 58): its MAP notice is queued
before the TEST notice of the run that it makes RUNNING. -/
def State.mapSwitch (s : State) : State :=
  match s.lfr.tx.mpend with
  | some p =>
    if s.maySwitch && (p.carried && decide (p.count = 1)) then
      ({ s with lfr.tx.map := ⟨p.ver, p.counts, some p.prof⟩, lfr.tx.mpend := none }.noteMap .txInForce).mapTaken
        p.counts.test
    else s
  | none => s

/-- The peer wish of a scheduling check (R50; log 10). The check finds a peer record, since a frame without one has fallen
back before it (`State.retestTx`). -/
def LfrRx.peerWish (x : LfrRx) : Nat := ((x.peer.bind (·.wish)).getD Config.peerWishNoneYet.val)

/-- The target of a scheduling check (R50). -/
def State.target (s : State) : Nat := min s.lfr.rx.peerWish (min s.lau.ceiling (s.lfr.tx.prof + 1))

/-- The scheduling check (R50): NORMAL, no switch pending, and none whose first frame is the one being built. -/
def State.scheduleCheck (s : State) : State :=
  if s.lfr.tx.framer = .normal ∧ s.lfr.tx.pend = none ∧ s.lfr.tx.switching = false ∧ s.target ≠ s.lfr.tx.prof then
    ({ s with lfr.tx.pend := some ⟨s.target, 8, false⟩ }.noteProfile).wantAlloc .profileSwitch
  else s

/-! ### The frame -/

/-- The countdowns fall to what this frame carries (R27, R134). -/
def LfrTx.carry (t : LfrTx) : LfrTx :=
  { t with
    pend := t.pend.map (fun w => if w.carried then { w with count := w.count - 1 } else { w with carried := true })
    mpend := t.mpend.map (fun p => if p.carried then { p with count := p.count - 1 } else { p with carried := true }) }

/-- The five counts of a map as the header carries them. -/
def MapCounts.header (c : MapCounts) : Bytes :=
  e1 c.test ++ e1 c.ten.t0 ++ e1 c.ten.t1 ++ e1 c.ten.t2 ++ e1 c.ten.t3

/-- The receive framer is in a state reached through a good header (R22). -/
def RxFramer.echoes (f : RxFramer) : Bool := decide (f = .confirm) || f.carries

/-- U in the header's units (R91). -/
def headerU (u : Nat) : Nat := min 65535 (roundDiv u 16).toNat

/-- The 48 bytes of the link header as the owners' state stands (R22, chapter 2.1). DESIGN CHOICE: a hold that does
not fit the field is sent modulo 2^32 (log 32), and the next profile is sent as 0 while no switch is pending (log 42). -/
def State.header (s : State) : Bytes :=
  let t := s.lfr.tx
  let l := s.il.link
  let now := s.dsu.time
  let echo := if s.lfr.rx.framer.echoes then s.lfr.rx.lastGood else none
  let flags := headerFlags ((l.map (·.hub)).getD false) s.lfr.rx.framer.headerCode t.fallback
    (decide (t.framer = .halted)) echo.isSome t.hold
  let next := match t.pend with
    | some w => nextByte w.target w.count
    | none => 0
  let pend := match t.mpend with
    | some p => e1 p.ver ++ e1 p.count
    | none => [0, 0]
  let pendCounts : MapCounts := match t.mpend with
    | some p => p.counts
    | none => {}
  let b := [0xA7, 0] ++ le 2 ((l.map (·.linkId.toNat)).getD 0) ++ e1 flags ++ le 2 t.frameNo.toNat ++ e1 t.prof
    ++ e1 next ++ e1 s.lau.wish ++ e1 t.map.ver ++ pend ++ t.map.counts.header
    ++ pendCounts.header ++ e1 s.dsu.loop.code ++ le 2 (headerU s.dsu.u) ++ eTime now
    ++ (match echo with
      | some g => eTime g.sent ++ leInt 4 (timeDiff now g.arrival)
      | none => List.replicate 12 0)
  b ++ crcBytes b

/-- The 48 bytes of a service block (chapter 2.1). DESIGN CHOICE (log 68): a window number past 65,535 is sent modulo 65,536. -/
def serviceBytes (m : Option SvcMsg) : Bytes :=
  let b : Bytes := match m with
    | none => [0, 0]
    | some (.testStart id mask blocks) => [1, 18] ++ e1 id ++ padTo 16 mask ++ e1 blocks
    | some (.testReport id checked bad window) => [2, 7] ++ e1 id ++ le 2 checked ++ le 2 bad ++ le 2 window
    | some (.note bs) => [3] ++ e1 bs.length ++ bs
  let b := padTo 46 b
  b ++ crcBytes b

/-- The pattern of a TEST block (R151). -/
def patternBlock (n q bb : Nat) : Bytes := (List.range bb).map (patternByte n q)

/-- An IDLE block (R20). -/
def idleBlock (bb : Nat) : TxBlock := ⟨blockLabel Owner.idle.code 0 none, padTo bb []⟩

/-- The block at position `q` by its owner, with what filling it leaves of the tenants (R20, R112, R151). -/
def buildBlock (tpt : Four Tenant) (o : Owner) (running : Bool) (n q bb : Nat) : TxBlock × Four Tenant :=
  match o with
  | .tenant i =>
    let r := (tpt.get i).fillBlock i bb
    (r.1, tpt.set i r.2)
  | .test =>
    if running then (⟨blockLabel Owner.test.code bb none, patternBlock n q bb⟩, tpt)
    else (⟨blockLabel Owner.test.code 0 none, padTo bb []⟩, tpt)
  | .idle => (idleBlock bb, tpt)

/-- The carriage blocks in position order (R20): all IDLE under carriage hold (R32). -/
def State.buildBlocks (s : State) : List TxBlock × Four Tenant :=
  let bb := blockBytes s.lfr.tx.prof
  positions.foldl (fun r q =>
    let o := if s.lfr.tx.hold then .idle else s.lfr.tx.map.counts.owner q
    let x := buildBlock r.2 o s.stu.patternRunning s.lfr.tx.frameNo.toNat q bb
    (r.1 ++ [x.1], x.2)) ([], s.tpt)

/-- The send time of this header is kept where one from before a step or a setting may be the same (R68; log 7). -/
def Rfm.logSend (m : Rfm) (now : SiteTime) : Rfm :=
  if m.mayPrecede now then { m with overlap := m.overlap ++ [now] } else m

/-- A report counts as sent when the frame that carries it is built (R158; log 15). -/
def Checker.countSent (c : Checker) (m : Option SvcMsg) : Checker :=
  match m with
  | some (.testReport _ _ _ _) => { c with sent := c.sent + 1 }
  | some (.testStart _ _ _) | some (.note _) | none => c

/-- The frame is built and handed to the modem (R20), and counted by the run (R151, R152) and the period (R115). -/
def State.emitFrame (s : State) : State :=
  let s := s.offerKept
  let msg := s.lfr.tx.svc.head?
  let s : State := { s with lfr.tx := s.lfr.tx.carry }
  let b := s.buildBlocks
  let frame : AirFrame := ⟨s.lfr.tx.prof, s.header, serviceBytes msg, b.1⟩
  let s : State := { s with
    tpt := b.2, rfm := s.rfm.logSend s.dsu.time, stu.chk := s.stu.chk.countSent msg
    lfr.tx.svc := s.lfr.tx.svc.tail, lfr.tx.out := some frame, lfr.tx.switching := false
    lfr.tx.periodDue := decide (s.lfr.tx.frameNo.toNat % 64 = 63), lfr.tx.frameNo := s.lfr.tx.frameNo + 1 }
  s.countFrame

/-- The end of an allocation period (R115): A and Q of every tenant are taken, and an allocation is triggered. -/
def State.periodEnd (s : State) : State :=
  if s.lfr.tx.periodDue then
    { s with
      lfr.tx.periodDue := false
      tpt := Four.of (fun i =>
        let t := s.tpt.get i
        { t with snapA := t.accSince, snapQ := t.unsent, accSince := 0 }) }.wantAlloc .periodEnd
  else s

/-- Events of the transmit side that are due are taken before the next frame, each whole (log 6). -/
def State.settleTx (s : State) : State :=
  let s := s.drainRun.finishWork
  s.periodEnd.finishWork

/-- One frame time of the transmit side (R20): the actions and runs its switches bring are done before the scheduling check,
and one computation follows (R119). The frame sent agrees with the transmit framer as all this leaves it (log 41). DESIGN
CHOICE (log 33): CARRIAGE_HOLD is sampled before the fallback condition is tested. DESIGN CHOICE (log 58): at the common
switch frame of a tied map the profile switches, and queues its notice, before the map. -/
def State.build (s : State) (hold : Bool) : State :=
  let s : State := { s with pins.carriageHold := hold, lfr.tx.due := false }
  let s := s.settleTx
  if s.lfr.tx.framer = .off then s
  else
    let was := s.lfr.tx.framer
    let s := (s.sampleHold hold).moveTx
    let s := (State.doActs 48 (s.profileSwitch.mapSwitch)).retestTx
    let s := if was = .normal then s.scheduleCheck else s
    s.finishWork.retestTx.emitFrame

end Sys2Proof.Machine
end

