-- ==== Sys2Proof/Machine/Second.lean ====
section
/-! DEFINITION. The site second crossing as one event at every block (R80), and a frame time of the local oscillator
(R79, R93; log 2). -/

namespace Sys2Proof.Machine

/-! ### The crossing -/

/-- Nanoseconds of site time past the boundary at the moment the crossing is taken. -/
def Dsu.overshoot (d : Dsu) : Int := max 0 (timeDiff d.time d.boundary)

/-- The judgements of G and L, L's first when `lFirst` (R71). -/
def State.judgeBoth (s : State) (lFirst : Bool) : State :=
  let s := if lFirst then s.judgeL.judgeG else s.judgeG.judgeL
  { s with rfm := s.rfm.shiftWindows }

/-- A REF_CROSS run's outcome at this crossing, or the run going on (R154). -/
def Run.crossOutcome (r : Run) : Option (RunOutcome × RunCause) :=
  if r.entry.limit < r.fig.largest then some (.fail, .limit)
  else if r.entry.duration ≤ r.fig.seconds then
    some (if 0 < r.fig.compared then (.pass, .none) else (.aborted, .refAbsent))
  else none

/-- Both judgements reach the active REF_CROSS run (R74, R154). -/
def State.crossSecond (s : State) : State :=
  match s.stu.active with
  | some r =>
    if r.entry.kind = .refCross then
      let r := { r with fig.seconds := r.fig.seconds + 1 }
      if s.rfm.g.mode ≠ .up ∨ s.rfm.l.mode ≠ .up then (s.setActive r).endRun r .aborted .refAbsent
      else
        let eg := s.rfm.lastG.bind (·.e)
        let el := s.rfm.lastL.bind (·.e)
        let r := match eg, el with
          | some a, some b =>
            { r with fig.compared := r.fig.compared + 1, fig.largest := max r.fig.largest (a - b).natAbs }
          | _, _ => r
        match r.crossOutcome with
        | some x => (s.setActive r).endRun r x.1 x.2
        | none => s.setActive r
    else s
  | none => s

/-- The report is taken, or discarded at the boundary of a step (R82, R84). -/
def State.loopSecond (s : State) (stepDue : Bool) : State :=
  if stepDue then { s with dsu := s.dsu.age } else s.takeSecondReport s.rfm.report

/-- A boundary at which site time is stepped or set tells the Reference Monitor (R68; log 7). -/
def Rfm.disturbAt (m : Rfm) (x : SiteTime) : Rfm := { m with disturb := x :: m.disturb, overlap := [] }

/-- A seconds setting takes effect at its boundary (R95). -/
def State.setSeconds (s : State) (n : Option (BitVec 32)) (x : SiteTime) : State :=
  match n with
  | none => s
  | some n =>
    { s with
      dsu.time := ⟨n, 0⟩, dsu.pendSec := none, dsu.nextCross := n + 1, dsu.cause := .setting, dsu.landing := none
      rfm := s.rfm.disturbAt x }.noteTime

/-- Site time was stepped inside the window (R64). -/
def PulseWindow.markStepped (w : PulseWindow) : PulseWindow := { w with stepped := true }

/-- A step is done at its boundary, from where a seconds setting has left it (R84, R85): the next crossing is the first
boundary later than both the boundary and the landing point (R80). DESIGN CHOICE (log 37): the site time of the step's
TIME notice (R96) is the landing point. -/
def State.doStep (s : State) (e : Option Int) (x : SiteTime) : State :=
  match e with
  | none => s
  | some e =>
    let land := timeAdd s.dsu.time (-e)
    { s with
      dsu.time := land, dsu.pendStep := none, dsu.steps := s.dsu.steps + 1, dsu.cause := .step
      dsu.landing := some (land, e), dsu.nextCross := laterSec s.dsu.nextCross (land.sec + 1)
      rfm := { s.rfm.disturbAt x with win := s.rfm.win.map PulseWindow.markStepped } }.noteTime

/-- PPS_OUT at a crossing (R93): suppressed at a step, and in FREE while SQUELCH_FREE is on. -/
def State.ppsSecond (s : State) (stepDue : Bool) : State :=
  if stepDue || (decide (s.dsu.loop = .free) && s.dsu.set.squelch) then s else { s with dsu.pps := some 800 }

/-- The label mismatches of the second just ended (R37). -/
def State.slipSecond (s : State) : State :=
  let s := if s.lfr.rx.secMismatch = 0 then s.clear rowMapSlip else s
  { s with lfr.rx.secMismatch := 0 }

/-- The crossing of a seconds boundary (R80), at every block that uses it. DESIGN CHOICE (log 50): a raise made in the
crossing's own event counts in the second that begins (R164). -/
def State.crossing (s : State) (lFirst : Bool) : State :=
  let x := s.dsu.boundary
  let ahead := s.dsu.overshoot
  let stepDue := s.dsu.pendStep
  let secDue := s.dsu.pendSec
  let serving := decide (s.spc.phase = .service)
  let s := s.closeWindow
  let s : State := { s with
    fmn.lastRaises := s.fmn.secRaises, fmn.secRaises := 0
    dsu.time := x, dsu.nextCross := s.dsu.nextCross + 1 }
  let s := (s.judgeBoth lFirst).crossSecond
  let s := s.loopSecond stepDue.isSome
  let s := (s.setSeconds secDue x).doStep stepDue x
  let s := (s.ppsSecond stepDue.isSome).handQuality
  let s := (s.forTenants State.dropSecond).slipSecond
  let s := s.dueSecond serving
  let s := if s.spc.phase = .align then s.noteAlign else s
  let s := s.startSecondL
  { s with dsu.time := timeAdd s.dsu.time ahead }

/-! ### A frame time of the local oscillator (log 2) -/

/-- Parts of a nanosecond that the residue counts: 1/8000 ps. -/
def partsPerNs : Nat := 8000000

/-- Site time advances by one frame time: 1,000,000,000 + c/1000 ns in 8,000 of them, with no fraction lost (R79). -/
def Dsu.advance (d : Dsu) : Dsu :=
  let total := (d.residue : Int) + 1000000000000 + d.c
  { d with time := timeAdd d.time (total / (partsPerNs : Int)), residue := (total % (partsPerNs : Int)).toNat }

/-- One frame time off a running timer. -/
def tickDown (t : Option Nat) : Option Nat := t.map (· - 1)

/-- The timers of the active run. -/
def Run.tick (r : Run) : Run := { r with grantLeft := tickDown r.grantLeft }

/-- One frame time of local oscillator time passes: site time advances, every running timer falls, and the transmit
side has a frame to build unless it is OFF. -/
def State.tick (s : State) : State :=
  { s with
    dsu := { s.dsu.advance with pps := tickDown s.dsu.pps }
    spc.retry := tickDown s.spc.retry, spc.recover := tickDown s.spc.recover
    tpt := Four.of (fun i => { s.tpt.get i with refit := tickDown (s.tpt.get i).refit })
    stu.queue := match s.stu.queue with
      | [] => []
      | r :: rs => r.tick :: rs
    mp.pulse := tickDown s.mp.pulse
    mp.rxIdle := if s.mp.rx = .hunt then 0 else s.mp.rxIdle + 1
    lfr.tx.due := decide (s.lfr.tx.framer ≠ .off) }

/-- The event of the part's own that is due now, if one is, in the order of log 2. -/
def State.dueCommand (s : State) : Option Instr :=
  let refit (i : Fin 4) := decide ((s.tpt.get i).refit = some 0)
  let run := s.stu.active
  if s.mp.restartDue then some .restart
  else if s.lfr.rx.framer = .down then some .rxFramerDown
  else if s.lfr.rx.upDue.isSome then some .rxFramerUp
  else if s.lau.windowDone then some .marginWindowEnd
  else if s.spc.windowDone && s.il.link.isSome then some .alignWindowEnd
  else if s.stu.chk.windowDone then some .checkerWindowEnd
  else if s.stu.durationDone || s.stu.lateRelease then some .patternDurationEnd
  else if s.lfr.tx.periodDue then some .allocationPeriodEnd
  else if s.spc.recover = some 0 then some .recoverTimerExpiry
  else if s.spc.retry = some 0 then some .retryTimerExpiry
  else if refit 0 then some (.refitTimerExpiry 0)
  else if refit 1 then some (.refitTimerExpiry 1)
  else if refit 2 then some (.refitTimerExpiry 2)
  else if refit 3 then some (.refitTimerExpiry 3)
  else if run.bind (·.grantLeft) = some 0 then some .grantTimerExpiry
  else if run.bind (·.drainLeft) = some 0 then some .drainWaitExpiry
  else if s.mp.pulse = some 0 then some .attnPulseEnd
  else if s.dsu.pps = some 0 then some .ppsPulseEnd
  else if s.mp.rx ≠ .hunt ∧ 80 ≤ s.mp.rxIdle then some .frameTimeout
  else if 0 ≤ timeDiff s.dsu.time s.dsu.boundary then some (.siteSecondCrossing false)
  else if s.lfr.tx.due then some (.txFrameBuild s.pins.carriageHold)
  else none

end Sys2Proof.Machine
end

