-- ==== Sys2Proof/Machine/SiteImage.lean ====
section
/-! DEFINITION. The site image (chapter 11): its checks (R177 to R179), what its sections say, its coming into force
(R2, R180), and its rendering (R185). -/

namespace Sys2Proof.Machine

/-- The row index of IMAGE. -/
def rowImage : Nat := 0

/-! ### The directory (11.1, R177) -/

/-- The buffer as 1024 bytes. -/
def Il.bytes (il : Il) : Bytes := il.buffer.readBytes 0 1024

/-- The directory entries, first to last. -/
def readDir (img : Bytes) (count : Nat) : List DirEntry :=
  (List.range count).map (fun k => ⟨field img (5 + 3 * k) 1, field img (6 + 3 * k) 1, field img (7 + 3 * k) 1⟩)

/-- The byte at which a section starts. -/
def DirEntry.start (d : DirEntry) : Nat := 4 * d.off

/-- The byte after a section. -/
def DirEntry.stop (d : DirEntry) : Nat := d.start + d.len

/-- The bytes of the section of a kind, if the directory names it. -/
def sectionOf (img : Bytes) (dir : List DirEntry) (kind : Nat) : Option Bytes :=
  (dir.find? (fun d => d.kind = kind)).map (fun d => slice img d.start d.len)

/-- The section lengths that a kind allows (11.2). -/
def sizeOk (d : DirEntry) : Bool :=
  match d.kind with
  | 1 => d.len = 8
  | 2 => d.len = 32
  | 3 => d.len = 9
  | 4 => d.len = 29
  | 5 => d.len = 24 || d.len = 48 || d.len = 72 || d.len = 96
  | 6 => d.len % 28 = 0 && decide (1 ≤ d.len / 28) && decide (d.len / 28 ≤ 8)
  | 7 => d.len = 25
  | _ => false

/-! ### The field checks of R178: each a position in its section and whether the field there passes -/

/-- A test of the field that begins at a position. -/
abbrev Check := Nat × Bool

/-- `x` lies in `lo` to `hi`. -/
def within (lo hi x : Nat) : Bool := decide (lo ≤ x) && decide (x ≤ hi)

/-- `x` lies in `lo` to `hi`. -/
def withinInt (lo hi x : Int) : Bool := decide (lo ≤ x) && decide (x ≤ hi)

/-- The LINK section (R178). -/
def checkLink (b : Bytes) : List Check :=
  [(0, within 0 1 (field b 0 1)),
   (3, within 0 1 (field b 3 1) && !(decide (field b 0 1 = 1) && decide (field b 3 1 = 1))),
   (4, within 0 1 (field b 4 1)),
   (5, withinInt (-900) (-200) (fieldInt b 5 2)),
   (7, within 0 2 (field b 7 1))]

/-- The PROFILES section (R43): a relation stands at the later of its fields. -/
def checkProfiles (b : Bytes) : List Check :=
  (List.range 8).flatMap (fun p =>
    let u := field b (4 * p) 2
    let d := field b (4 * p + 2) 2
    [(4 * p, within 0 400 u && (decide (p < 2) || decide (field b (4 * p - 4) 2 < u))),
     (4 * p + 2, within 0 400 d && (decide (p = 0) || (decide (d < u) && decide (field b (4 * p - 2) 2 < d))))])

/-- The THERMAL section (R54). -/
def checkThermal (b : Bytes) : List Check :=
  [(0, decide (100 ≤ field b 0 2)),
   (2, decide (field b 0 2 < field b 2 2) && decide (field b 2 2 ≤ 20000)),
   (4, within 0 1 (field b 4 1)),
   (5, within 0 7 (field b 5 1)),
   (6, within 0 7 (field b 6 1) && decide (field b 6 1 ≤ field b 5 1)),
   (7, within 0 1 (field b 7 1)),
   (8, within 0 1 (field b 8 1))]

/-- The TIMING section (R63, R94); in HUB role the one priority is G_ONLY. -/
def checkTiming (hub : Bool) (b : Bytes) : List Check :=
  [(0, within 0 3 (field b 0 1) && (!hub || decide (field b 0 1 = 2))),
   (1, within 0 1 (field b 1 1)),
   (2, within 0 1000000 (field b 2 4)),
   (6, within 10 100000 (field b 6 4)),
   (10, withinInt (-1000000) 1000000 (fieldInt b 10 4)),
   (14, within 1 1000000 (field b 14 4)),
   (18, within 0 15 (field b 18 1)),
   (19, within 0 20 (field b 19 1)),
   (20, within 0 10000 (field b 20 2)),
   (22, within 0 100000 (field b 22 4)),
   (26, within 0 10000 (field b 26 2)),
   (28, within 0 1 (field b 28 1))]

/-- A label is absent or printable (R178). -/
def labelOk (l : Bytes) : Bool := l.all (fun c => c = 0) || l.all (fun c => within 0x20 0x7E c.toNat)

/-- One tenant entry (R100, R178). `sumBefore`: the F of the FIXED entries before it or beside it. -/
def checkEntry (sumBefore : Nat) (b : Bytes) : List Check :=
  let fixed := decide (field b 1 1 = 0)
  let cp := field b 6 1
  [(0, within 0 3 (field b 0 1)),
   (1, within 0 1 (field b 1 1)),
   (2, if fixed then within 1 54 (field b 2 1) && decide (sumBefore + field b 2 1 ≤ 54) else decide (field b 2 1 = 0)),
   (3, if fixed then decide (field b 3 2 = 0) else within 0 15625 (field b 3 2)),
   (5, if fixed then decide (field b 5 1 = 0) else within 1 255 (field b 5 1)),
   (6, if fixed then decide (cp = 0) else within 0 1 cp),
   (7, if cp = 0 then decide (field b 7 2 = 0) else within (field b 3 2) 15625 (field b 7 2)),
   (9, within 0 2 (field b 9 1)),
   (10, if field b 9 1 = 2 then within 100 1000000 (field b 10 4) else decide (field b 10 4 = 0)),
   (16, labelOk (slice b 16 8))]

/-- The entries of a section, each of `n` bytes. -/
def chunks (n : Nat) (b : Bytes) : List Bytes := (List.range (b.length / n)).map (fun k => slice b (n * k) n)

/-- The F of a FIXED entry, 0 for a SHARED one. -/
def entryF (b : Bytes) : Nat := if field b 1 1 = 0 then field b 2 1 else 0

/-- The TENANTS section (R100, R178): each tenant once, and the F summed as the entries go. DESIGN CHOICE (log 63): a sum
above its bound is reported at the F that takes it there. -/
def checkTenants (b : Bytes) : List Check :=
  let es := chunks 24 b
  es.zipIdx.flatMap (fun e =>
    let before := es.take e.2
    let once := !(before.any (fun x => field x 0 1 = field e.1 0 1))
    (24 * e.2, once) :: (checkEntry (before.map entryF).sum e.1).map (fun c => (24 * e.2 + c.1, c.2)))

/-- One plan entry (R145, R178). -/
def checkTest (hub : Bool) (b : Bytes) : List Check :=
  let kind := field b 0 1
  let pattern := decide (kind = 0)
  let cross := decide (kind = 1)
  [(0, within 0 2 kind && !(hub && cross)),
   (1, within 0 2 (field b 1 1)),
   (2, within 0 1 (field b 2 1)),
   (3, if pattern then within 1 8 (field b 3 1) else decide (field b 3 1 = 0)),
   (4, if field b 1 1 = 1 then within 60 86400 (field b 4 3) else decide (field b 4 3 = 0)),
   (7, if pattern then within 800 80000 (field b 7 3) else if cross then within 10 600 (field b 7 3)
     else decide (field b 7 3 = 0)),
   (10, pattern || decide (field b 10 2 = 0)),
   (12, if pattern then (slice b 12 16).any (fun c => c ≠ 0)
     else if cross then within 1 1000000 (field b 12 4) && (slice b 16 12).all (fun c => c = 0)
     else (slice b 12 16).all (fun c => c = 0))]

/-- The TESTS section. -/
def checkTests (hub : Bool) (b : Bytes) : List Check :=
  (chunks 28 b).zipIdx.flatMap (fun e => (checkTest hub e.1).map (fun c => (28 * e.2 + c.1, c.2)))

/-- A response code that a class may have (R165): BAR for the three tenant classes only. -/
def responseOk (cls code : Nat) : Bool := decide (code ≤ 5) && (decide (code ≠ 3) || decide (9 ≤ cls))

/-- The FAULTS section (R165). -/
def checkFaults (b : Bytes) : List Check :=
  (List.range 24).map (fun k => (k, responseOk (k / 2) (field b k 1))) ++ [(24, within 0 7 (field b 24 1))]

/-- The checks of one section by its kind. -/
def checkSection (hub : Bool) (kind : Nat) (b : Bytes) : List Check :=
  match kind with
  | 1 => checkLink b
  | 2 => checkProfiles b
  | 3 => checkThermal b
  | 4 => checkTiming hub b
  | 5 => checkTenants b
  | 6 => checkTests hub b
  | 7 => checkFaults b
  | _ => []

/-! ### Validation (R179) -/

/-- The first entry that breaks a directory test, by its number. -/
def firstBad (n : Nat) (ok : Nat → Bool) : Option Nat := (List.range n).find? (fun k => !ok k)

/-- Entry `k` passes the test ORDER. -/
def orderOk (dir : List DirEntry) (k : Nat) : Bool :=
  match dir[k]? with
  | none => true
  | some d =>
    within 1 7 d.kind && (decide (k = 0) || (match dir[k - 1]? with
      | some p => decide (p.kind < d.kind) && decide (p.off < d.off)
      | none => true))

/-- Entry `k` passes the test OVERLAP in an image of length `len`. -/
def overlapOk (dir : List DirEntry) (len k : Nat) : Bool :=
  match dir[k]? with
  | none => true
  | some d =>
    decide (28 ≤ d.start) && decide (d.stop ≤ len - 2) && (match dir[k + 1]? with
      | some n => decide (d.stop ≤ n.start)
      | none => true)

/-- The first field that breaks R178 or a rule it names, by its byte. -/
def firstValue (img : Bytes) (dir : List DirEntry) : Option Nat :=
  let hub := decide (field ((sectionOf img dir 1).getD []) 0 1 = 1)
  ((dir.flatMap (fun d =>
    (checkSection hub d.kind (slice img d.start d.len)).map (fun c => (d.start + c.1, c.2)))).find?
      (fun c => !c.2)).map (·.1)

/-- The validation of R179: the reason and position of the first check that fails, or none for a valid image. -/
def validate (img : Bytes) : Option (RejectReason × Nat) :=
  let len := field img 2 2
  let count := field img 4 1
  let dir := readDir img count
  if field img 0 1 ≠ 0x6B then some (.signature, 0)
  else if field img 1 1 ≠ 1 then some (.signature, 1)
  else if len < 38 ∨ 1024 < len then some (.length, 2)
  else if count = 0 ∨ 7 < count then some (.length, 4)
  else if crcBytes (img.take (len - 2)) ≠ slice img (len - 2) 2 then some (.crc, len - 2)
  else match firstBad count (orderOk dir) with
  | some k => some (.order, 5 + 3 * k)
  | none =>
    match firstBad count (overlapOk dir len) with
    | some k => some (.overlap, 5 + 3 * k)
    | none =>
      match firstBad count (fun k => (dir[k]?.map sizeOk).getD true) with
      | some k => some (.size, 5 + 3 * k)
      | none =>
        if dir.any (fun d => d.kind = 1) then (firstValue img dir).map (fun p => (.value, p))
        else some (.noLink, 5)

/-! ### What the sections say -/

/-- The LINK settings. -/
def readLink (b : Bytes) : LinkSet :=
  { hub := field b 0 1 = 1, linkId := word 16 (slice b 1 2), alignOn := field b 3 1 = 1, autoExit := field b 4 1 = 1
    expect := fieldInt b 5 2
    attn := match field b 7 1 with | 0 => .level | 1 => .pulse1 | _ => .pulse100 }

/-- The thermal settings, from a section or the first 8 bytes of one. -/
def readThermal (b : Bytes) : ThermalSet :=
  { low := field b 0 2, high := field b 2 2, falling := field b 4 1 = 1, l1cap := field b 5 1, l2cap := field b 6 1
    hotHigh := field b 7 1 = 1 }

/-- The Reference Monitor's settings. -/
def readRefSet (b : Bytes) : RefSet :=
  { priority := (Priority.ofCode (field b 0 1)).getD .gThenL, gnssLow := field b 1 1 = 1, cable := field b 2 4
    ppsTol := field b 6 4, asym := fieldInt b 10 4, delayMax := field b 14 4 }

/-- The Discipline Unit's settings. -/
def readDsuSet (b : Bytes) : DsuSet :=
  { pShift := field b 18 1, iShift := field b 19 1, uBase := field b 20 2, hRate := field b 22 4, hAge := field b 26 2
    squelch := field b 28 1 = 1 }

/-- The timing class of a code. -/
def TimingClass.ofCode : Nat → TimingClass
  | 0 => .none
  | 1 => .freq
  | _ => .phase

/-- A tenant entry. -/
def readEntry (b : Bytes) : Entry :=
  { cls := if field b 1 1 = 0 then .fixed else .shared, f := field b 2 1, g := field b 3 2, w := field b 5 1
    ceil := if field b 6 1 = 0 then none else some (field b 7 2), timing := .ofCode (field b 9 1)
    budget := field b 10 4, drop := field b 14 2
    label := if (slice b 16 8).all (fun c => c = 0) then none else some (slice b 16 8) }

/-- A plan entry. -/
def readTest (b : Bytes) : PlanEntry :=
  let kind : TestKind := match field b 0 1 with | 0 => .linkPattern | 1 => .refCross | _ => .sensorCheck
  { kind := kind, schedule := match field b 1 1 with | 0 => .bringup | 1 => .periodic | _ => .onRequest
    raises := field b 2 1 = 0, blocks := field b 3 1, period := field b 4 3, duration := field b 7 3
    errors := field b 10 2, mask := if kind = .linkPattern then slice b 12 16 else []
    limit := if kind = .refCross then field b 12 4 else 0 }

/-- The response table. -/
def readTable (b : Bytes) : List ResponsePair :=
  (List.range 12).map (fun k =>
    ⟨(Response.ofCode (field b (2 * k) 1)).getD .none, (Response.ofCode (field b (2 * k + 1) 1)).getD .none⟩)

/-! ### An image comes into force (R2, R180) -/

/-- The ATTN mode of the LINK section comes into force (R197). -/
def Mp.setAttnMode (m : Mp) (a : AttnMode) : Mp :=
  if m.attnMode = a then m
  else
    let m := { m with attnMode := a, pulse := none, attn := false }
    match a.frames with
    | none => { m with attn := !m.notices.isEmpty }
    | some n => if m.notices.isEmpty then m else { m with attn := true, pulse := some n }

/-- The settings of the Reference Monitor come into force (R63); windows and the second of L begin afresh. -/
def State.refForce (s : State) (set : RefSet) : State :=
  let s : State := { s with rfm := { s.rfm with
    set := set, win := none, nextWin := none, prevPulse := none, sec := { start := s.rfm.sec.start }, nextSec := {} } }
  let s := s.setRef .g (s.rfm.g.named (decide (.g ∈ set.priority.order)))
  s.setRef .l (s.rfm.l.named (decide (.l ∈ set.priority.order)))

/-- The entries of the TENANTS section come into force (R99). DESIGN CHOICE (log 8): one after the other, in the order of
the section. -/
def State.tenantsForce (s : State) (b : Bytes) : State :=
  (chunks 24 b).foldl (fun s x =>
    let e := readEntry x
    s.enterEntry (Fin.ofNat 4 (field x 0 1)) e e.drop .image) s

/-- IMAGE is cleared, and the settings of every section, or the defaults of a section left out, are handed to their owners
(R180). DESIGN CHOICE (log 8): of the one event IMAGE is cleared first, as R180 names it first, so the FAULT notice of the
clear shows the response that the table before the image gives; the sections follow in the order of log 8. -/
def State.settingsForce (s : State) (img : Bytes) (dir : List DirEntry) (l : LinkSet) : State :=
  let s := s.clear rowImage
  let s : State := match sectionOf img dir 7 with
    | some b => { s with fmn.table := readTable b, fmn.capSet := field b 24 1 }
    | none => { s with fmn.table := defaultTable, fmn.capSet := 3 }
  let s : State := { s with il.link := some l, mp := s.mp.setAttnMode l.attn }
  let s : State := match sectionOf img dir 2 with
    | some b => { s with
        lau.up := (List.range 8).map (fun p => field b (4 * p) 2)
        lau.down := (List.range 8).map (fun p => field b (4 * p + 2) 2) }
    | none => { s with lau.up := defaultUp, lau.down := defaultDown }
  let plan := match sectionOf img dir 6 with
    | some b => (chunks 28 b).map readTest
    | none => []
  let s : State := { s with
    stu.plan := plan, stu.due := plan.map (fun _ => 0), stu.decisive := plan.map (fun _ => .none) }
  let s := match sectionOf img dir 3 with
    | some b => s.thermalForce (readThermal b) (decide (field b 8 1 = 1))
    | none => s.thermalForce {} false
  let s := match sectionOf img dir 4 with
    | some b => { s with dsu.set := readDsuSet b }.refForce (readRefSet b)
    | none => { s with dsu.set := {} }.refForce { priority := if l.hub then .gOnly else .gThenL }
  match sectionOf img dir 5 with
  | some b => s.tenantsForce b
  | none => s

/-- The phase leaves LOAD (R2, R11, R21, R24): the framers start, and ALIGN or SEEK is entered. -/
def State.leaveLoad (s : State) (l : LinkSet) : State :=
  let s : State := { s with
    lfr.tx.framer := .fallback, lfr.tx.fallback := true, lfr.rx.framer := .hunt
    rfm.winClosed := s.pastClose s.dsu.time.ns }
  let s := if !l.hub && l.alignOn then
      { s.movePhase .align .image .idle 0 with spc.record := {} }
    else s.movePhase .seek .image .idle 0
  s.noteLink

/-- A validation ends (R180): the PHASE and LINK notices before the IMAGE notice, which comes before the raise of IMAGE
(log 58). DESIGN CHOICE (log 69): the held directory is taken from the buffer at acceptance, and stays as it was at a
rejection. -/
def State.endValidation (s : State) (source : ImageSource) : State :=
  let img := s.il.bytes
  match validate img with
  | none =>
    let dir := readDir img s.il.count
    let l := readLink ((sectionOf img dir 1).getD [])
    let s : State := { s with il.state := .accepted, il.source := some source, il.dir := dir }
    ((s.settingsForce img dir l).leaveLoad l).noteImage
  | some (reason, pos) =>
    let t : State := { s with il.state := .rejected, il.source := some source, il.reject := some (reason, pos) }
    (if s.il.state = .rejected then t else t.noteImage).raiseNow rowImage reason.code

/-- The EEPROM read has ended (R181). -/
def State.endRead (s : State) (answered : Bool) (bytes : Bytes) : State :=
  if s.il.state = .reading then
    let got := if answered then bytes else []
    let s : State := { s with il.answered := some answered }
    let len := field got 2 2
    if field got 0 1 ≠ 0x6B then
      { s with il.state := .empty, il.buffer := Memory.ofBytes (got.take 5) }.noteImage
    else
      let n := if 38 ≤ len ∧ len ≤ 1024 then len else 5
      { s with il.buffer := Memory.ofBytes (got.take n) }.endValidation .eeprom
  else s

/-! ### Saving (R185, R186) -/

/-- Sections placed from byte `at4` words on: each section's directory entry and the bytes with their padding. -/
def placeSections : Nat → List (Nat × Bytes) → List DirEntry × Bytes
  | _, [] => ([], [])
  | w, (kind, b) :: rest =>
    let words := (b.length + 3) / 4
    let r := placeSections (w + words) rest
    (⟨kind, b.length, w⟩ :: r.1,
      if rest.isEmpty then b else padTo (4 * words) b ++ r.2)

/-- The sections of the settings in force, in kind order (R185). -/
def State.sections (s : State) (l : LinkSet) : List (Nat × Bytes) :=
  let entries := tenants.filterMap (fun i => (s.tpt.get i).entry.map (Entry.bytes i))
  [(1, l.bytes), (2, s.lau.bytes), (3, s.tlm.bytes), (4, s.rfm.set.bytes ++ s.dsu.set.bytes)]
    ++ (if entries.isEmpty then [] else [(5, entries.flatten)])
    ++ (if s.stu.plan.isEmpty then [] else [(6, (s.stu.plan.map PlanEntry.bytes).flatten)])
    ++ [(7, s.fmn.bytes)]

/-- The rendered image and its directory (R185). -/
def renderImage (sections : List (Nat × Bytes)) : Bytes × List DirEntry :=
  let p := placeSections 7 sections
  let len := 28 + p.2.length + 2
  let head := [0x6B, 1] ++ le 2 len ++ e1 sections.length
    ++ (p.1.map (fun d => e1 d.kind ++ e1 d.len ++ e1 d.off)).flatten
  let body := padTo 28 head ++ p.2
  (body ++ crcBytes body, p.1)

/-- A save starts (R185). -/
def State.startSave (s : State) (l : LinkSet) : State :=
  let r := renderImage (s.sections l)
  { s with il.buffer := Memory.ofBytes r.1, il.dir := r.2, il.saving := true }.noteImage

/-- How a save of the buffer ends (R186): DONE when the whole image has been written and every byte read back compares
equal, FAILED when the write has stopped short or a byte differs; and the bytes of the image that were written. -/
def Il.saveResult (il : Il) (written : Nat) (readBack : Bytes) : SaveOutcome × Nat :=
  let len := il.length
  (if len ≤ written ∧ readBack.take len = il.buffer.readBytes 0 len then .done else .failed, min written len)

/-- A save ends (R186, R187); a restart taken during it is then carried on. -/
def State.endSave (s : State) (written : Nat) (readBack : Bytes) : State :=
  if s.il.saving then
    let s : State := { s with il.saving := false, il.lastSave := some (s.il.saveResult written readBack) }
    let s := s.noteImage
    match s.il.afterSave with
    | none => s
    | some after =>
      let s : State := { s with il.afterSave := none, il.buffer := [] }
      if after = .read ∧ s.spc.phase = .load then { s with il.state := .reading }.noteImage else s
  else s

end Sys2Proof.Machine
end

