-- ==== Sys2Proof/Machine/Requests.lean ====
section
/-! DEFINITION. What the owner of each request does with it (R193, R199): its checks in their order, its effect, the
reply's status and body. -/

namespace Sys2Proof.Machine

/-- An owner's answer: the state it leaves, the status, and the reply's body after the status byte, formed once the
event's work is done. -/
structure Answer where
  state : State
  status : Status
  body : State → Bytes

/-- An OK answer. -/
def okWith (s : State) (body : State → Bytes) : Answer := ⟨s, .ok, body⟩

/-- An OK answer whose reply holds the status alone. -/
def okOnly (s : State) : Answer := ⟨s, .ok, fun _ => []⟩

/-- A refusal that changes no state and holds the status alone (R191). -/
def refuse (s : State) (st : Status) : Answer := ⟨s, st, fun _ => []⟩

/-- A request's answer outside LOAD; in LOAD it is refused with WRONG_PHASE. -/
def State.outsideLoad (s : State) (a : Answer) : Answer := if s.spc.phase = .load then refuse s .wrongPhase else a

/-- The tenant number of a tenant request; above 3 gives BAD_VALUE (R199). -/
def State.withTenant (s : State) (b : Byte) (f : Fin 4 → Answer) : Answer :=
  if h : b.toNat < 4 then f ⟨b.toNat, h⟩ else refuse s .badValue

/-! ### Phase and power -/

/-- ALIGN_END (R13). -/
def State.reqAlignEnd (s : State) : Answer :=
  if s.spc.phase = .align then okOnly (s.leaveAlign .alignEnd) else refuse s .wrongPhase

/-- The peak moved to the current average (R14). -/
def AlignRecord.resetPeak (r : AlignRecord) (now : SiteTime) : AlignRecord :=
  match r.avg with
  | none => r
  | some a => { r with peak := some a, peakTime := some now, settle := 0, settled := false }

/-- ALIGN_PEAK_RESET (R14). -/
def State.reqPeakReset (s : State) : Answer :=
  if s.spc.phase = .align then okOnly { s with spc.record := s.spc.record.resetPeak s.dsu.time }
  else refuse s .wrongPhase

/-- PROVE_FORCE (R18). -/
def State.reqProveForce (s : State) : Answer :=
  if s.spc.phase = .prove then okOnly (s.enterService .proveForce .idle 0) else refuse s .wrongPhase

/-- SITE_RESEEK (R7). -/
def State.reqReseek (s : State) : Answer :=
  if s.spc.phase = .prove ∨ s.spc.phase = .service ∨ s.spc.phase = .recover then okOnly (s.reseek .reseekRequest)
  else refuse s .wrongPhase

/-- SITE_STOP (R8). -/
def State.reqStop (s : State) : Answer :=
  if s.spc.phase = .halt then refuse s .wrongPhase else okOnly (s.enterHalt .stopRequest)

/-- SITE_RESTART (R9, R199): the options are kept until the reply has left the line. -/
def State.reqRestart (s : State) (options : Byte) : Answer :=
  if s.spc.phase ≠ .halt then refuse s .wrongPhase
  else if 3 < options.toNat then refuse s .badValue
  else okOnly { s with mp.restart := some ⟨options.toNat.testBit 0, options.toNat.testBit 1⟩ }

/-! ### The image -/

/-- The image requests of LOAD: WRONG_PHASE outside it, BUSY while reading or saving (R182, R183). -/
def State.inLoad (s : State) (a : Answer) : Answer :=
  if s.spc.phase ≠ .load then refuse s .wrongPhase
  else if s.il.state = .reading ∨ s.il.saving = true then refuse s .busy
  else if s.il.state = .accepted then refuse s .wrongPhase
  else a

/-- IMAGE_WRITE (R182). -/
def State.reqImageWrite (s : State) (off : BitVec 16) (data : Bytes) : Answer :=
  s.inLoad (
    if 1024 < off.toNat + data.length then refuse s .badLength
    else
      let was := s.il.state
      let s : State := { s with il.buffer := s.il.buffer.writeBytes off.toNat data, il.state := .staging }
      okOnly (if was = .staging then s else s.noteImage))

/-- IMAGE_COMMIT (R183). -/
def State.reqCommit (s : State) : Answer :=
  s.inLoad (
    match validate s.il.bytes with
    | none => okOnly (s.endValidation .commit)
    | some (reason, pos) => ⟨s.endValidation .commit, .badValue, fun _ => e1 reason.code ++ e2 pos⟩)

/-- IMAGE_READ (R184). -/
def State.reqImageRead (s : State) (off count : BitVec 16) : Answer :=
  if s.il.state = .reading then refuse s .busy
  else if 1024 < off.toNat + count.toNat then refuse s .badLength
  else if !within 0 1023 off.toNat || !within 1 1000 count.toNat then refuse s .badValue
  else okWith s (fun t => t.imageReadBody off.toNat count.toNat)

/-- IMAGE_SAVE (R185). -/
def State.reqSave (s : State) : Answer :=
  match s.il.link with
  | some l =>
    if s.il.state ≠ .accepted then refuse s .wrongPhase
    else if s.il.saving then refuse s .busy
    else okOnly (s.startSave l)
  | none => refuse s .wrongPhase

/-! ### Link and profile -/

/-- PROFILE_CAP (R49). -/
def State.reqCap (s : State) (v : Byte) : Answer :=
  okWith { s with lau.hostCap := min 7 v.toNat }.recomputeCeiling State.capBody

/-- PROFILE_FIX (R48). -/
def State.reqFix (s : State) (v : Byte) : Answer :=
  s.outsideLoad (
    if v.toNat ≤ 7 then okOnly (s.setFix (some v.toNat))
    else if v.toNat = 255 then okOnly (s.setFix none)
    else refuse s .badValue)

/-- NOTE_SEND (R39). -/
def State.reqNoteSend (s : State) (note : Bytes) : Answer :=
  s.outsideLoad (
    if s.lfr.tx.svcRoom then okOnly { s with lfr.tx.svc := s.lfr.tx.svc ++ [.note note] } else refuse s .noRoom)

/-- NOTE_READ (R41). -/
def State.reqNoteRead (s : State) : Answer :=
  let lost := s.lfr.rx.relayLost
  let note := s.lfr.rx.relay.head?
  let rest := s.lfr.rx.relay.tail
  okWith { s with lfr.rx.relay := rest, lfr.rx.relayLost := 0 } (fun _ => noteReadBody note rest.length lost)

/-! ### Thermal and time -/

/-- The settings of a THERMAL_ENABLE, with flags that are neither 0 nor 1 marked. -/
def thermalSetOf (b : ThermalBody) : ThermalSet :=
  { low := b.low.toNat, high := b.high.toNat, falling := b.polarity = 1, l1cap := b.l1cap.toNat, l2cap := b.l2cap.toNat
    hotHigh := b.hotPolarity = 1 }

/-- The polarity bytes are 0 or 1. -/
def thermalFlagsOk (b : ThermalBody) : Bool := decide (b.polarity.toNat ≤ 1) && decide (b.hotPolarity.toNat ≤ 1)

/-- THERMAL_ENABLE (R60). -/
def State.reqThermal (s : State) (b : Option ThermalBody) : Answer :=
  s.outsideLoad (
    match b with
    | none => if s.tlm.locked then okOnly s else okOnly (s.thermalForce s.tlm.set true)
    | some b =>
      if s.tlm.locked then
        (if thermalFlagsOk b && decide (thermalSetOf b = s.tlm.set) then okOnly s else refuse s .locked)
      else if thermalFlagsOk b && (thermalSetOf b).valid then okOnly (s.thermalForce (thermalSetOf b) true)
      else refuse s .badValue)

/-- A field of TIME_SET is present: its bit of the presence byte, in body order (R199). -/
def timeHas (b : TimeSetBody) (k : Nat) : Bool := b.presence.toNat.testBit k

/-- The Reference Monitor's settings of a TIME_SET are in range (R63, R95); in HUB role the one priority is G_ONLY. -/
def timeSetValid (b : TimeSetBody) (hub : Bool) : Bool :=
  (!timeHas b 1 || (within 0 3 b.priority.toNat && (!hub || decide (b.priority.toNat = 2))))
    && (!timeHas b 2 || within 0 1000000 b.cableDelay.toNat)
    && (!timeHas b 3 || within 10 100000 b.ppsTol.toNat)
    && (!timeHas b 4 || withinInt (-1000000) 1000000 b.asym.toInt)
    && (!timeHas b 5 || within 1 1000000 b.delayMax.toNat)

/-- A new priority (R76): references are disabled or named, waits stop, and the selection is the first UP. DESIGN CHOICE
(log 58): G moves first. -/
def State.setPriority (s : State) (p : Priority) : State :=
  if p = s.rfm.set.priority then s
  else
    let g := decide (.g ∈ p.order)
    let l := decide (.l ∈ p.order)
    let s : State := { s with rfm := { s.rfm with
      set := { s.rfm.set with priority := p }
      win := if g then s.rfm.win else none, nextWin := if g then s.rfm.nextWin else none
      prevPulse := if g then s.rfm.prevPulse else none
      sec := { s.rfm.sec with judged := s.rfm.sec.judged && l } } }
    let s := s.setRef .g (s.rfm.g.named g)
    let s := s.setRef .l (s.rfm.l.named l)
    s.select s.rfm.firstUp

/-- The Reference Monitor's settings of a TIME_SET, but for the priority (R63). -/
def RefSet.changed (r : RefSet) (b : TimeSetBody) : RefSet :=
  { r with
    cable := if timeHas b 2 then b.cableDelay.toNat else r.cable
    ppsTol := if timeHas b 3 then b.ppsTol.toNat else r.ppsTol
    asym := if timeHas b 4 then b.asym.toInt else r.asym
    delayMax := if timeHas b 5 then b.delayMax.toNat else r.delayMax }

/-- The Discipline Unit's shifts of a TIME_SET, clamped (R95). -/
def DsuSet.changed (d : DsuSet) (b : TimeSetBody) : DsuSet :=
  { d with
    pShift := if timeHas b 6 then min 15 b.pShift.toNat else d.pShift
    iShift := if timeHas b 7 then min 20 b.iShift.toNat else d.iShift }

/-- The role in force is HUB (R63). -/
def State.hubInForce (s : State) : Bool := (s.il.link.map (·.hub)).getD false && s.imageInForce

/-- TIME_SET (R95, R199). -/
def State.reqTimeSet (s : State) (b : TimeSetBody) : Answer :=
  s.outsideLoad (
    if timeSetValid b s.hubInForce then
      let s := s.rollWindow s.dsu.time.ns
      let s : State := { s with
        rfm.set := s.rfm.set.changed b, dsu.set := s.dsu.set.changed b
        dsu.pendSec := if timeHas b 0 then some b.seconds else s.dsu.pendSec }
      let s := if timeHas b 1 then s.setPriority ((Priority.ofCode b.priority.toNat).getD s.rfm.set.priority) else s
      okWith s State.timeSetBody
    else refuse s .badValue)

/-! ### Tenants -/

/-- TENANT_GET (R116). -/
def State.reqTenantGet (s : State) (b : Byte) : Answer := s.withTenant b (fun i => okWith s (fun t => t.tenantBody i))

/-- A TENANT_SET taken triggers an allocation and queues a TENANT notice (R101). -/
def State.tenantSetTaken (s : State) (i : Fin 4) : Answer :=
  okWith ((s.tellTenant i .tenantSet).wantAlloc .tenantSet) (fun t => t.tenantSetBody i)

/-- The F of the other tenants' FIXED entries (R100). -/
def State.otherFixed (s : State) (i : Fin 4) : Nat := { s with tpt := s.tpt.set i {} }.fixedSum

/-- An entry offered by TENANT_SET (R100, R101): its checks, then the tenant's state, then its effect. -/
def State.setEntry (s : State) (i : Fin 4) (raw : Bytes) : Answer :=
  let e := readEntry raw
  let t := s.tpt.get i
  if field raw 0 1 ≠ i.val ∨ (checkEntry (s.otherFixed i) raw).any (fun c => !c.2) then refuse s .badValue
  else match t.entry with
  | none => ((s.enterEntry i e 0 .tenantSet).tryActive .tenantSet i).tenantSetTaken i
  | some old =>
    if old.cls ≠ e.cls ∧ t.state ≠ .held ∧ t.state ≠ .barred then refuse s .wrongPhase
    else (s.replaceEntry i e).tenantSetTaken i

/-- The instruction to vacate (R101). -/
def State.vacateTenant (s : State) (i : Fin 4) : Answer :=
  match (s.tpt.get i).state with
  | .vacant => s.tenantSetTaken i
  | .held | .barred => (s.vacate i).tenantSetTaken i
  | .active | .unfit => refuse s .wrongPhase

/-- TENANT_SET (R101, R199). -/
def State.reqTenantSet (s : State) (tenant action : Byte) (entry : Option Bytes) : Answer :=
  s.outsideLoad (
    match action.toNat, entry with
    | 0, some raw => s.withTenant tenant (fun i => s.setEntry i raw)
    | 1, none => s.withTenant tenant (fun i => s.vacateTenant i)
    | 0, none => refuse s .badLength
    | 1, some _ => refuse s .badLength
    | _, _ => refuse s .badValue)

/-- TENANT_BAR (R106). -/
def State.reqBar (s : State) (b : Byte) : Answer :=
  s.outsideLoad (s.withTenant b (fun i =>
    if (s.tpt.get i).state = .vacant then refuse s .badValue else okOnly (s.bar i .barRequest)))

/-- TENANT_UNBAR (R106). -/
def State.reqUnbar (s : State) (b : Byte) : Answer :=
  s.outsideLoad (s.withTenant b (fun i => okOnly (s.unbar i)))

/-! ### Self-test -/

/-- TEST_RUN (R160). -/
def State.reqTestRun (s : State) (b : Byte) : Answer :=
  if s.spc.phase = .prove ∨ s.spc.phase = .service then
    if (s.stu.plan[b.toNat]?).isSome then
      let coalesced := (s.stu.runOf b.toNat).isSome
      let s := s.requestRun b.toNat false
      let id := ((s.stu.runOf b.toNat).map (·.id)).getD 0
      okWith s (fun _ => e1 id ++ eFlag coalesced)
    else refuse s .badValue
  else refuse s .wrongPhase

/-- A queued run is removed; with the round flag, its round fails there (R159, R160). -/
def State.removeQueued (s : State) (r : Run) : State :=
  let s := s.removeRuns (fun x => x.idx = r.idx)
  if r.round then
    let s := s.removeRuns (·.round)
    let s : State := match s.stu.active with
      | some a => s.setActive { a with round := false }
      | none => s
    s.noteTest.roundFailed r.idx
  else s

/-- TEST_ABORT (R160): 0 the active run ended, 1 a queued run removed, 2 the entry had no run. -/
def State.reqTestAbort (s : State) (b : Byte) : Answer :=
  s.outsideLoad (
    if 7 < b.toNat then refuse s .badValue
    else match s.stu.runOf b.toNat with
    | none => okWith s (fun _ => e1 2)
    | some r =>
      if r.state = .queued then okWith (s.removeQueued r) (fun _ => e1 1)
      else okWith (s.abortRun r .host) (fun _ => e1 0))

/-! ### Faults -/

/-- FAULT_ACK (R172). DESIGN CHOICE (log 61): the refusal of an index above 20 gives no row. -/
def State.reqAck (s : State) (b : Byte) : Answer :=
  if 20 < b.toNat then refuse s .badValue
  else
    let named := (s.fmn.out.map (·.row))
    if named = some b.toNat then
      okOnly ({ s with fmn := { s.fmn with out := none, capOn := false } }.recomputeCeiling.noteFault b.toNat)
    else ⟨s, .badValue, fun _ => eOpt 1 (named.map e1)⟩

/-- The markers of the rows named are cleared (R173). -/
def Fmn.clearMarkers (f : Fmn) (rows : Nat) : Fmn :=
  { f with rows := f.rows.mapIdx (fun r w => if rows.testBit r then { w with latched := false, masked := false } else w) }

/-- FAULT_CLEAR (R173, R199): either reply gives the rows as they stand. -/
def State.reqClear (s : State) (rows : BitVec 24) : Answer :=
  if rows.toNat = 0 ∨ 2 ^ 21 ≤ rows.toNat then ⟨s, .badValue, State.faultRowsBytes⟩
  else okWith { s with fmn := s.fmn.clearMarkers rows.toNat } State.faultRowsBytes

/-- A response byte of FAULT_SET: 0xFF leaves the item (R199). -/
def newResponse (old : Response) (b : Byte) : Response :=
  if b = 0xFF then old else (Response.ofCode b.toNat).getD old

/-- The response table with the fields given (R174). -/
def setTable (t : List ResponsePair) (b : Bytes) : List ResponsePair :=
  t.mapIdx (fun k p =>
    ⟨newResponse p.bringup (b.getD (2 * k) 0xFF), newResponse p.service (b.getD (2 * k + 1) 0xFF)⟩)

/-- The items of a FAULT_SET are in range (R174, R199). -/
def faultSetOk (b : Bytes) (cap : Byte) : Bool :=
  b.zipIdx.all (fun x => decide (x.1 = 0xFF) || responseOk (x.2 / 2) x.1.toNat)
    && (decide (cap = 0xFF) || decide (cap.toNat ≤ 7))

/-- FAULT_SET (R174, R199). -/
def State.reqFaultSet (s : State) (b : Bytes) (cap : Byte) : Answer :=
  s.outsideLoad (
    if faultSetOk b cap then
      okWith { s with
        fmn.table := setTable s.fmn.table b
        fmn.capSet := if cap = 0xFF then s.fmn.capSet else cap.toNat }.recomputeCeiling (fun t => t.fmn.bytes)
    else refuse s .badValue)

/-! ### All requests -/

/-- The port's first checks and the owner's act on a request (R191, R193). -/
def State.serve (s : State) (r : ReqBody) : Answer :=
  match r with
  | .ident => okWith s State.identBody
  | .phaseGet => okWith s State.phaseBody
  | .alignEnd => s.reqAlignEnd
  | .alignPeakReset => s.reqPeakReset
  | .proveForce => s.reqProveForce
  | .siteReseek => s.reqReseek
  | .siteStop => s.reqStop
  | .siteRestart o => s.reqRestart o
  | .imageWrite off data => s.reqImageWrite off data
  | .imageCommit => s.reqCommit
  | .imageRead off n => s.reqImageRead off n
  | .imageSave => s.reqSave
  | .linkGet => okWith s State.linkBody
  | .profileCap v => s.reqCap v
  | .profileFix v => s.reqFix v
  | .noteSend b => s.reqNoteSend b
  | .noteRead => s.reqNoteRead
  | .thermalGet => okWith s State.thermalBody
  | .thermalEnable b => s.reqThermal b
  | .refGet => okWith s State.refBody
  | .timeGet => okWith s State.timeBody
  | .timeSet b => s.reqTimeSet b
  | .tenantGet i => s.reqTenantGet i
  | .tenantSet i a e => s.reqTenantSet i a e
  | .tenantBar i => s.reqBar i
  | .tenantUnbar i => s.reqUnbar i
  | .mapGet => okWith s State.mapBody
  | .testRun i => s.reqTestRun i
  | .testAbort i => s.reqTestAbort i
  | .testLog => okWith s State.testLogBody
  | .faultGet => okWith s State.faultBody
  | .faultAck r => s.reqAck r
  | .faultClear rows => s.reqClear rows
  | .faultSet b cap => s.reqFaultSet b cap
  | .unknownKind => refuse s .unknownKind
  | .badLength => refuse s .badLength

end Sys2Proof.Machine
end

