-- ==== Sys2Proof/Machine/Port.lean ====
section
/-! DEFINITION. The Message Port (chapter 12): frames on the line (R189), requests from their bytes and back (12.6), the
inbound queue and the refusal store (R192), the reply slot (R193), and the outbound line (R194 to R197). -/

namespace Sys2Proof.Machine

/-! ### A request's body by its kind (12.6, R191) -/

/-- A body of exactly `n` bytes read by `f`, or the wrong length. -/
def ofLength (n : Nat) (b : Bytes) (f : Bytes → ReqBody) : ReqBody := if b.length = n then f b else .badLength

/-- The settings of a THERMAL_ENABLE body of 8 bytes. -/
def readThermalBody (b : Bytes) : ThermalBody :=
  ⟨word 16 (slice b 0 2), word 16 (slice b 2 2), b.getD 4 0, b.getD 5 0, b.getD 6 0, b.getD 7 0⟩

/-- The fields of a TIME_SET body of 24 bytes. -/
def readTimeSet (b : Bytes) : TimeSetBody :=
  ⟨b.getD 0 0, word 32 (slice b 1 4), b.getD 5 0, word 32 (slice b 6 4), word 32 (slice b 10 4), word 32 (slice b 14 4),
    word 32 (slice b 18 4), b.getD 22 0, b.getD 23 0⟩

/-- The length and fields of an IMAGE_WRITE body: 3 to 1,002 bytes. -/
def writeRequest (off : BitVec 16) (data : Bytes) : ReqBody :=
  if 1 ≤ data.length ∧ data.length ≤ 1000 then .imageWrite off data else .badLength

/-- The length of a NOTE_SEND body: 1 to 32 bytes. -/
def noteRequest (note : Bytes) : ReqBody := if 1 ≤ note.length ∧ note.length ≤ 32 then .noteSend note else .badLength

/-- The length of a TENANT_SET body: 2 bytes, or 26 with an entry. -/
def tenantRequest (tenant action : Byte) (entry : Option Bytes) : ReqBody :=
  match entry with
  | none => .tenantSet tenant action none
  | some e => if e.length = 24 then .tenantSet tenant action (some e) else .badLength

/-- The length of a FAULT_SET body: 24 responses and the cap. -/
def faultRequest (responses : Bytes) (cap : Byte) : ReqBody :=
  if responses.length = 24 then .faultSet responses cap else .badLength

/-- The body of a received frame read by its kind, or what the port's first checks find wrong with it (R191, 12.6). -/
def parseBody (kind : Nat) (b : Bytes) : ReqBody :=
  match kind with
  | 0x01 => ofLength 0 b fun _ => .ident
  | 0x02 => ofLength 0 b fun _ => .phaseGet
  | 0x03 => ofLength 0 b fun _ => .alignEnd
  | 0x04 => ofLength 0 b fun _ => .alignPeakReset
  | 0x05 => ofLength 0 b fun _ => .proveForce
  | 0x06 => ofLength 0 b fun _ => .siteReseek
  | 0x07 => ofLength 0 b fun _ => .siteStop
  | 0x08 => ofLength 1 b fun b => .siteRestart (b.getD 0 0)
  | 0x10 => if b.length < 3 then .badLength else writeRequest (word 16 (b.take 2)) (b.drop 2)
  | 0x11 => ofLength 0 b fun _ => .imageCommit
  | 0x12 => ofLength 4 b fun b => .imageRead (word 16 (b.take 2)) (word 16 (b.drop 2))
  | 0x13 => ofLength 0 b fun _ => .imageSave
  | 0x18 => ofLength 0 b fun _ => .linkGet
  | 0x19 => ofLength 1 b fun b => .profileCap (b.getD 0 0)
  | 0x1A => ofLength 1 b fun b => .profileFix (b.getD 0 0)
  | 0x1B => noteRequest b
  | 0x1C => ofLength 0 b fun _ => .noteRead
  | 0x20 => ofLength 0 b fun _ => .thermalGet
  | 0x21 => if b.length = 0 then .thermalEnable none else ofLength 8 b fun b => .thermalEnable (some (readThermalBody b))
  | 0x24 => ofLength 0 b fun _ => .refGet
  | 0x25 => ofLength 0 b fun _ => .timeGet
  | 0x26 => ofLength 24 b fun b => .timeSet (readTimeSet b)
  | 0x28 => ofLength 1 b fun b => .tenantGet (b.getD 0 0)
  | 0x29 =>
    if b.length < 2 then .badLength
    else tenantRequest (b.getD 0 0) (b.getD 1 0) (if b.length = 2 then none else some (b.drop 2))
  | 0x2A => ofLength 1 b fun b => .tenantBar (b.getD 0 0)
  | 0x2B => ofLength 1 b fun b => .tenantUnbar (b.getD 0 0)
  | 0x2C => ofLength 0 b fun _ => .mapGet
  | 0x30 => ofLength 1 b fun b => .testRun (b.getD 0 0)
  | 0x31 => ofLength 1 b fun b => .testAbort (b.getD 0 0)
  | 0x32 => ofLength 0 b fun _ => .testLog
  | 0x38 => ofLength 0 b fun _ => .faultGet
  | 0x39 => ofLength 1 b fun b => .faultAck (b.getD 0 0)
  | 0x3A => ofLength 3 b fun b => .faultClear (word 24 b)
  | 0x3B => ofLength 25 b fun b => .faultSet (b.take 24) (b.getD 24 0)
  | _ => .unknownKind

/-- The kind and body bytes of a request of 12.6; of the two that stand for a failed first check there are none. -/
def requestWire (r : ReqBody) : Option (Byte × Bytes) :=
  match r with
  | .ident => some (0x01, [])
  | .phaseGet => some (0x02, [])
  | .alignEnd => some (0x03, [])
  | .alignPeakReset => some (0x04, [])
  | .proveForce => some (0x05, [])
  | .siteReseek => some (0x06, [])
  | .siteStop => some (0x07, [])
  | .siteRestart o => some (0x08, [o])
  | .imageWrite off data => some (0x10, le 2 off.toNat ++ data)
  | .imageCommit => some (0x11, [])
  | .imageRead off n => some (0x12, le 2 off.toNat ++ le 2 n.toNat)
  | .imageSave => some (0x13, [])
  | .linkGet => some (0x18, [])
  | .profileCap v => some (0x19, [v])
  | .profileFix v => some (0x1A, [v])
  | .noteSend b => some (0x1B, b)
  | .noteRead => some (0x1C, [])
  | .thermalGet => some (0x20, [])
  | .thermalEnable none => some (0x21, [])
  | .thermalEnable (some b) =>
    some (0x21, le 2 b.low.toNat ++ le 2 b.high.toNat ++ [b.polarity, b.l1cap, b.l2cap, b.hotPolarity])
  | .refGet => some (0x24, [])
  | .timeGet => some (0x25, [])
  | .timeSet b =>
    some (0x26, [b.presence] ++ le 4 b.seconds.toNat ++ [b.priority] ++ le 4 b.cableDelay.toNat ++ le 4 b.ppsTol.toNat
      ++ le 4 b.asym.toNat ++ le 4 b.delayMax.toNat ++ [b.pShift, b.iShift])
  | .tenantGet i => some (0x28, [i])
  | .tenantSet i a e => some (0x29, [i, a] ++ e.getD [])
  | .tenantBar i => some (0x2A, [i])
  | .tenantUnbar i => some (0x2B, [i])
  | .mapGet => some (0x2C, [])
  | .testRun i => some (0x30, [i])
  | .testAbort i => some (0x31, [i])
  | .testLog => some (0x32, [])
  | .faultGet => some (0x38, [])
  | .faultAck r => some (0x39, [r])
  | .faultClear rows => some (0x3A, le 3 rows.toNat)
  | .faultSet b cap => some (0x3B, b ++ [cap])
  | .unknownKind | .badLength => none

/-! ### The outbound line (R190, R194 to R197) -/

/-- The bytes of a frame between its start byte and its CRC (12.1). -/
def frameInner (kind tag : Byte) (body : Bytes) : Bytes := le 2 (2 + body.length) ++ [kind, tag] ++ body

/-- A frame as it stands on the line (12.1). -/
def frameBytes (kind tag : Byte) (body : Bytes) : Bytes :=
  let b := frameInner kind tag body
  0xC5 :: b ++ crcBytes b

/-- A frame that begins on the line (R190). -/
def lineFrame (kind tag : Byte) (body : Bytes) (restart : Bool) : LineFrame := ⟨frameBytes kind tag body, restart⟩

/-- The frame of the reply in the slot. -/
def Reply.frame (r : Reply) : LineFrame := lineFrame r.kind r.tag r.body r.restart

/-- The frame of a BUSY refusal for the kind and tag of a request (R192). -/
def busyFrame (x : Byte × Byte) : LineFrame := lineFrame (x.1 + 0x80) x.2 (e1 Status.busy.code) false

/-- The frame of a notice sent with a sequence number as its tag (R195). -/
def Notice.frame (n : Notice) (seq : Byte) : LineFrame :=
  lineFrame (BitVec.ofNat 8 n.kind.code) seq (e1 n.subject ++ n.content) false

/-- The next reply that is ready to send, with the port it leaves: a BUSY refusal of the store or the reply in the slot,
whichever became ready first (R194). -/
def Mp.takeReply (m : Mp) : Option (LineFrame × Mp) :=
  match m.slot, m.store with
  | some r, [] => some (r.frame, { m with slot := none, slotBehind := 0 })
  | some r, x :: xs =>
    if m.slotBehind = 0 then some (r.frame, { m with slot := none })
    else some (busyFrame x, { m with store := xs, slotBehind := m.slotBehind - 1 })
  | none, x :: xs => some (busyFrame x, { m with store := xs })
  | none, [] => none

/-- The oldest waiting notice, with the port it leaves: its tag is the sequence number, and in LEVEL mode ATTN falls with
the last notice (R195 to R197). -/
def Mp.takeNotice (m : Mp) : Option (LineFrame × Mp) :=
  match m.notices with
  | [] => none
  | n :: ns =>
    some (n.frame m.seq,
      { m with
        notices := ns, seq := m.seq + 1, counts.notices := m.counts.notices + 1
        attn := if m.attnMode = .level ∧ ns = [] then false else m.attn })

/-- The arbiter's choice: replies before notices (R194). -/
def Mp.nextFrame (m : Mp) : Option (LineFrame × Mp) := m.takeReply.or m.takeNotice

/-- While the line is free, the next frame's transmission begins; none begins once a restart is due (R9, R190). -/
def Mp.startLine (m : Mp) : Mp :=
  if m.line.isSome || m.restartDue then m
  else match m.nextFrame with
  | some x => { x.2 with line := some x.1 }
  | none => m

/-! ### Handing requests over (R192, R193) -/

/-- The counts of an answer: one request answered, and one refused by its status when it was (R200). -/
def PortCounts.answer (c : PortCounts) (st : Status) : PortCounts :=
  { c with
    answered := c.answered + 1
    refused := if st = .ok then c.refused else c.refused.modify (st.code - 1) (· + 1) }

/-- The request is a SITE_RESTART. -/
def ReqBody.isRestart : ReqBody → Bool
  | .siteRestart _ => true
  | _ => false

/-- An owner's answer to a request is placed in the reply slot, once the event's work is done (R193). DESIGN CHOICE (log 64):
its body is formed before the request is counted as answered. -/
def State.reply (s : State) (r : Request) (a : Answer) : State :=
  let body := e1 a.status.code ++ a.body s
  { s with mp := { s.mp with
    slot := some ⟨r.kind + 0x80, r.tag, body, r.body.isRestart && decide (a.status = .ok)⟩
    slotBehind := s.mp.store.length
    counts := s.mp.counts.answer a.status } }

/-- The owner of a request acts on it, in one event (R193). -/
def State.act1 (s : State) (r : Request) : State :=
  let a := s.serve r.body
  a.state.finishWork.reply r a

/-- The request at the head of the inbound queue is handed over while the slot is empty and no restart has been asked
for (R193). -/
def State.serveNext (s : State) : State :=
  match s.mp.slot, s.mp.restart, s.mp.inbound with
  | none, none, r :: rest => { s with mp.inbound := rest }.act1 r
  | _, _, _ => s

/-- The line and the slot settle: a request handed over, the next frame begun, and the request that the emptied slot
lets through (R193, R194). -/
def State.settlePort (s : State) : State :=
  let s := s.serveNext
  let s : State := { s with mp := s.mp.startLine }
  s.serveNext

/-- The end of an event at every block: the work it left is done, and then the port's own (R194; log 5). -/
def State.close (s : State) : State := s.finishWork.settlePort

/-! ### Receiving (R189, R191, R192) -/

/-- A request has been received (R192): queued, refused BUSY at the port, or discarded as an overrun. -/
def Mp.arrive (m : Mp) (r : Request) : Mp :=
  let m := { m with counts.received := m.counts.received + 1 }
  if m.inbound.length < 4 then { m with inbound := m.inbound ++ [r] }
  else if m.store.length < 8 then
    { m with store := m.store ++ [(r.kind, r.tag)], counts.busy := m.counts.busy + 1 }
  else { m with counts.overrun := m.counts.overrun + 1 }

/-- A request received on UART_RX, as one event. -/
def State.submit (s : State) (r : Request) : State := { s with mp := s.mp.arrive r }.close

/-- A received frame: a reply kind is counted and dropped, every other is a request (R191). -/
def State.receive (s : State) (kind tag : Byte) (body : Bytes) : State :=
  if 0x80 ≤ kind.toNat then
    { s with
      mp.counts.received := s.mp.counts.received + 1
      mp.counts.replyKind := s.mp.counts.replyKind + 1 }.close
  else s.submit ⟨kind, tag, parseBody kind.toNat body⟩

/-- A byte taken in HUNT. -/
def Mp.huntByte (m : Mp) (b : Byte) : Mp :=
  if b = 0xC5 then { m with rx := .length [] } else { m with rx := .hunt, counts.hunt := m.counts.hunt + 1 }

/-- The two length bytes have come: the body follows, or the frame is discarded and the hunt resumes at the first of
them (R189). -/
def Mp.lengthBytes (m : Mp) (b0 b1 : Byte) : Mp :=
  let n := readLe [b0, b1]
  if n < 2 ∨ 1022 < n then
    let m := { m with counts.length := m.counts.length + 1 }.huntByte b0
    if m.rx = .length [] then { m with rx := .length [b1] } else m.huntByte b1
  else { m with rx := .body [b0, b1] n }

/-- A byte arrives on UART_RX (R189): the port after it, and a whole frame that passed its CRC. -/
def Mp.takeByte (m : Mp) (b : Byte) : Mp × Option Bytes :=
  let m := { m with rxIdle := 0 }
  match m.rx with
  | .hunt => (m.huntByte b, none)
  | .length [] => ({ m with rx := .length [b] }, none)
  | .length (b0 :: _) => (m.lengthBytes b0 b, none)
  | .body got left =>
    if left ≤ 1 then ({ m with rx := .check (got ++ [b]) [] }, none)
    else ({ m with rx := .body (got ++ [b]) (left - 1) }, none)
  | .check got [] => ({ m with rx := .check got [b] }, none)
  | .check got (c0 :: _) =>
    if crcBytes got = [c0, b] then ({ m with rx := .hunt }, some got)
    else ({ m with rx := .hunt, counts.crc := m.counts.crc + 1 }, none)

/-- A byte, with the frame it may complete. -/
def State.takeByte (s : State) (b : Byte) : State :=
  let r := s.mp.takeByte b
  let s : State := { s with mp := r.1 }
  match r.2 with
  | some got => s.receive (got.getD 2 0) (got.getD 3 0) (got.drop 4)
  | none => s

/-- The frame in progress is discarded (R189). -/
def Mp.dropFrame (m : Mp) : Mp := { m with rx := .hunt, rxIdle := 0 }

end Sys2Proof.Machine
end

