-- ==== Sys2Proof/WellFormed.lean ====
section
/-! DEFINITION. The commands that can exist on the wire. Most operands are so by their types; these are the others. -/

namespace Sys2Proof

/-- A nanoseconds-of-second lies in 0 to 999,999,999 (00_scope, Site time). -/
def SiteTime.wellFormed (t : SiteTime) : Bool := decide (t.ns < 1000000000)

/-- A block label is 4 bytes and a data part is never longer than P7's 256 (chapter 2.1). -/
def RxBlock.wellFormed (b : RxBlock) : Bool := decide (b.label.length = 4) && decide (b.data.length ≤ 256)

/-- A handed-over frame has a 48-byte header, a 48-byte service block and 62 carriage blocks (chapter 2.1), and its
arrival is a stamp of site time. -/
def RxFrame.wellFormed (f : RxFrame) : Bool :=
  decide (f.header.length = 48) && decide (f.service.length = 48) && decide (f.blocks.length = 62)
    && f.blocks.all RxBlock.wellFormed && f.arrival.wellFormed

/-- A command that can exist: only a received frame and a pulse stamp have shapes their types do not give. -/
def Instr.wellFormed (i : Instr) : Bool :=
  match i with
  | .rxFrameReceived f => f.wellFormed
  | .gnssPpsPulse ns _ => decide (ns < 1000000000)
  | _ => true

end Sys2Proof
end

