-- ==== Sys2Proof/Machine/FrameCommands.lean ====
section
/-! DEFINITION. Frame time and the modem: TX_FRAME_BUILD and the switches, the allocation period, a received slot, and the
events a slot gives rise to (log 6). -/

namespace Sys2Proof.Machine

/-- TX_FRAME_BUILD (R20). -/
def execTxFrameBuild (hold : Bool) (s : State) : Host.Outcome State Fault Refusal := .next (s.build hold).close

/-- PROFILE_SWITCH_FRAME (R27). -/
def execProfileSwitchFrame (s : State) : Host.Outcome State Fault Refusal := .next s.profileSwitch.close

/-- MAP_SWITCH_FRAME (R134). -/
def execMapSwitchFrame (s : State) : Host.Outcome State Fault Refusal := .next s.mapSwitch.close

/-- PATTERN_DURATION_END (R151). -/
def execPatternDurationEnd (s : State) : Host.Outcome State Fault Refusal := .next s.drainRun.close

/-- ALLOCATION_PERIOD_END (R115). -/
def execAllocationPeriodEnd (s : State) : Host.Outcome State Fault Refusal := .next s.periodEnd.close

/-- RX_FRAME_RECEIVED (R23): nothing is used while the receive framer is OFF (R1, R24). -/
def execRxFrameReceived (f : RxFrame) (s : State) : Host.Outcome State Fault Refusal :=
  if !f.wellFormed then .fault .malformedFrame
  else if s.lfr.rx.framer = .off then .next s.close
  else .next (s.slot (s.classify f) (some f)).close

/-- RX_HEADER_MISSING (R23). -/
def execRxHeaderMissing (s : State) : Host.Outcome State Fault Refusal :=
  if s.lfr.rx.framer = .off then .next s.close else .next (s.slot .missing none).close

/-- RX_FRAMER_UP (R24). -/
def execRxFramerUp (s : State) : Host.Outcome State Fault Refusal := .next s.deliverUp.close

/-- RX_FRAMER_DOWN (R25). -/
def execRxFramerDown (s : State) : Host.Outcome State Fault Refusal := .next s.deliverDown.close

/-- MARGIN_WINDOW_END (R45). -/
def execMarginWindowEnd (s : State) : Host.Outcome State Fault Refusal := .next s.marginWindow.close

/-- ALIGN_WINDOW_END (R12). -/
def execAlignWindowEnd (s : State) : Host.Outcome State Fault Refusal := .next s.alignWindow.close

/-- CHECKER_WINDOW_END (R158). -/
def execCheckerWindowEnd (s : State) : Host.Outcome State Fault Refusal := .next s.checkerWindow.close

end Sys2Proof.Machine
end

