-- ==== Sys2Proof/Machine/Restart.lean ====
section
/-! DEFINITION. Reset and restart at every block: R1, R9, R21, R52, R58, R62, R78, R97, R98, R117, R131, R163, R176, R187,
R190, R201. -/

namespace Sys2Proof.Machine

/-- The tenants as after reset, their port links as they stand (R117). -/
def freshTenants (tpt : Four Tenant) : Four Tenant := Four.of (fun i => { link := (tpt.get i).link })

/-- HOT_N asserted under the default polarity acts at once (R58, R62). -/
def State.sampleHot (s : State) : State := s.hotTaken false

/-- The part as reset leaves it (R1), the straps read (R190) and the input lines as they stand. -/
def State.resetTo (s : State) (baudSel1 baudSel0 : Bool) : State :=
  ({ pending := s.pending
     pins := { s.pins with baudSel1 := baudSel1, baudSel0 := baudSel0 }
     tpt := freshTenants s.tpt
     mp := { baud := (baudSel1, baudSel0) } } : State).sampleHot

/-- The Discipline Unit after a restart with KEEP_TIME (R98): the settings are the defaults when HOLDOVER is entered. -/
def Dsu.restarted (d : Dsu) : Dsu :=
  let d := { d with
    set := {}, pendStep := none, pendSec := none, acq := 0, trk := 0, p := 0, report := none, pps := none }
  let st : LoopState := match d.loop with
    | .track | .acquire => d.lostState
    | .holdover => .holdover
    | .free => .free
  if st = d.loop then (if st = .free then d.moveTo .free else d)
  else { d.moveTo st with left := d.loop, cause := .restart, landing := none }

/-- The Image Loader after a restart (R181, R186, R187). DESIGN CHOICE (log 70): a restart during a save drops the outcome of
the save before it. -/
def Il.restarted (il : Il) (noImage : Bool) : Il :=
  if il.saving then
    { buffer := il.buffer, state := .empty, saving := true, afterSave := some (if noImage then .stayEmpty else .read) }
  else { state := if noImage then .empty else .reading }

/-- The restart is taken (R9): every block takes its restart values. With KEEP_TIME a change of loop state queues the
TIME notice, after the notice queue has been emptied (R98). DESIGN CHOICE (log 58): with HOT_N asserted the TIME notice comes
before the THERMAL, PROFILE and FAULT notices of HOT_N (R62). -/
def State.restartTo (s : State) (o : RestartOpts) : State :=
  let t : State :=
    { pending := s.pending
      pins := s.pins
      rfm := if o.keepTime then 
          { disturb := s.rfm.disturb, overlap := s.rfm.overlap, sec := { start := s.rfm.sec.start } }
        else {}
      dsu := if o.keepTime then s.dsu.restarted else {}
      tpt := freshTenants s.tpt
      il := s.il.restarted o.noImage
      mp := { baud := s.mp.baud } }
  let t := if o.keepTime && decide (t.dsu.loop ≠ s.dsu.loop) then t.noteTime else t
  t.sampleHot

/-- The restart that is due (R9); none is when no SITE_RESTART reply has left the line. -/
def State.restartDue (s : State) : State :=
  match s.mp.restart with
  | some o => if s.mp.restartDue then s.restartTo o else s
  | none => s

end Sys2Proof.Machine
end

