-- ==== Sys2Proof/Machine/LineCommands.lean ====
section
/-! DEFINITION. Power, the UART line, ATTN and the EEPROM: RESET, RESTART, FRAME_RECEIVED, FRAME_TIMEOUT, BYTE_ERROR,
LINE_FRAME_SENT, ATTN_PULSE_END, EEPROM_READ_DONE, SAVE_DONE. -/

namespace Sys2Proof.Machine

/-- RESET (R1). -/
def execReset (baudSel1 baudSel0 : Bool) (s : State) : Host.Outcome State Fault Refusal :=
  .next (s.resetTo baudSel1 baudSel0).close

/-- RESTART (R9). -/
def execRestart (s : State) : Host.Outcome State Fault Refusal := .next s.restartDue.close

/-- FRAME_RECEIVED (R189): bytes arrive on UART_RX, each frame they complete being one event. -/
def execFrameReceived (bytes : Bytes) (s : State) : Host.Outcome State Fault Refusal :=
  .next (bytes.foldl State.takeByte s)

/-- A frame in progress is discarded after 10 ms without a byte (R189). -/
def Mp.timeout (m : Mp) : Mp :=
  if m.rx = .hunt then m else { m with counts.timeout := m.counts.timeout + 1 }.dropFrame

/-- FRAME_TIMEOUT (R189). -/
def execFrameTimeout (s : State) : Host.Outcome State Fault Refusal := .next { s with mp := s.mp.timeout }.close

/-- A byte with a bad stop bit arrives while a frame is in progress (R189). -/
def Mp.badStop (m : Mp) : Mp :=
  if m.rx = .hunt then m else { m with counts.byteError := m.counts.byteError + 1 }.dropFrame

/-- BYTE_ERROR (R189). -/
def execByteError (s : State) : Host.Outcome State Fault Refusal := .next { s with mp := s.mp.badStop }.close

/-- The last byte of the frame on the line has left (R9, R194). -/
def Mp.lineSent (m : Mp) : Mp :=
  match m.line with
  | none => m
  | some f => { m with line := none, restartDue := m.restartDue || f.restart }

/-- LINE_FRAME_SENT (R194): the arbiter chooses the next frame, or the restart falls due. -/
def execLineFrameSent (s : State) : Host.Outcome State Fault Refusal := .next { s with mp := s.mp.lineSent }.close

/-- A pulse of ATTN has run out (R197). -/
def Mp.pulseEnd (m : Mp) : Mp := if m.pulse.isSome then { m with pulse := none, attn := false } else m

/-- ATTN_PULSE_END (R197). -/
def execAttnPulseEnd (s : State) : Host.Outcome State Fault Refusal := .next { s with mp := s.mp.pulseEnd }.close

/-- EEPROM_READ_DONE (R181). -/
def execEepromReadDone (answered : Bool) (bytes : Bytes) (s : State) : Host.Outcome State Fault Refusal :=
  .next (s.endRead answered bytes).close

/-- SAVE_DONE (R186). -/
def execSaveDone (written : Nat) (readBack : Bytes) (s : State) : Host.Outcome State Fault Refusal :=
  .next (s.endSave written readBack).close

end Sys2Proof.Machine
end

