-- ==== Sys2Proof/Machine/RequestCommands.lean ====
section
/-! DEFINITION. The request commands: each is the arrival of one request of chapter 12.6 at the Message Port, as one event.
What its owner does when it is handed over is its arm of `State.serve` (Requests.lean). -/

namespace Sys2Proof.Machine

/-- IDENT (R200). -/
def execIdent (tag : Byte) (s : State) : Host.Outcome State Fault Refusal :=
  .next (s.submit ⟨0x01, tag, .ident⟩)

/-- PHASE_GET (R10). -/
def execPhaseGet (tag : Byte) (s : State) : Host.Outcome State Fault Refusal :=
  .next (s.submit ⟨0x02, tag, .phaseGet⟩)

/-- ALIGN_END (R13). -/
def execAlignEnd (tag : Byte) (s : State) : Host.Outcome State Fault Refusal :=
  .next (s.submit ⟨0x03, tag, .alignEnd⟩)

/-- ALIGN_PEAK_RESET (R14). -/
def execAlignPeakReset (tag : Byte) (s : State) : Host.Outcome State Fault Refusal :=
  .next (s.submit ⟨0x04, tag, .alignPeakReset⟩)

/-- PROVE_FORCE (R18). -/
def execProveForce (tag : Byte) (s : State) : Host.Outcome State Fault Refusal :=
  .next (s.submit ⟨0x05, tag, .proveForce⟩)

/-- SITE_RESEEK (R7). -/
def execSiteReseek (tag : Byte) (s : State) : Host.Outcome State Fault Refusal :=
  .next (s.submit ⟨0x06, tag, .siteReseek⟩)

/-- SITE_STOP (R8). -/
def execSiteStop (tag : Byte) (s : State) : Host.Outcome State Fault Refusal :=
  .next (s.submit ⟨0x07, tag, .siteStop⟩)

/-- SITE_RESTART (R9, R199). -/
def execSiteRestart (tag : Byte) (options : Byte) (s : State) : Host.Outcome State Fault Refusal :=
  .next (s.submit ⟨0x08, tag, .siteRestart options⟩)

/-- IMAGE_WRITE (R182). -/
def execImageWrite (tag : Byte) (off : BitVec 16) (data : Bytes) (s : State) : Host.Outcome State Fault Refusal :=
  .next (s.submit ⟨0x10, tag, writeRequest off data⟩)

/-- IMAGE_COMMIT (R183). -/
def execImageCommit (tag : Byte) (s : State) : Host.Outcome State Fault Refusal :=
  .next (s.submit ⟨0x11, tag, .imageCommit⟩)

/-- IMAGE_READ (R184). -/
def execImageRead (tag : Byte) (off count : BitVec 16) (s : State) : Host.Outcome State Fault Refusal :=
  .next (s.submit ⟨0x12, tag, .imageRead off count⟩)

/-- IMAGE_SAVE (R185). -/
def execImageSave (tag : Byte) (s : State) : Host.Outcome State Fault Refusal :=
  .next (s.submit ⟨0x13, tag, .imageSave⟩)

/-- LINK_GET (R42). -/
def execLinkGet (tag : Byte) (s : State) : Host.Outcome State Fault Refusal :=
  .next (s.submit ⟨0x18, tag, .linkGet⟩)

/-- PROFILE_CAP (R49). -/
def execProfileCap (tag : Byte) (value : Byte) (s : State) : Host.Outcome State Fault Refusal :=
  .next (s.submit ⟨0x19, tag, .profileCap value⟩)

/-- PROFILE_FIX (R48). -/
def execProfileFix (tag : Byte) (value : Byte) (s : State) : Host.Outcome State Fault Refusal :=
  .next (s.submit ⟨0x1A, tag, .profileFix value⟩)

/-- NOTE_SEND (R39). -/
def execNoteSend (tag : Byte) (note : Bytes) (s : State) : Host.Outcome State Fault Refusal :=
  .next (s.submit ⟨0x1B, tag, noteRequest note⟩)

/-- NOTE_READ (R41). -/
def execNoteRead (tag : Byte) (s : State) : Host.Outcome State Fault Refusal :=
  .next (s.submit ⟨0x1C, tag, .noteRead⟩)

/-- THERMAL_GET (R61). -/
def execThermalGet (tag : Byte) (s : State) : Host.Outcome State Fault Refusal :=
  .next (s.submit ⟨0x20, tag, .thermalGet⟩)

/-- THERMAL_ENABLE (R60). -/
def execThermalEnable (tag : Byte) (settings : Option ThermalBody) (s : State) : Host.Outcome State Fault Refusal :=
  .next (s.submit ⟨0x21, tag, .thermalEnable settings⟩)

/-- REF_GET (R77). -/
def execRefGet (tag : Byte) (s : State) : Host.Outcome State Fault Refusal :=
  .next (s.submit ⟨0x24, tag, .refGet⟩)

/-- TIME_GET (R96). -/
def execTimeGet (tag : Byte) (s : State) : Host.Outcome State Fault Refusal :=
  .next (s.submit ⟨0x25, tag, .timeGet⟩)

/-- TIME_SET (R95, R199). -/
def execTimeSet (tag : Byte) (body : TimeSetBody) (s : State) : Host.Outcome State Fault Refusal :=
  .next (s.submit ⟨0x26, tag, .timeSet body⟩)

/-- TENANT_GET (R116). -/
def execTenantGet (tag : Byte) (tenant : Byte) (s : State) : Host.Outcome State Fault Refusal :=
  .next (s.submit ⟨0x28, tag, .tenantGet tenant⟩)

/-- TENANT_SET (R101, R199). -/
def execTenantSet (tag : Byte) (tenant action : Byte) (entry : Option Bytes) (s : State) : Host.Outcome State Fault Refusal :=
  .next (s.submit ⟨0x29, tag, tenantRequest tenant action entry⟩)

/-- TENANT_BAR (R106). -/
def execTenantBar (tag : Byte) (tenant : Byte) (s : State) : Host.Outcome State Fault Refusal :=
  .next (s.submit ⟨0x2A, tag, .tenantBar tenant⟩)

/-- TENANT_UNBAR (R106). -/
def execTenantUnbar (tag : Byte) (tenant : Byte) (s : State) : Host.Outcome State Fault Refusal :=
  .next (s.submit ⟨0x2B, tag, .tenantUnbar tenant⟩)

/-- MAP_GET (R144). -/
def execMapGet (tag : Byte) (s : State) : Host.Outcome State Fault Refusal :=
  .next (s.submit ⟨0x2C, tag, .mapGet⟩)

/-- TEST_RUN (R160). -/
def execTestRun (tag : Byte) (index : Byte) (s : State) : Host.Outcome State Fault Refusal :=
  .next (s.submit ⟨0x30, tag, .testRun index⟩)

/-- TEST_ABORT (R160). -/
def execTestAbort (tag : Byte) (index : Byte) (s : State) : Host.Outcome State Fault Refusal :=
  .next (s.submit ⟨0x31, tag, .testAbort index⟩)

/-- TEST_LOG (R161). -/
def execTestLog (tag : Byte) (s : State) : Host.Outcome State Fault Refusal :=
  .next (s.submit ⟨0x32, tag, .testLog⟩)

/-- FAULT_GET (R175). -/
def execFaultGet (tag : Byte) (s : State) : Host.Outcome State Fault Refusal :=
  .next (s.submit ⟨0x38, tag, .faultGet⟩)

/-- FAULT_ACK (R172). -/
def execFaultAck (tag : Byte) (row : Byte) (s : State) : Host.Outcome State Fault Refusal :=
  .next (s.submit ⟨0x39, tag, .faultAck row⟩)

/-- FAULT_CLEAR (R173, R199). -/
def execFaultClear (tag : Byte) (rows : BitVec 24) (s : State) : Host.Outcome State Fault Refusal :=
  .next (s.submit ⟨0x3A, tag, .faultClear rows⟩)

/-- FAULT_SET (R174, R199). -/
def execFaultSet (tag : Byte) (responses : Bytes) (cap : Byte) (s : State) : Host.Outcome State Fault Refusal :=
  .next (s.submit ⟨0x3B, tag, faultRequest responses cap⟩)

/-- UNKNOWN_KIND_REQUEST (R191): a frame of that kind with an empty body. A kind the catalogue assigns is read as that
kind, and a reply kind is dropped. -/
def execUnknownKindRequest (kind tag : Byte) (s : State) : Host.Outcome State Fault Refusal :=
  .next (s.receive kind tag [])

end Sys2Proof.Machine
end

