-- ==== Sys2Proof/Machine/SiteCommands.lean ====
section
/-! DEFINITION. Site time and its references, the cabinet lines, the tenant ports, and the timers. -/

namespace Sys2Proof.Machine

/-! ### Site time -/

/-- SITE_SECOND_CROSSING (R80). -/
def execSiteSecondCrossing (lFirst : Bool) (s : State) : Host.Outcome State Fault Refusal :=
  .next (s.crossing lFirst).close

/-- PPS_PULSE_END (R93). -/
def execPpsPulseEnd (s : State) : Host.Outcome State Fault Refusal := .next { s with dsu.pps := none }.close

/-- A pulse counted in its window (R64). -/
def PulseWindow.count (w : PulseWindow) (ns osc : Nat) : PulseWindow :=
  { w with pulses := w.pulses + 1, ns := ns, osc := osc }

/-- A rising edge on GNSS_PPS, in the window open at that moment (R64). -/
def State.pulse (s : State) (ns osc : Nat) : State :=
  let s := s.rollWindow ns
  { s with rfm := s.rfm.modifyOpen (fun w => w.count ns osc) }

/-- GNSS_PPS_PULSE (R64). -/
def execGnssPpsPulse (ns osc : Nat) (s : State) : Host.Outcome State Fault Refusal :=
  if ns < 1000000000 then .next (s.pulse ns osc).close else .fault .malformedStamp

/-- GNSS_OK has become deasserted inside the window (R64, R66). -/
def PulseWindow.uncover (w : PulseWindow) : PulseWindow := { w with covered := false }

/-- GNSS_OK takes a level (R66): a deassertion uncovers the window open now and takes G DOWN. -/
def State.setGnssOk (s : State) (level : Bool) : State :=
  let was := s.gnssOk
  let s := s.rollWindow s.dsu.time.ns
  let s : State := { s with pins.gnssOk := level }
  if was && !s.gnssOk then { s with rfm := s.rfm.modifyOpen PulseWindow.uncover }.refDown .g else s

/-- GNSS_OK_CHANGE (R66). -/
def execGnssOkChange (level : Bool) (s : State) : Host.Outcome State Fault Refusal := .next (s.setGnssOk level).close

/-! ### The cabinet -/

/-- GATE_END (R53). -/
def execGateEnd (edges : Nat) (s : State) : Host.Outcome State Fault Refusal := .next (s.gate edges).close

/-- HOT_N_CHANGE (R58). -/
def execHotNChange (level : Bool) (s : State) : Host.Outcome State Fault Refusal :=
  .next ({ s with pins.hotN := level }.hotTaken s.hot).close

/-! ### Tenant ports -/

/-- PORT_LINK_CHANGE (R108). -/
def execPortLinkChange (i : Fin 4) (up : Bool) (s : State) : Host.Outcome State Fault Refusal :=
  .next (s.portLink i up).close

/-- PACKET_ARRIVAL (R111). -/
def execPacketArrival (i : Fin 4) (p : Bytes) (s : State) : Host.Outcome State Fault Refusal :=
  .next (s.arrive i p).close

/-- EGRESS_PACKET_TAKEN (R114). -/
def execEgressPacketTaken (i : Fin 4) (s : State) : Host.Outcome State Fault Refusal :=
  .next (s.modTenant i Tenant.takeEgress).close

/-! ### Timers -/

/-- REFIT_TIMER_EXPIRY (R102). -/
def execRefitTimerExpiry (i : Fin 4) (s : State) : Host.Outcome State Fault Refusal := .next (s.refitDone i).close

/-- RECOVER_TIMER_EXPIRY (R6). -/
def execRecoverTimerExpiry (s : State) : Host.Outcome State Fault Refusal := .next s.recoverDone.close

/-- RETRY_TIMER_EXPIRY (R17). -/
def execRetryTimerExpiry (s : State) : Host.Outcome State Fault Refusal := .next s.retryDone.close

/-- The grant timer has run out with the run still WAITING (R149). -/
def State.grantExpired (s : State) : State :=
  match s.stu.active with
  | some r => if r.grantLeft.isSome && decide (r.state = .waiting) then s.abortRun r .noCapacity else s
  | none => s

/-- GRANT_TIMER_EXPIRY (R149). -/
def execGrantTimerExpiry (s : State) : Host.Outcome State Fault Refusal := .next s.grantExpired.close

/-- The drain wait has passed, and the run is judged (R152). -/
def State.drainExpired (s : State) : State :=
  match s.stu.active with
  | some r => if r.drainLeft.isSome && decide (r.state = .draining) then s.endRun r r.verdict.1 r.verdict.2 else s
  | none => s

/-- DRAIN_WAIT_EXPIRY (R152). -/
def execDrainWaitExpiry (s : State) : Host.Outcome State Fault Refusal := .next s.drainExpired.close

end Sys2Proof.Machine
end

