-- ==== Sys2Proof/Machine/Dispatch.lean ====
section
/-! DEFINITION. One arm for each command: a direct call of its meaning. -/

namespace Sys2Proof.Machine

def exec (i : Instr) (s : State) : Host.Outcome State Fault Refusal :=
  match i with
  | .reset baudSel1 baudSel0 => Sys2Proof.Machine.execReset baudSel1 baudSel0 s
  | .restart => Sys2Proof.Machine.execRestart s
  | .ident tag => Sys2Proof.Machine.execIdent tag s
  | .phaseGet tag => Sys2Proof.Machine.execPhaseGet tag s
  | .alignEnd tag => Sys2Proof.Machine.execAlignEnd tag s
  | .alignPeakReset tag => Sys2Proof.Machine.execAlignPeakReset tag s
  | .proveForce tag => Sys2Proof.Machine.execProveForce tag s
  | .siteReseek tag => Sys2Proof.Machine.execSiteReseek tag s
  | .siteStop tag => Sys2Proof.Machine.execSiteStop tag s
  | .siteRestart tag options => Sys2Proof.Machine.execSiteRestart tag options s
  | .imageWrite tag offset data => Sys2Proof.Machine.execImageWrite tag offset data s
  | .imageCommit tag => Sys2Proof.Machine.execImageCommit tag s
  | .imageRead tag offset count => Sys2Proof.Machine.execImageRead tag offset count s
  | .imageSave tag => Sys2Proof.Machine.execImageSave tag s
  | .linkGet tag => Sys2Proof.Machine.execLinkGet tag s
  | .profileCap tag value => Sys2Proof.Machine.execProfileCap tag value s
  | .profileFix tag value => Sys2Proof.Machine.execProfileFix tag value s
  | .noteSend tag note => Sys2Proof.Machine.execNoteSend tag note s
  | .noteRead tag => Sys2Proof.Machine.execNoteRead tag s
  | .thermalGet tag => Sys2Proof.Machine.execThermalGet tag s
  | .thermalEnable tag settings => Sys2Proof.Machine.execThermalEnable tag settings s
  | .refGet tag => Sys2Proof.Machine.execRefGet tag s
  | .timeGet tag => Sys2Proof.Machine.execTimeGet tag s
  | .timeSet tag body => Sys2Proof.Machine.execTimeSet tag body s
  | .tenantGet tag tenant => Sys2Proof.Machine.execTenantGet tag tenant s
  | .tenantSet tag tenant action entry => Sys2Proof.Machine.execTenantSet tag tenant action entry s
  | .tenantBar tag tenant => Sys2Proof.Machine.execTenantBar tag tenant s
  | .tenantUnbar tag tenant => Sys2Proof.Machine.execTenantUnbar tag tenant s
  | .mapGet tag => Sys2Proof.Machine.execMapGet tag s
  | .testRun tag index => Sys2Proof.Machine.execTestRun tag index s
  | .testAbort tag index => Sys2Proof.Machine.execTestAbort tag index s
  | .testLog tag => Sys2Proof.Machine.execTestLog tag s
  | .faultGet tag => Sys2Proof.Machine.execFaultGet tag s
  | .faultAck tag row => Sys2Proof.Machine.execFaultAck tag row s
  | .faultClear tag rows => Sys2Proof.Machine.execFaultClear tag rows s
  | .faultSet tag responses cap => Sys2Proof.Machine.execFaultSet tag responses cap s
  | .unknownKindRequest kind tag => Sys2Proof.Machine.execUnknownKindRequest kind tag s
  | .frameReceived bytes => Sys2Proof.Machine.execFrameReceived bytes s
  | .frameTimeout => Sys2Proof.Machine.execFrameTimeout s
  | .lineFrameSent => Sys2Proof.Machine.execLineFrameSent s
  | .attnPulseEnd => Sys2Proof.Machine.execAttnPulseEnd s
  | .eepromReadDone answered bytes => Sys2Proof.Machine.execEepromReadDone answered bytes s
  | .saveDone written readBack => Sys2Proof.Machine.execSaveDone written readBack s
  | .txFrameBuild hold => Sys2Proof.Machine.execTxFrameBuild hold s
  | .profileSwitchFrame => Sys2Proof.Machine.execProfileSwitchFrame s
  | .mapSwitchFrame => Sys2Proof.Machine.execMapSwitchFrame s
  | .patternDurationEnd => Sys2Proof.Machine.execPatternDurationEnd s
  | .allocationPeriodEnd => Sys2Proof.Machine.execAllocationPeriodEnd s
  | .rxFrameReceived frame => Sys2Proof.Machine.execRxFrameReceived frame s
  | .rxHeaderMissing => Sys2Proof.Machine.execRxHeaderMissing s
  | .rxFramerUp => Sys2Proof.Machine.execRxFramerUp s
  | .rxFramerDown => Sys2Proof.Machine.execRxFramerDown s
  | .marginWindowEnd => Sys2Proof.Machine.execMarginWindowEnd s
  | .alignWindowEnd => Sys2Proof.Machine.execAlignWindowEnd s
  | .checkerWindowEnd => Sys2Proof.Machine.execCheckerWindowEnd s
  | .siteSecondCrossing lFirst => Sys2Proof.Machine.execSiteSecondCrossing lFirst s
  | .ppsPulseEnd => Sys2Proof.Machine.execPpsPulseEnd s
  | .gnssPpsPulse ns osc => Sys2Proof.Machine.execGnssPpsPulse ns osc s
  | .gnssOkChange level => Sys2Proof.Machine.execGnssOkChange level s
  | .gateEnd edges => Sys2Proof.Machine.execGateEnd edges s
  | .hotNChange level => Sys2Proof.Machine.execHotNChange level s
  | .portLinkChange tenant up => Sys2Proof.Machine.execPortLinkChange tenant up s
  | .packetArrival tenant packet => Sys2Proof.Machine.execPacketArrival tenant packet s
  | .egressPacketTaken tenant => Sys2Proof.Machine.execEgressPacketTaken tenant s
  | .refitTimerExpiry tenant => Sys2Proof.Machine.execRefitTimerExpiry tenant s
  | .recoverTimerExpiry => Sys2Proof.Machine.execRecoverTimerExpiry s
  | .retryTimerExpiry => Sys2Proof.Machine.execRetryTimerExpiry s
  | .grantTimerExpiry => Sys2Proof.Machine.execGrantTimerExpiry s
  | .drainWaitExpiry => Sys2Proof.Machine.execDrainWaitExpiry s
  | .byteError => Sys2Proof.Machine.execByteError s

end Sys2Proof.Machine
end

