-- ==== Sys2Proof/Safety.lean ====
section
/-! DEFINITION. What a state of the part keeps from step to step, and the quiet states in which one command's effect stands
alone; the terms claims use. -/

namespace Sys2Proof.Machine

/-! ### States in which one command's effect stands alone -/

/-- No work of an earlier event is left, and no request waits to be handed over: every event leaves the first, and the
second holds unless requests come faster than they are answered. -/
def State.calm (s : State) : Prop := s.work = {} ∧ s.stu.removed = [] ∧ s.mp.inbound = []

/-- Calm, while a frame is being sent: what an event queues then stays where it was queued. -/
def State.lineBusy (s : State) : Prop := s.calm ∧ s.mp.line.isSome = true

/-- Calm, a frame being sent, and the reply slot free: a request that arrives is handed over at once, and its reply waits
in the slot. -/
def State.ready (s : State) : Prop := s.lineBusy ∧ s.mp.slot = none ∧ s.mp.restart = none

/-- No event of the receive side is due before the next slot. -/
def State.rxQuiet (s : State) : Prop :=
  s.lfr.rx.upDue = none ∧ s.lau.windowDone = false ∧ s.spc.windowDone = false ∧ s.stu.chk.windowDone = false

/-- The port with one more request received and answered, its reply in the slot. -/
def Mp.answered (m : Mp) (kind tag : Byte) (st : Status) (body : Bytes) (restart : Bool) : Mp :=
  { m with
    counts := { m.counts with received := m.counts.received + 1 }.answer st
    slot := some ⟨kind + 0x80, tag, e1 st.code ++ body, restart⟩
    slotBehind := m.store.length }

/-- The state with one more request received and answered, and nothing else changed. -/
def State.answer (s : State) (kind tag : Byte) (st : Status) (body : Bytes) : State :=
  { s with mp := s.mp.answered kind tag st body false }

/-- The reply in the slot. -/
def State.replies (s : State) (kind tag : Byte) (st : Status) (body : Bytes) : Prop :=
  s.mp.slot = some ⟨kind + 0x80, tag, e1 st.code ++ body, false⟩

/-- The body of a request has a length the catalogue allows (12.6). -/
def ReqBody.shaped (r : ReqBody) : Bool :=
  match r with
  | .imageWrite _ data => decide (1 ≤ data.length) && decide (data.length ≤ 1000)
  | .noteSend b => decide (1 ≤ b.length) && decide (b.length ≤ 32)
  | .tenantSet _ _ (some e) => decide (e.length = 24)
  | .faultSet b _ => decide (b.length = 24)
  | _ => true

/-- A row of the fault table is active. -/
def State.rowActive (s : State) (r : Nat) : Prop := (s.fmn.row r).active = true

/-- No row of the fault table is answered with this response, in any phase. -/
def Fmn.answersNever (f : Fmn) (r : Response) : Prop := ∀ p ∈ f.table, p.bringup ≠ r ∧ p.service ≠ r

/-- A MAP_SLIP of the blocks of a frame brings no action that reaches the receive framer: it is active already, or its
answer is neither RESEEK nor BAR, which R165 gives to tenant rows alone. -/
def Fmn.slipStays (f : Fmn) : Prop :=
  (f.row 4).active = true ∨ ∀ p, f.table[4]? = some p →
    p.bringup ≠ .reseek ∧ p.service ≠ .reseek ∧ p.bringup ≠ .bar ∧ p.service ≠ .bar

/-- A raise of this row brings no action that reaches the phase or a tenant: it is active already, or its answer is none of
RESEEK, HALT and BAR. -/
def Fmn.phaseStays (f : Fmn) (r : Nat) : Prop :=
  (f.row r).active = true ∨ ∀ p, f.table[rowClass r]? = some p → ∀ x ∈ [p.bringup, p.service],
    x ≠ .reseek ∧ x ≠ .halt ∧ x ≠ .bar

/-- The receive framer after a slot without a good header, by the table of R24. -/
def LfrRx.headerLost (x y : LfrRx) : Prop :=
  (x.framer = .hunt → y.framer = .hunt)
    ∧ (x.framer = .confirm → y.framer = .hunt ∧ y.run = 0)
    ∧ (x.framer = .up → y.framer = .flywheel ∧ y.run = 1)
    ∧ (x.framer = .flywheel → x.run + 1 < 8 → y.framer = .flywheel ∧ y.run = x.run + 1)
    ∧ (x.framer = .flywheel → x.run + 1 = 8 → y.framer = .down)

/-- The profile and map records counted down through a frame whose header they replace (R28, R141). -/
def LfrRx.countedDown (x y : LfrRx) : Prop :=
  (x.pend = none → y.pend = none ∧ y.prof = x.prof)
    ∧ (∀ p, x.pend = some p → p.count = 1 → y.pend = none ∧ y.prof = p.target)
    ∧ (∀ p, x.pend = some p → 1 < p.count → y.pend = some { p with count := p.count - 1 } ∧ y.prof = x.prof)
    ∧ (x.mpend = none → y.mpend = none ∧ y.map = x.map)
    ∧ (∀ p, x.mpend = some p → p.count = 1 → y.mpend = none ∧ y.map = ⟨p.ver, p.counts⟩)
    ∧ (∀ p, x.mpend = some p → 1 < p.count → y.mpend = some { p with count := p.count - 1 } ∧ y.map = x.map)

/-- The request kinds that the catalogue of 12.6 assigns. -/
def assignedKinds : List Nat :=
  [0x01, 0x02, 0x03, 0x04, 0x05, 0x06, 0x07, 0x08, 0x10, 0x11, 0x12, 0x13, 0x18, 0x19, 0x1A, 0x1B, 0x1C, 0x20, 0x21,
    0x24, 0x25, 0x26, 0x28, 0x29, 0x2A, 0x2B, 0x2C, 0x30, 0x31, 0x32, 0x38, 0x39, 0x3A, 0x3B]

/-- The runs in the queue are those of one bring-up round of the plan (R159). -/
def State.roundQueued (s : State) : Prop :=
  s.stu.queue.map (·.idx) = s.stu.entriesOf .bringup ∧ ∀ r ∈ s.stu.queue, r.round = true

/-- No run of the plan ends in the event that makes it active, as a SENSOR_CHECK does (R155), and no grant is held that a
computation could take back. -/
def State.runsStay (s : State) : Prop := (∀ e ∈ s.stu.plan, e.kind ≠ .sensorCheck) ∧ s.sha.grant = none

/-- The active run, and behind it only runs that have not left QUEUED (R147). -/
def State.runActive (s : State) (r : Run) : Prop :=
  r.state ≠ .queued ∧ ∃ rs, s.stu.queue = r :: rs ∧ ∀ q ∈ rs, q.state = .queued

/-- No run is left, and the newest record of the result log is that of `r`, ended ABORTED with this cause; what a link
pattern run held is given back but by one in DRAINING, which holds nothing (R148, R153, R159). -/
def State.runsStopped (t : State) (r : Run) (c : RunCause) : Prop :=
  t.stu.queue = []
    ∧ (∃ x, t.stu.log.head? = some x ∧ x.idx = r.idx ∧ x.id = r.id ∧ x.outcome = .aborted ∧ x.cause = c)
    ∧ (r.entry.kind = .linkPattern → r.state ≠ .draining → t.sha.tReq = 0 ∧ t.sha.grant = none)

/-- Every ACTIVE or UNFIT tenant has become HELD, with its permit low, and every other has kept its state (R105). -/
def State.tenantsHeld (s t : State) : Prop :=
  ∀ i : Fin 4, let st := (s.tpt.get i).state
    if st = .active ∨ st = .unfit then (t.tpt.get i).state = .held ∧ (t.tpt.get i).permit = false
    else (t.tpt.get i).state = st

/-- The record of the alignment assist after a window with average `avg`, by the table of R12 and the settle condition of
R13. -/
def AlignRecord.follows (y r : AlignRecord) (avg : Int) (now : SiteTime) (expect : Int) : Prop :=
  y.avg = some avg
    ∧ (r.peak = none → y.peak = some avg ∧ y.peakTime = some now ∧ y.settle = 0)
    ∧ (∀ p, r.peak = some p → p < avg → y.peak = some avg ∧ y.peakTime = some now ∧ y.settle = 0)
    ∧ (∀ p, r.peak = some p → p - 10 ≤ avg → avg ≤ p →
      y.peak = some p ∧ y.peakTime = r.peakTime ∧ y.settle = min 65535 (r.settle + 1))
    ∧ (∀ p, r.peak = some p → avg < p - 10 → y.peak = some p ∧ y.peakTime = r.peakTime ∧ y.settle = 0)
    ∧ y.settled = decide (1250 ≤ y.settle ∧ expect - 30 ≤ y.peak.getD 0)

/-! ### A stream from one part's tenant port to the other's -/

/-- `n` blocks of `bb` bytes filled by the sender's tenant and delivered to the receiver's. -/
def crossBlocks (bb : Nat) : Nat → Tenant → Tenant → Tenant × Tenant
  | 0, a, b => (a, b)
  | n + 1, a, b =>
    let f := fillFrom a.queue a.sendOff bb 0
    crossBlocks bb n { a with queue := f.queue, sendOff := f.sendOff } (b.block f.data f.start)

/-- A packet a tenant port may carry (R111). -/
def goodPacket (p : Bytes) : Prop := 64 ≤ p.length ∧ p.length ≤ 2000

/-! ### What every step keeps -/

/-- No two waiting notices have the same kind and subject (R195). -/
def State.noticesDistinct (s : State) : Prop := (s.mp.notices.map Notice.key).Nodup

/-- The image buffer has its canonical form. -/
def State.bufferWf (s : State) : Prop := s.il.buffer.wf = true

/-- How many subjects a kind of notice has (12.4). -/
def NoticeKind.subjects : NoticeKind → Nat
  | .ref => 2
  | .tenant => 4
  | .fault => 21
  | .phase | .align | .link | .profile | .thermal | .time | .map | .test | .note | .image => 1

/-- The notice queue holds at most 40 notices, no two alike, each with a subject of its kind (R195); the row that the
outstanding record names, of which notices are queued, is one of the 21. -/
def State.noticesBounded (s : State) : Prop :=
  s.mp.notices.length ≤ 40 ∧ s.noticesDistinct ∧ (∀ n ∈ s.mp.notices, n.subject < n.kind.subjects)
    ∧ ∀ o, s.fmn.out = some o → o.row < 21

/-- The run queue holds at most 8 runs, at most one of each index of a plan of at most 8 entries (R147). -/
def State.runsBounded (s : State) : Prop :=
  s.stu.queue.length ≤ 8 ∧ (s.stu.queue.map (·.idx)).Nodup ∧ (∀ r ∈ s.stu.queue, r.idx < 8) ∧ s.stu.plan.length ≤ 8

/-- The queues of the port, the link, the tests and the log hold no more than they may (R192, R195, R38, R41, R147,
R161). -/
def State.queuesBounded (s : State) : Prop :=
  s.mp.inbound.length ≤ 4 ∧ s.mp.store.length ≤ 8 ∧ s.lfr.tx.svc.length ≤ 8 ∧ s.lfr.rx.relay.length ≤ 4
    ∧ s.stu.log.length ≤ 16 ∧ s.noticesBounded ∧ s.runsBounded

/-- A ppt value lies within ±20,000,000. -/
def pptOk (x : Int) : Prop := -Config.ppmLimit ≤ x ∧ x ≤ Config.ppmLimit

/-- The correction, the integral term and the ring stay in range (R86, R87), and site time has the form of R79. -/
def State.loopBounded (s : State) : Prop :=
  pptOk s.dsu.c ∧ pptOk s.dsu.i ∧ s.dsu.ring.length ≤ 64 ∧ (∀ x ∈ s.dsu.ring, pptOk x) ∧ s.dsu.time.ns < 1000000000
    ∧ s.dsu.residue < partsPerNs

/-- One tenant's permit, fitness record and refit timer agree with its state and with the loop, and it is ACTIVE or UNFIT
only in SERVICE, with its port link up (R3, R92, R102, R103, R105, R107). -/
def Tenant.consistent (t : Tenant) (phase : Phase) (loop : LoopState) (u : Nat) : Prop :=
  t.permit = decide (t.state = .active)
    ∧ (t.state = .active ∨ t.state = .unfit → phase = .service ∧ t.link = true ∧ t.entry.isSome = true)
    ∧ (t.state = .active → t.fit = some .fit)
    ∧ (t.fit.isSome = true → t.entry.isSome = true)
    ∧ (t.refit.isSome = true → t.fit = some .refit)
    ∧ (∀ e, t.entry = some e → t.fit = some .fit ∨ t.fit = some .refit → timingFit e loop u = true)

/-- Every tenant is consistent with the phase and the loop as they stand. -/
def State.tenantsConsistent (s : State) : Prop :=
  ∀ i : Fin 4, (s.tpt.get i).consistent s.spc.phase s.dsu.loop s.dsu.u

/-- The occupancies of every tenant's queues stay within 65,536 and 16,384 bytes (R111, R114). -/
def State.portsBounded (s : State) : Prop :=
  ∀ i : Fin 4, occupancy (s.tpt.get i).queue ≤ 65536 ∧ occupancy (s.tpt.get i).egress ≤ 16384

end Sys2Proof.Machine
end

