-- ==== Sys2Proof/Certificates/Slice0/Obligations.lean ====
section
/-! DEFINITION. The statements for the provers. Each is of the part's model; its docstring names the rule of spec/ it comes
from, and says which of its hypotheses are the model's. -/

open Sys2Proof Sys2Proof.Machine

/-! ### Steps -/

/-- The command at the front of the queue is taken on the state with the queue's rest. The queue is the model's form of
what happens to the part (log 1; what a step takes on an empty queue is log 2). -/
def Obligations.StepRunsFrontCommand : Prop :=
  ∀ (c : Instr) (rest : List Instr) (s : State), step { s with pending := c :: rest } = exec c { s with pending := rest }

/-- Every command that can exist on the wire completes from every state, and leaves the queue of waiting commands alone. A
received frame of another shape than chapter 2's, or a pulse stamp that is no nanosecond-of-second, is a fault: the model's
only stops (log 13). -/
def Obligations.CommandsCompleteOrFault : Prop :=
  (∀ (c : Instr) (s : State), c.wellFormed = true → ∃ t, exec c s = .next t ∧ t.pending = s.pending)
    ∧ (∀ f s, f.wellFormed = false → exec (.rxFrameReceived f) s = .fault .malformedFrame)
    ∧ ∀ ns osc s, 1000000000 ≤ ns → exec (.gnssPpsPulse ns osc) s = .fault .malformedStamp

/-- A frame time of the local oscillator moves site time by 125,000 ns and the correction's part of it, and loses no
fraction: the whole nanoseconds and the residue together advance by exactly 1,000,000,000,000 + c parts of 1/8000 ps
(R79; the frame time is the model's tick, log 2). -/
def Obligations.SiteTimeLosesNoFraction : Prop :=
  ∀ d : Dsu, d.time.ns < 1000000000 → d.residue < partsPerNs → pptOk d.c →
    timeDiff d.advance.time d.time * 8000000 + (d.advance.residue : Int) = d.residue + 1000000000000 + d.c
      ∧ d.advance.time.ns < 1000000000 ∧ d.advance.residue < partsPerNs

/-! ### The Message Port -/

/-- A whole frame that arrives in HUNT is received with its kind, tag and body, whatever they are; with another CRC it is
discarded and counted as a CRC discard, and never answered (12.1, R189). -/
def Obligations.FrameIsReceivedByItsCrc : Prop :=
  ∀ (s : State) (kind tag : Byte) (body : Bytes), s.mp.rx = .hunt → body.length ≤ 1020 →
    exec (.frameReceived (frameBytes kind tag body)) s = .next ({ s with mp.rxIdle := 0 }.receive kind tag body)
    ∧ ∀ crc : Bytes, crc.length = 2 → crc ≠ crcBytes (frameInner kind tag body) →
      exec (.frameReceived (0xC5 :: frameInner kind tag body ++ crc)) s =
        .next { s with mp.rxIdle := 0, mp.counts.crc := s.mp.counts.crc + 1 }

/-- In HUNT every byte other than 0xC5 is passed over and counted as a hunt byte. A length below 2 or above 1,022 discards
the frame, and the hunt resumes at the first length byte, so that a 0xC5 among the two begins the next frame (R189). -/
def Obligations.HuntFindsTheNextFrame : Prop :=
  (∀ (s : State) (b : Byte) (bytes : Bytes), s.mp.rx = .hunt → 0xC5 ∉ b :: bytes →
    exec (.frameReceived (b :: bytes)) s =
      .next { s with mp.rxIdle := 0, mp.counts.hunt := s.mp.counts.hunt + BitVec.ofNat 32 (b :: bytes).length })
  ∧ ∀ (s : State) (b0 b1 : Byte), s.mp.rx = .hunt → (readLe [b0, b1] < 2 ∨ 1022 < readLe [b0, b1]) →
    ∃ t, exec (.frameReceived [0xC5, b0, b1]) s = .next t
      ∧ t.mp.counts.length = s.mp.counts.length + 1
      ∧ t.mp.rx = (if b0 = 0xC5 then .length [b1] else if b1 = 0xC5 then .length [] else .hunt)
      ∧ t.mp.inbound = s.mp.inbound ∧ t.mp.counts.received = s.mp.counts.received

/-- A byte with a bad stop bit, and 10 ms without a byte, discard the frame in progress and count it (R189). That they change
nothing with no frame in progress is the model's choice (log 30 for the byte, log 23 for the timeout). -/
def Obligations.FrameErrorsDiscard : Prop :=
  ∀ s : State, s.lineBusy →
    (s.mp.rx ≠ .hunt →
      exec .byteError s = .next { s with
        mp.rx := .hunt, mp.rxIdle := 0, mp.counts.byteError := s.mp.counts.byteError + 1 }
      ∧ exec .frameTimeout s = .next { s with
        mp.rx := .hunt, mp.rxIdle := 0, mp.counts.timeout := s.mp.counts.timeout + 1 })
    ∧ (s.mp.rx = .hunt → exec .byteError s = .next s ∧ exec .frameTimeout s = .next s)

/-- Every request body of 12.6, written as its kind and bytes, is read back as itself, and fits a frame. -/
def Obligations.RequestBodyRoundTrip : Prop :=
  ∀ (r : ReqBody) (kind : Byte) (body : Bytes), r.shaped = true → requestWire r = some (kind, body) →
    parseBody kind.toNat body = r ∧ body.length ≤ 1020

/-- A request that arrives at a ready port is handed over at once: its owner acts, the event's work is done, and the reply,
with its kind plus 0x80, its tag and its status, stands in the slot. While the slot is full a request is queued while the
inbound queue holds fewer than 4, refused BUSY from the store while that holds fewer than 8, and counted as an overrun
otherwise; nothing else changes then (R192, R193, 12.2). That each of these counts as received, and a BUSY refusal of the
port not as answered, is the model's inference (log 14). -/
def Obligations.PortTakesQueuesOrRefuses : Prop :=
  (∀ (s : State) (r : Request), s.ready →
    let a := { s with mp.counts.received := s.mp.counts.received + 1 }.serve r.body
    s.submit r = a.state.finishWork.reply r a
      ∧ (s.submit r).mp.slot =
        some ⟨r.kind + 0x80, r.tag, e1 a.status.code ++ a.body a.state.finishWork,
          r.body.isRestart && decide (a.status = .ok)⟩)
  ∧ ∀ (s : State) (r : Request), s.work = {} → s.stu.removed = [] → s.mp.line.isSome = true → s.mp.slot.isSome = true →
    s.submit r =
      if s.mp.inbound.length < 4 then
        { s with mp.counts.received := s.mp.counts.received + 1, mp.inbound := s.mp.inbound ++ [r] }
      else if s.mp.store.length < 8 then
        { s with mp := { s.mp with
          store := s.mp.store ++ [(r.kind, r.tag)]
          counts.received := s.mp.counts.received + 1, counts.busy := s.mp.counts.busy + 1 } }
      else
        { s with mp := { s.mp with
          counts.received := s.mp.counts.received + 1, counts.overrun := s.mp.counts.overrun + 1 } }

/-- A refused request changes no state of any block, but for a commit that fails its validation, which R183 gives its own
effect (R191). -/
def Obligations.RefusedRequestsChangeNothing : Prop :=
  ∀ (s : State) (r : ReqBody), r ≠ .imageCommit → (s.serve r).status ≠ .ok → (s.serve r).state = s

/-- When the line falls free, a reply goes before any notice, replies in the order they became ready; then the oldest
notice goes, tagged with the sequence number, and in LEVEL mode ATTN falls with the last. Each goes as one whole frame, its
length, tag and CRC filled in by the port (12.1, R190, R194 to R197). When the reply of a SITE_RESTART has left, the restart
is due, and nothing more is sent before it is taken (R9, R190). -/
def Obligations.LineSendsRepliesFirst : Prop :=
  (∀ (s : State) (f : LineFrame), s.calm → s.mp.line = some f → (f.restart = true ∨ s.mp.restartDue = true) →
    exec .lineFrameSent s = .next { s with mp := { s.mp with line := none, restartDue := true } })
  ∧ ∀ (s : State) (f : LineFrame), s.calm → s.mp.line = some f → f.restart = false → s.mp.restartDue = false →
    (∀ r, s.mp.slot = some r → s.mp.slotBehind = 0 →
      exec .lineFrameSent s = .next { s with mp := { s.mp with
        slot := none, slotBehind := 0, line := some ⟨frameBytes r.kind r.tag r.body, r.restart⟩ } })
    ∧ (∀ x xs, s.mp.store = x :: xs → (s.mp.slot = none ∨ s.mp.slotBehind ≠ 0) →
      ∃ t, exec .lineFrameSent s = .next t ∧ t.mp.line = some ⟨frameBytes (x.1 + 0x80) x.2 [5], false⟩ ∧ t.mp.store = xs
        ∧ t.mp.slot = s.mp.slot ∧ t.mp.notices = s.mp.notices)
    ∧ (∀ n ns, s.mp.store = [] → s.mp.slot = none → s.mp.notices = n :: ns →
      exec .lineFrameSent s = .next { s with mp := { s.mp with
        line := some ⟨frameBytes (BitVec.ofNat 8 n.kind.code) s.mp.seq (e1 n.subject ++ n.content), false⟩
        notices := ns, seq := s.mp.seq + 1, counts.notices := s.mp.counts.notices + 1
        attn := if s.mp.attnMode = .level ∧ ns = [] then false else s.mp.attn } })
    ∧ (s.mp.store = [] → s.mp.slot = none → s.mp.notices = [] →
      exec .lineFrameSent s = .next { s with mp.line := none })
    ∧ ∀ (kind tag : Byte) (body : Bytes),
      let inner := le 2 (2 + body.length) ++ [kind, tag] ++ body
      frameBytes kind tag body = [0xC5] ++ inner ++ crcBytes inner

/-- No two waiting notices ever have the same kind and subject (R195). -/
def Obligations.NoticeKeysStayDistinct : Prop :=
  ∀ s s' : State, s.noticesDistinct → step s = .next s' → s'.noticesDistinct

/-! ### Requests -/

/-- The requests that only report are answered OK with the body their rules list, in every phase, and change nothing but
the port's counts and slot (R10, R42, R61, R77, R96, R116, R144, R161, R175, R184, R200). That the counts IDENT gives have it
as received and not yet as answered is the model's choice (log 64). -/
def Obligations.ReportRequestsChangeNothing : Prop :=
  ∀ (s : State) (tag : Byte), s.ready →
    exec (.ident tag) s = .next (s.answer 0x01 tag .ok
      { s with mp.counts.received := s.mp.counts.received + 1 }.identBody)
    ∧ exec (.phaseGet tag) s = .next (s.answer 0x02 tag .ok s.phaseBody)
    ∧ exec (.linkGet tag) s = .next (s.answer 0x18 tag .ok s.linkBody)
    ∧ exec (.thermalGet tag) s = .next (s.answer 0x20 tag .ok s.thermalBody)
    ∧ exec (.refGet tag) s = .next (s.answer 0x24 tag .ok s.refBody)
    ∧ exec (.timeGet tag) s = .next (s.answer 0x25 tag .ok s.timeBody)
    ∧ (∀ i : Fin 4, exec (.tenantGet tag (BitVec.ofNat 8 i.val)) s = .next (s.answer 0x28 tag .ok (s.tenantBody i)))
    ∧ exec (.mapGet tag) s = .next (s.answer 0x2C tag .ok s.mapBody)
    ∧ exec (.testLog tag) s = .next (s.answer 0x32 tag .ok s.testLogBody)
    ∧ exec (.faultGet tag) s = .next (s.answer 0x38 tag .ok s.faultBody)
    ∧ (s.il.state ≠ .reading → ∀ off n : BitVec 16, off.toNat ≤ 1023 → 1 ≤ n.toNat → n.toNat ≤ 1000 →
      off.toNat + n.toNat ≤ 1024 →
      exec (.imageRead tag off n) s = .next (s.answer 0x12 tag .ok (s.imageReadBody off.toNat n.toNat)))

/-- A request in a phase that its rule does not accept it in is refused with WRONG_PHASE, a kind that the catalogue does not
assign, in 0x00 to 0x7F, is answered UNKNOWN_KIND, and either changes nothing but the port's counts and slot; a frame of a reply kind is dropped
without reply and counted (12.6, R191). -/
def Obligations.RefusalsAnswered : Prop :=
  ∀ (s : State) (tag : Byte), s.ready →
    (s.spc.phase ≠ .align →
      exec (.alignEnd tag) s = .next (s.answer 0x03 tag .wrongPhase [])
      ∧ exec (.alignPeakReset tag) s = .next (s.answer 0x04 tag .wrongPhase []))
    ∧ (s.spc.phase ≠ .prove → exec (.proveForce tag) s = .next (s.answer 0x05 tag .wrongPhase []))
    ∧ (s.spc.phase ≠ .prove → s.spc.phase ≠ .service → s.spc.phase ≠ .recover →
      exec (.siteReseek tag) s = .next (s.answer 0x06 tag .wrongPhase []))
    ∧ (s.spc.phase = .halt → exec (.siteStop tag) s = .next (s.answer 0x07 tag .wrongPhase []))
    ∧ (s.spc.phase ≠ .halt → ∀ o, exec (.siteRestart tag o) s = .next (s.answer 0x08 tag .wrongPhase []))
    ∧ (s.spc.phase ≠ .load →
      exec (.imageCommit tag) s = .next (s.answer 0x11 tag .wrongPhase [])
      ∧ ∀ off data, 1 ≤ data.length → data.length ≤ 1000 →
        exec (.imageWrite tag off data) s = .next (s.answer 0x10 tag .wrongPhase []))
    ∧ (s.il.state ≠ .accepted → exec (.imageSave tag) s = .next (s.answer 0x13 tag .wrongPhase []))
    ∧ (s.spc.phase ≠ .prove → s.spc.phase ≠ .service → ∀ i,
      exec (.testRun tag i) s = .next (s.answer 0x30 tag .wrongPhase []))
    ∧ (s.spc.phase = .load →
      (∀ v, exec (.profileFix tag v) s = .next (s.answer 0x1A tag .wrongPhase []))
      ∧ (∀ b, 1 ≤ b.length → b.length ≤ 32 → exec (.noteSend tag b) s = .next (s.answer 0x1B tag .wrongPhase []))
      ∧ (∀ b, exec (.thermalEnable tag b) s = .next (s.answer 0x21 tag .wrongPhase []))
      ∧ (∀ b, exec (.timeSet tag b) s = .next (s.answer 0x26 tag .wrongPhase []))
      ∧ (∀ i a, exec (.tenantSet tag i a none) s = .next (s.answer 0x29 tag .wrongPhase []))
      ∧ (∀ i, exec (.tenantBar tag i) s = .next (s.answer 0x2A tag .wrongPhase []))
      ∧ (∀ i, exec (.tenantUnbar tag i) s = .next (s.answer 0x2B tag .wrongPhase []))
      ∧ (∀ i, exec (.testAbort tag i) s = .next (s.answer 0x31 tag .wrongPhase []))
      ∧ ∀ b c, b.length = 24 → exec (.faultSet tag b c) s = .next (s.answer 0x3B tag .wrongPhase []))
    ∧ (∀ kind : Byte, kind.toNat ≤ 0x7F → kind.toNat ∉ assignedKinds →
      exec (.unknownKindRequest kind tag) s = .next (s.answer kind tag .unknownKind []))
    ∧ (∀ kind : Byte, 0x80 ≤ kind.toNat →
      exec (.unknownKindRequest kind tag) s = .next { s with mp := { s.mp with
        counts.received := s.mp.counts.received + 1, counts.replyKind := s.mp.counts.replyKind + 1 } })

/-- ALIGN_PEAK_RESET in ALIGN sets the peak to the current average, its time to the present site time, the settle clock to
0 and the settled flag clear, and is answered OK; with no average yet the record stays; in any other phase it is refused
with WRONG_PHASE (R14). -/
def Obligations.AlignPeakReset : Prop :=
  ∀ (s : State) (tag : Byte), s.ready →
    (s.spc.phase = .align →
      (∀ a, s.spc.record.avg = some a →
        exec (.alignPeakReset tag) s = .next ({ s with spc.record :=
          ⟨some a, some a, some s.dsu.time, 0, false⟩ }.answer 0x04 tag .ok []))
      ∧ (s.spc.record.avg = none → exec (.alignPeakReset tag) s = .next (s.answer 0x04 tag .ok [])))
    ∧ (s.spc.phase ≠ .align → exec (.alignPeakReset tag) s = .next (s.answer 0x04 tag .wrongPhase []))

/-- The requests that move the phase: ALIGN_END to SEEK, and on to PROVE and a bring-up round, or to SERVICE, where the
receive framer is UP (R13, R16); SITE_RESEEK to SEEK, with the receive framer restarted, through DOWN from UP or FLYWHEEL
(R7; that a restart from CONFIRM drops the peer record, so that HUNT has none (R29), is the model's inference, log 20);
PROVE_FORCE to SERVICE (R18); SITE_STOP to HALT (R8). Each with its cause, the timers stopped and the prove state
IDLE, answered OK. The run queue is taken as empty; but SITE_STOP and SITE_RESEEK in PROVE or SERVICE with a run active end
it ABORTED with cause PHASE, remove every run behind it, and leave the timers stopped and the prove state IDLE (R5, R8, R19,
R153, R159). Leaving SERVICE so makes every ACTIVE or UNFIT tenant HELD with its permit low (R8, R105). A restart may raise
REF_LOSS, and a HALT for it would move the phase again, so no response is HALT where the framer is not in HUNT already; nor
BAR where the tenants are told of. -/
def Obligations.PhaseRequestsMovePhase : Prop :=
  (∀ (s : State) (tag : Byte), s.ready → s.stu.queue = [] →
    (s.spc.phase = .align → s.lfr.rx.framer ≠ .up →
      ∃ t, exec (.alignEnd tag) s = .next t ∧ t.spc.phase = .seek ∧ t.spc.cause = .alignEnd ∧ t.spc.led = false
        ∧ t.spc.record = s.spc.record ∧ t.replies 0x03 tag .ok [])
    ∧ (s.spc.phase = .align → s.lfr.rx.framer = .up → s.stu.entriesOf .bringup = [] →
      ∃ t, exec (.alignEnd tag) s = .next t ∧ t.spc.phase = .service ∧ t.spc.left = .prove ∧ t.spc.cause = .proveEmpty
        ∧ t.spc.led = false ∧ t.spc.record = s.spc.record ∧ t.replies 0x03 tag .ok [])
    ∧ (s.spc.phase = .align → s.lfr.rx.framer = .up → s.stu.entriesOf .bringup ≠ [] → s.runsStay →
      ∃ t, exec (.alignEnd tag) s = .next t ∧ t.spc.phase = .prove ∧ t.spc.left = .seek ∧ t.spc.cause = .alignEnd
        ∧ t.spc.led = false ∧ t.spc.record = s.spc.record ∧ t.spc.prove = .round ∧ t.spc.roundNo = 1 ∧ t.roundQueued
        ∧ t.replies 0x03 tag .ok [])
    ∧ (s.spc.phase = .prove ∨ s.spc.phase = .service ∨ s.spc.phase = .recover → s.lfr.rx.framer ≠ .off →
      s.lfr.rx.framer = .hunt ∨ s.fmn.answersNever .halt →
      ∃ t, exec (.siteReseek tag) s = .next t ∧ t.spc.phase = .seek ∧ t.spc.cause = .reseekRequest
        ∧ t.spc.recover = none ∧ t.spc.retry = none ∧ t.spc.prove = .idle ∧ t.lfr.rx.framer = .hunt
        ∧ (s.lfr.rx.framer ≠ .hunt → t.lfr.rx.run = 0 ∧ t.lfr.rx.peer = none)
        ∧ (s.lfr.rx.framer = .hunt ∨ s.lfr.rx.framer = .confirm → t.lfr.counts.down = s.lfr.counts.down)
        ∧ (s.lfr.rx.framer = .up ∨ s.lfr.rx.framer = .flywheel →
          t.lfr.counts.down = s.lfr.counts.down + 1 ∧ t.lfr.rx.prof = 0 ∧ t.lfr.rx.map = {})
        ∧ (s.spc.phase = .service → s.fmn.answersNever .bar → s.tenantsHeld t)
        ∧ t.replies 0x06 tag .ok [])
    ∧ (s.spc.phase = .prove →
      ∃ t, exec (.proveForce tag) s = .next t ∧ t.spc.phase = .service ∧ t.spc.cause = .proveForce
        ∧ t.spc.retry = none ∧ t.spc.prove = .idle ∧ t.spc.roundNo = 0 ∧ t.replies 0x05 tag .ok [])
    ∧ (s.spc.phase ≠ .halt →
      ∃ t, exec (.siteStop tag) s = .next t ∧ t.spc.phase = .halt ∧ t.spc.left = s.spc.phase
        ∧ t.spc.cause = .stopRequest ∧ t.spc.recover = none ∧ t.spc.retry = none ∧ t.spc.prove = .idle
        ∧ (s.spc.phase ≠ .load → t.lfr.tx.framer = .halted) ∧ (s.spc.phase = .load → t.lfr.tx.framer = s.lfr.tx.framer)
        ∧ (s.spc.phase = .service → s.tenantsHeld t) ∧ t.replies 0x07 tag .ok []))
  ∧ ∀ (s : State) (tag : Byte) (r : Run), s.ready → s.runActive r → s.spc.phase = .prove ∨ s.spc.phase = .service →
    (∃ t, exec (.siteStop tag) s = .next t ∧ t.spc.phase = .halt ∧ t.spc.left = s.spc.phase ∧ t.spc.cause = .stopRequest
      ∧ t.spc.recover = none ∧ t.spc.retry = none ∧ t.spc.prove = .idle ∧ t.spc.roundNo = 0 ∧ t.runsStopped r .phase
      ∧ (s.spc.phase = .service → s.tenantsHeld t) ∧ t.replies 0x07 tag .ok [])
    ∧ (s.lfr.rx.framer ≠ .off → s.lfr.rx.framer = .hunt ∨ s.fmn.answersNever .halt →
      ∃ t, exec (.siteReseek tag) s = .next t ∧ t.spc.phase = .seek ∧ t.spc.left = s.spc.phase
        ∧ t.spc.cause = .reseekRequest ∧ t.spc.recover = none ∧ t.spc.retry = none ∧ t.spc.prove = .idle
        ∧ t.spc.roundNo = 0 ∧ t.lfr.rx.framer = .hunt ∧ t.runsStopped r .phase
        ∧ (s.spc.phase = .service → s.fmn.answersNever .bar → s.tenantsHeld t) ∧ t.replies 0x06 tag .ok [])

/-- On entry to SERVICE by PROVE_FORCE every HELD tenant whose port link is up and whose record is FIT becomes ACTIVE with
its permit, and every other keeps its state (R18, R103). -/
def Obligations.ServiceEntryActivatesTenants : Prop :=
  ∀ (s : State) (tag : Byte), s.ready → s.stu.queue = [] → s.spc.phase = .prove →
    ∃ t, exec (.proveForce tag) s = .next t ∧ ∀ i : Fin 4,
      let a := s.tpt.get i
      if a.state = .held ∧ a.link = true ∧ a.fit = some .fit then
        (t.tpt.get i).state = .active ∧ (t.tpt.get i).permit = true
      else (t.tpt.get i).state = a.state ∧ (t.tpt.get i).permit = a.permit

/-- IMAGE_WRITE replaces the buffer bytes from the offset on, keeps every other byte, and leaves STAGING; a write past
the end is refused with BAD_LENGTH, and one while reading or saving with BUSY (R182). -/
def Obligations.ImageWriteReplacesBytes : Prop :=
  ∀ (s : State) (tag : Byte) (off : BitVec 16) (data : Bytes), s.ready → s.spc.phase = .load → s.bufferWf →
    1 ≤ data.length → data.length ≤ 1000 →
    (s.il.state = .empty ∨ s.il.state = .staging ∨ s.il.state = .rejected → s.il.saving = false →
      (off.toNat + data.length ≤ 1024 →
        ∃ t, exec (.imageWrite tag off data) s = .next t ∧ t.il.state = .staging ∧ t.replies 0x10 tag .ok []
          ∧ ∀ a, t.il.buffer.read a =
            if off.toNat ≤ a ∧ a < off.toNat + data.length then data.getD (a - off.toNat) 0 else s.il.buffer.read a)
      ∧ (1024 < off.toNat + data.length →
        exec (.imageWrite tag off data) s = .next (s.answer 0x10 tag .badLength [])))
    ∧ (s.il.state = .reading ∨ s.il.saving = true →
      exec (.imageWrite tag off data) s = .next (s.answer 0x10 tag .busy []))

/-- IMAGE_COMMIT validates the buffer: a valid image is ACCEPTED, its LINK settings come into force and the phase leaves
LOAD; an invalid one is REJECTED with its reason and position, which the BAD_VALUE reply gives, and IMAGE is active (R180,
R183). The width of the position in that reply, 2 bytes, is the model's choice (log 12). -/
def Obligations.ImageCommitValidates : Prop :=
  ∀ (s : State) (tag : Byte), s.ready → s.spc.phase = .load → s.il.saving = false → s.fmn.rows.length = 21 →
    (s.il.state = .empty ∨ s.il.state = .staging ∨ s.il.state = .rejected) →
    (validate s.il.bytes = none →
      ∃ t, exec (.imageCommit tag) s = .next t ∧ t.il.state = .accepted ∧ t.il.source = some .commit
        ∧ t.il.buffer = s.il.buffer ∧ t.spc.phase ≠ .load ∧ t.replies 0x11 tag .ok []
        ∧ t.il.link = some (readLink ((sectionOf s.il.bytes (readDir s.il.bytes s.il.count) 1).getD [])))
    ∧ ∀ reason pos, validate s.il.bytes = some (reason, pos) →
      ∃ t, exec (.imageCommit tag) s = .next t ∧ t.il.state = .rejected ∧ t.il.reject = some (reason, pos)
        ∧ t.il.buffer = s.il.buffer ∧ t.rowActive 0
        ∧ t.replies 0x11 tag .badValue (e1 reason.code ++ e2 pos)

/-- IMAGE_SAVE with an accepted image renders the settings in force into the buffer and starts the save; during a save it
is refused with BUSY. The end of a save records DONE with the image length when the whole image was written and reads back
equal, FAILED with the bytes written otherwise, and changes no setting and no image state (R185, R186). -/
def Obligations.ImageSaveRendersAndEnds : Prop :=
  (∀ (s : State) (tag : Byte) (l : LinkSet), s.ready → s.il.state = .accepted → s.il.link = some l →
    (s.il.saving = false →
      ∃ t, exec (.imageSave tag) s = .next t ∧ t.il.saving = true ∧ t.il.state = .accepted
        ∧ t.il.buffer = Memory.ofBytes (renderImage (s.sections l)).1 ∧ t.replies 0x13 tag .ok [])
    ∧ (s.il.saving = true → exec (.imageSave tag) s = .next (s.answer 0x13 tag .busy [])))
  ∧ ∀ (s : State) (written : Nat) (back : Bytes), s.calm → s.il.saving = true → s.il.afterSave = none →
    let len := readLe (s.il.buffer.readBytes 2 2)
    let same := ∀ a, a < len → back[a]? = some (s.il.buffer.read a)
    ∃ t, exec (.saveDone written back) s = .next t
      ∧ (len ≤ written → same → t.il = { s.il with saving := false, lastSave := some (.done, len) })
      ∧ (written < len ∨ ¬ same → t.il = { s.il with saving := false, lastSave := some (.failed, min written len) })
      ∧ { t with mp := s.mp, il := s.il } = s

/-- PROFILE_CAP takes the host cap, 8 to 255 as 7; the ceiling is the least of the three terms; the reply gives them
(R49). -/
def Obligations.ProfileCapSetsCeiling : Prop :=
  ∀ (s : State) (tag v : Byte), s.ready →
    ∃ t, exec (.profileCap tag v) s = .next t ∧ t.lau.hostCap = min 7 v.toNat
      ∧ t.lau.ceiling = min (min 7 v.toNat) (min s.tlm.cap s.fmn.cap)
      ∧ t.replies 0x19 tag .ok (e1 (min 7 v.toNat) ++ e1 s.tlm.cap ++ e1 s.fmn.cap ++ e1 t.lau.ceiling)
      ∧ { t with mp := s.mp, lau := s.lau } = s

/-- PROFILE_FIX puts a fix in force, which takes the wish at once in UP and FLYWHEEL; a release gives the wish the receive
profile in force, or 0; other values are refused (R48). -/
def Obligations.ProfileFixSetsWish : Prop :=
  ∀ (s : State) (tag v : Byte), s.ready → s.spc.phase ≠ .load →
    (v.toNat ≤ 7 →
      ∃ t, exec (.profileFix tag v) s = .next t ∧ t.lau.fix = some v.toNat
        ∧ t.lau.wish = (if s.lfr.rx.framer.carries = true then v.toNat else s.lau.wish)
        ∧ t.replies 0x1A tag .ok [] ∧ { t with mp := s.mp, lau := s.lau } = s)
    ∧ (v.toNat = 255 → ∀ x, s.lau.fix = some x →
      ∃ t, exec (.profileFix tag v) s = .next t ∧ t.lau.fix = none
        ∧ t.lau.wish = (if s.lfr.rx.framer.carries = true then s.lfr.rx.prof else 0)
        ∧ t.replies 0x1A tag .ok [])
    ∧ (v.toNat = 255 → s.lau.fix = none → exec (.profileFix tag v) s = .next (s.answer 0x1A tag .ok []))
    ∧ (8 ≤ v.toNat → v.toNat ≤ 254 → exec (.profileFix tag v) s = .next (s.answer 0x1A tag .badValue []))

/-- NOTE_SEND adds the note to the service queue while it has room and is refused with NO_ROOM when it holds 8; NOTE_READ
takes the oldest note of the relay buffer, whose discarded count returns to 0 (R39, R41). -/
def Obligations.NotesQueueAndRead : Prop :=
  ∀ (s : State) (tag : Byte), s.ready →
    (∀ b, 1 ≤ b.length → b.length ≤ 32 → s.spc.phase ≠ .load →
      (s.lfr.tx.svc.length < 8 → exec (.noteSend tag b) s =
        .next ({ s with lfr.tx.svc := s.lfr.tx.svc ++ [SvcMsg.note b] }.answer 0x1B tag .ok []))
      ∧ (8 ≤ s.lfr.tx.svc.length → exec (.noteSend tag b) s = .next (s.answer 0x1B tag .noRoom [])))
    ∧ (∀ n ns, s.lfr.rx.relay = n :: ns → exec (.noteRead tag) s =
      .next ({ s with lfr.rx.relay := ns, lfr.rx.relayLost := 0 }.answer 0x1C tag .ok
        (noteReadBody (some n) ns.length s.lfr.rx.relayLost)))
    ∧ (s.lfr.rx.relay = [] → exec (.noteRead tag) s =
      .next ({ s with lfr.rx.relayLost := 0 }.answer 0x1C tag .ok (noteReadBody none 0 s.lfr.rx.relayLost)))

/-- THERMAL_ENABLE with settings in their limits enables the limiter and locks them; while locked, other settings are
refused with LOCKED and the same ones, or none, change nothing (R60). That a polarity byte other than 0 and 1 is refused
with BAD_VALUE while unlocked, and that the lock is compared before the ranges, are inferences of the model (log 27). -/
def Obligations.ThermalEnableLocks : Prop :=
  ∀ (s : State) (tag : Byte), s.ready → s.spc.phase ≠ .load →
    (s.tlm.locked = false →
      (∀ b, thermalFlagsOk b = true → (thermalSetOf b).valid = true →
        ∃ t, exec (.thermalEnable tag (some b)) s = .next t ∧ t.tlm.set = thermalSetOf b ∧ t.tlm.enabled = true
          ∧ t.tlm.locked = true ∧ t.tlm.sensor = s.tlm.sensor ∧ t.tlm.level = max t.tlm.sensor t.tlm.hotHold)
      ∧ (∀ b, thermalFlagsOk b = false ∨ (thermalSetOf b).valid = false →
        exec (.thermalEnable tag (some b)) s = .next (s.answer 0x21 tag .badValue []))
      ∧ ∃ t, exec (.thermalEnable tag none) s = .next t ∧ t.tlm.set = s.tlm.set ∧ t.tlm.enabled = true
        ∧ t.tlm.locked = true)
    ∧ (s.tlm.locked = true →
      exec (.thermalEnable tag none) s = .next (s.answer 0x21 tag .ok [])
      ∧ ∀ b, thermalFlagsOk b = true →
        exec (.thermalEnable tag (some b)) s =
          .next (s.answer 0x21 tag (if thermalSetOf b = s.tlm.set then .ok else .locked) []))

/-- TIME_SET is checked whole: with a Reference Monitor field out of range it is refused with BAD_VALUE; otherwise the
fields present take effect, the shifts clamped and the seconds held as pending (R63, R95, R199). A new priority disables
the references it leaves out, makes a DISABLED one that it names DOWN, stops the waits, and selects the first that is UP in
its order; the priority in force changes nothing (R76). A RESEEK that answered a raise of the event would take L DOWN, so
no response is RESEEK where the priority changes. -/
def Obligations.TimeSetTakesFields : Prop :=
  ∀ (s : State) (tag : Byte) (b : TimeSetBody), s.ready → s.spc.phase ≠ .load →
    (timeSetValid b s.hubInForce = false → exec (.timeSet tag b) s = .next (s.answer 0x26 tag .badValue []))
    ∧ (timeSetValid b s.hubInForce = true →
      ∃ t, exec (.timeSet tag b) s = .next t
        ∧ t.dsu.pendSec = (if timeHas b 0 = true then some b.seconds else s.dsu.pendSec)
        ∧ t.rfm.set.cable = (if timeHas b 2 = true then b.cableDelay.toNat else s.rfm.set.cable)
        ∧ t.rfm.set.ppsTol = (if timeHas b 3 = true then b.ppsTol.toNat else s.rfm.set.ppsTol)
        ∧ t.rfm.set.asym = (if timeHas b 4 = true then b.asym.toInt else s.rfm.set.asym)
        ∧ t.rfm.set.delayMax = (if timeHas b 5 = true then b.delayMax.toNat else s.rfm.set.delayMax)
        ∧ t.dsu.set.pShift = (if timeHas b 6 = true then min 15 b.pShift.toNat else s.dsu.set.pShift)
        ∧ t.dsu.set.iShift = (if timeHas b 7 = true then min 20 b.iShift.toNat else s.dsu.set.iShift)
        ∧ t.dsu.time = s.dsu.time ∧ t.dsu.steps = s.dsu.steps ∧ t.replies 0x26 tag .ok t.timeSetBody
        ∧ (timeHas b 1 = false ∨ Priority.ofCode b.priority.toNat = some s.rfm.set.priority →
          t.rfm.set.priority = s.rfm.set.priority ∧ t.rfm.g = s.rfm.g ∧ t.rfm.l = s.rfm.l ∧ t.rfm.sel = s.rfm.sel
          ∧ t.dsu.loop = s.dsu.loop ∧ t.dsu.c = s.dsu.c)
        ∧ ∀ p, timeHas b 1 = true → Priority.ofCode b.priority.toNat = some p → p ≠ s.rfm.set.priority →
          s.fmn.answersNever .reseek →
          t.rfm.set.priority = p ∧ t.rfm.sel = p.order.find? (fun r => decide ((t.rfm.get r).mode = .up))
          ∧ ∀ r : Ref,
            (r ∉ p.order → t.rfm.get r = { mode := .disabled })
            ∧ (r ∈ p.order → (s.rfm.get r).mode = .disabled → t.rfm.get r = { mode := .down })
            ∧ (r ∈ p.order → (s.rfm.get r).mode ≠ .disabled → t.rfm.get r = { s.rfm.get r with wait := none }))

/-- TENANT_BAR bars a HELD, ACTIVE or UNFIT tenant: its permit falls, its ingress queue is flushed and counted, its fitness
record is kept; it is refused for a VACANT tenant and changes nothing for a BARRED one. TENANT_UNBAR makes a BARRED tenant
HELD, and ACTIVE at once when it can be. The run queue is taken as empty (R103, R106). -/
def Obligations.TenantBarAndUnbar : Prop :=
  ∀ (s : State) (tag : Byte) (i : Fin 4), s.ready → s.stu.queue = [] → s.spc.phase ≠ .load →
    let n := BitVec.ofNat 8 i.val
    let a := s.tpt.get i
    (a.state = .held ∨ a.state = .active ∨ a.state = .unfit →
      ∃ t, exec (.tenantBar tag n) s = .next t ∧ (t.tpt.get i).state = .barred ∧ (t.tpt.get i).permit = false
        ∧ (t.tpt.get i).queue = [] ∧ (t.tpt.get i).fit = a.fit ∧ (t.tpt.get i).egress = a.egress
        ∧ (t.tpt.get i).counts.flushed = a.counts.flushed + BitVec.ofNat 32 a.queue.length
        ∧ t.replies 0x2A tag .ok [] ∧ ∀ j, j ≠ i → t.tpt.get j = s.tpt.get j)
    ∧ (a.state = .vacant → exec (.tenantBar tag n) s = .next (s.answer 0x2A tag .badValue []))
    ∧ (a.state = .barred → exec (.tenantBar tag n) s = .next (s.answer 0x2A tag .ok []))
    ∧ (a.state = .barred →
      ∃ t, exec (.tenantUnbar tag n) s = .next t ∧ t.replies 0x2B tag .ok []
        ∧ (t.tpt.get i).state =
          (if s.spc.phase = .service ∧ a.link = true ∧ a.fit = some .fit then .active else .held)
        ∧ ∀ j, j ≠ i → t.tpt.get j = s.tpt.get j)
    ∧ (a.state ≠ .barred → exec (.tenantUnbar tag n) s = .next (s.answer 0x2B tag .ok []))

/-- TENANT_SET: an instruction to vacate a HELD or BARRED tenant empties it, one for a VACANT tenant changes no state (the
model's reading of what is taken then, log 18), and one for an ACTIVE or UNFIT tenant is refused with WRONG_PHASE; an entry
that breaks a check, or that names another tenant, is refused with BAD_VALUE; an entry for a VACANT tenant comes into force,
its record FIT or LOST by the loop, and the tenant is HELD, or ACTIVE at once in SERVICE with its port up and its record FIT;
with its port down PORT_DOWN is raised (R103, R108; where no response to it reaches the phase or a tenant). The
entry of a present tenant is replaced whole, and its fitness judged at once; the tenant keeps its state but where the new
record moves it, its queues, its counts and, until the next second, its drop threshold. An ACTIVE tenant that is no longer fit loses its permit. A change of class is refused with WRONG_PHASE for
an ACTIVE or UNFIT tenant (R100 to R104, R199). The run queue is taken as empty. -/
def Obligations.TenantSetRules : Prop :=
  ∀ (s : State) (tag : Byte) (i : Fin 4), s.ready → s.stu.queue = [] → s.spc.phase ≠ .load →
    let n := BitVec.ofNat 8 i.val
    let a := s.tpt.get i
    (a.state = .held ∨ a.state = .barred →
      ∃ t, exec (.tenantSet tag n 1 none) s = .next t ∧ (t.tpt.get i).state = .vacant ∧ (t.tpt.get i).entry = none
        ∧ (t.tpt.get i).permit = false ∧ (t.tpt.get i).queue = [] ∧ (t.tpt.get i).fit = none
        ∧ (t.tpt.get i).counts.flushed = a.counts.flushed + BitVec.ofNat 32 a.queue.length
        ∧ (∀ j, j ≠ i → t.tpt.get j = s.tpt.get j) ∧ t.replies 0x29 tag .ok (t.tenantSetBody i))
    ∧ (a.state = .vacant → ∃ t, exec (.tenantSet tag n 1 none) s = .next t
      ∧ t.tpt = s.tpt.set i { a with cause := .tenantSet } ∧ t.fmn = s.fmn ∧ t.replies 0x29 tag .ok (t.tenantSetBody i))
    ∧ (a.state = .active ∨ a.state = .unfit →
      exec (.tenantSet tag n 1 none) s = .next (s.answer 0x29 tag .wrongPhase []))
    ∧ (∀ raw, raw.length = 24 → field raw 0 1 ≠ i.val →
      exec (.tenantSet tag n 0 (some raw)) s = .next (s.answer 0x29 tag .badValue []))
    ∧ (∀ raw, raw.length = 24 → (checkEntry (s.otherFixed i) raw).any (fun c => !c.2) = true →
      exec (.tenantSet tag n 0 (some raw)) s = .next (s.answer 0x29 tag .badValue []))
    ∧ ∀ raw, raw.length = 24 → field raw 0 1 = i.val → (checkEntry (s.otherFixed i) raw).all (·.2) = true →
      let e := readEntry raw
      let fits := timingFit e s.dsu.loop s.dsu.u
      (a.entry = none → a.link = true ∨ s.fmn.phaseStays (17 + i.val) →
        ∃ t, exec (.tenantSet tag n 0 (some raw)) s = .next t ∧ (t.tpt.get i).entry = some e
          ∧ (t.tpt.get i).fit = some (if fits = true then .fit else .lost)
          ∧ (t.tpt.get i).state =
            (if s.spc.phase = .service ∧ a.link = true ∧ fits = true then .active else .held)
          ∧ (t.tpt.get i).permit = decide ((t.tpt.get i).state = .active)
          ∧ (t.tpt.get i).link = a.link ∧ (t.tpt.get i).refit = none
          ∧ (a.link = false → s.fmn.rows.length = 21 → t.rowActive (17 + i.val)))
      ∧ ∀ old, a.entry = some old →
        (old.cls ≠ e.cls → a.state = .active ∨ a.state = .unfit →
          exec (.tenantSet tag n 0 (some raw)) s = .next (s.answer 0x29 tag .wrongPhase []))
        ∧ (old.cls = e.cls ∨ a.state = .held ∨ a.state = .barred →
          ∃ t, exec (.tenantSet tag n 0 (some raw)) s = .next t ∧ (t.tpt.get i).entry = some e
            ∧ (fits = true → a.fit ≠ some .lost → (t.tpt.get i).fit = a.fit)
            ∧ (fits = true → a.fit = some .lost → (t.tpt.get i).fit = some .refit ∧ (t.tpt.get i).refit = some 80000)
            ∧ (fits = false → (t.tpt.get i).fit = some .lost)
            ∧ (a.state ≠ .active ∨ fits = true ∨ a.fit = some .lost →
              (t.tpt.get i).queue = a.queue ∧ (t.tpt.get i).sendOff = a.sendOff ∧ (t.tpt.get i).egress = a.egress
              ∧ (t.tpt.get i).counts = a.counts ∧ (t.tpt.get i).thr = a.thr
              ∧ (t.tpt.get i).state = (if a.state = .held ∧ s.spc.phase = .service ∧ a.link = true
                ∧ (t.tpt.get i).fit = some .fit then .active else a.state)
              ∧ ∀ j, j ≠ i → t.tpt.get j = s.tpt.get j)
            ∧ (a.state = .active → fits = false → a.fit = some .fit → (t.tpt.get i).permit = false))

/-- TEST_RUN queues a run of the entry behind the runs there, under the next run id; on an empty queue the run becomes
active at once, a SENSOR_CHECK ending in the event; with a run of the entry there already, the request is coalesced and no
run is made. TEST_ABORT removes a queued run (here one of no round), or ends the active run, here the only one, as ABORTED
with cause HOST, which fails a round it belongs to. The reply says what was done (R147, R148, R149, R153, R155, R160; the
retry of the round by R17). -/
def Obligations.TestRunAndAbort : Prop :=
  ∀ (s : State) (tag i : Byte), s.ready →
    (∀ e r, s.stu.plan[i.toNat]? = some e → s.stu.queue = [r] → r.state = .running → r.idx ≠ i.toNat →
      s.spc.phase = .prove ∨ s.spc.phase = .service →
      ∃ t, exec (.testRun tag i) s = .next t
        ∧ t.stu.queue = [r, { idx := i.toNat, entry := e, id := nextRunId s.stu.runId, round := false }]
        ∧ t.stu.runId = nextRunId s.stu.runId
        ∧ t.replies 0x30 tag .ok (e1 (nextRunId s.stu.runId) ++ eFlag false))
    ∧ (∀ e, s.stu.plan[i.toNat]? = some e → s.stu.queue = [] → s.sha.grant = none →
      s.spc.phase = .prove ∨ s.spc.phase = .service →
      ∃ t, exec (.testRun tag i) s = .next t ∧ t.stu.runId = nextRunId s.stu.runId
        ∧ t.replies 0x30 tag .ok (e1 (nextRunId s.stu.runId) ++ eFlag false)
        ∧ (e.kind ≠ .sensorCheck → ∃ q, t.stu.queue = [q] ∧ q.idx = i.toNat ∧ q.entry = e
          ∧ q.id = nextRunId s.stu.runId ∧ q.round = false
          ∧ (e.kind = .refCross → q.state = .running)
          ∧ (e.kind = .linkPattern →
            (q.state = .waiting ∧ q.grantLeft = some 40000 ∧ t.sha.tReq = e.blocks ∧ t.sha.grant = none)
            ∨ (q.state = .starting ∧ q.grantLeft = none ∧ t.sha.grant = some e.blocks)))
        ∧ (e.kind = .sensorCheck → t.stu.queue = [] ∧ ∃ x, t.stu.log.head? = some x ∧ x.idx = i.toNat
          ∧ x.id = nextRunId s.stu.runId
          ∧ (s.tlm.last3 = (true, true, true) → x.outcome = .pass ∧ x.cause = .none)
          ∧ (s.tlm.last3 ≠ (true, true, true) → x.outcome = .fail ∧ x.cause = .invalidGate)))
    ∧ (∀ e r, s.stu.plan[i.toNat]? = some e → s.stu.queue.find? (fun r => decide (r.idx = i.toNat)) = some r →
      s.spc.phase = .prove ∨ s.spc.phase = .service →
      exec (.testRun tag i) s = .next (s.answer 0x30 tag .ok (e1 r.id ++ eFlag true)))
    ∧ (∀ r q, s.spc.phase ≠ .load → i.toNat ≤ 7 → s.stu.queue = [r, q] → r.idx ≠ i.toNat → q.idx = i.toNat →
      q.state = .queued → q.round = false →
      ∃ t, exec (.testAbort tag i) s = .next t ∧ t.stu.queue = [r] ∧ t.replies 0x31 tag .ok (e1 1))
    ∧ (∀ r, s.spc.phase ≠ .load → i.toNat ≤ 7 → s.stu.queue = [r] → r.idx = i.toNat → r.state ≠ .queued →
      ∃ t x, exec (.testAbort tag i) s = .next t ∧ t.stu.queue = [] ∧ t.stu.log.head? = some x ∧ x.idx = r.idx
        ∧ x.id = r.id ∧ x.outcome = .aborted ∧ x.cause = .host ∧ t.replies 0x31 tag .ok (e1 0)
        ∧ (r.entry.kind = .linkPattern → r.state ≠ .draining → t.sha.tReq = 0 ∧ t.sha.grant = none)
        ∧ (r.round = true → s.spc.prove = .round → s.spc.roundNo < 3 →
          t.spc.prove = .round ∧ t.spc.roundNo = s.spc.roundNo + 1 ∧ t.spc.retry = some 16000))
    ∧ (s.stu.plan[i.toNat]? = none → s.spc.phase = .prove ∨ s.spc.phase = .service →
      exec (.testRun tag i) s = .next (s.answer 0x30 tag .badValue []))
    ∧ (s.spc.phase ≠ .load → 7 < i.toNat → exec (.testAbort tag i) s = .next (s.answer 0x31 tag .badValue []))
    ∧ (s.spc.phase ≠ .load → i.toNat ≤ 7 → s.stu.queue = [] →
      exec (.testAbort tag i) s = .next (s.answer 0x31 tag .ok (e1 2)))

/-- FAULT_ACK of the row of the outstanding record clears the record and frees the ceiling of the fault cap; of any other
row it is refused, and the reply names the record's row (R172). FAULT_SET replaces each response given and the cap if
given, and leaves the items marked 0xFF; one item out of range refuses the whole (R174, R199). A raise of an inactive row is
recorded and counted, and answered by the response of its phase: latched in HALT and for NONE, masked when an outstanding
record of its rank or above stands, and taken otherwise, which writes the record, latches the row of a record it replaces
and begins the action; a raise of an active row changes nothing (R164, R166 to R171). That the rank compared for a RESEEK
which acts as NOTE is the RESEEK's is the model's choice (log 29), and so are that BAR, RESEEK and HALT wait in `work` for
the event's end (log 5), that the row of a replaced record is latched also when it is the row now taken (log 49), that an
index above 20 is refused with no row (log 61), and that the count of the second takes every raise (log 65). -/
def Obligations.FaultAckAndSet : Prop :=
  (∀ (s : State) (tag : Byte), s.ready →
    (∀ (r : Byte) o, s.fmn.out = some o → o.row = r.toNat → r.toNat ≤ 20 →
      ∃ t, exec (.faultAck tag r) s = .next t ∧ t.fmn = { s.fmn with out := none, capOn := false }
        ∧ t.lau.ceiling = min s.lau.hostCap (min s.tlm.cap 7) ∧ t.replies 0x39 tag .ok []
        ∧ { t with mp := s.mp, lau := s.lau, fmn := s.fmn } = s)
    ∧ (∀ (r : Byte) o, s.fmn.out = some o → o.row ≠ r.toNat → r.toNat ≤ 20 →
      exec (.faultAck tag r) s = .next (s.answer 0x39 tag .badValue (1 :: e1 o.row)))
    ∧ (∀ r : Byte, s.fmn.out = none → r.toNat ≤ 20 →
      exec (.faultAck tag r) s = .next (s.answer 0x39 tag .badValue [0, 0]))
    ∧ (∀ r : Byte, 20 < r.toNat → exec (.faultAck tag r) s = .next (s.answer 0x39 tag .badValue []))
    ∧ (∀ (cap : Byte) (b : Bytes), s.spc.phase ≠ .load → b.length = 24 → faultSetOk b cap = false →
      exec (.faultSet tag b cap) s = .next (s.answer 0x3B tag .badValue []))
    ∧ ∀ (cap : Byte) (b : Bytes), s.spc.phase ≠ .load → b.length = 24 → faultSetOk b cap = true →
      ∃ t, exec (.faultSet tag b cap) s = .next t
        ∧ t.fmn.capSet = (if cap = 0xFF then s.fmn.capSet else cap.toNat)
        ∧ (∀ k p, s.fmn.table[k]? = some p → k < 12 → t.fmn.table[k]? = some
          ⟨newResponse p.bringup (b.getD (2 * k) 0), newResponse p.service (b.getD (2 * k + 1) 0)⟩)
        ∧ t.fmn.rows = s.fmn.rows ∧ t.fmn.out = s.fmn.out
        ∧ t.lau.ceiling = min s.lau.hostCap (min s.tlm.cap t.fmn.cap))
  ∧ ∀ (s : State) (x : Raise) (pair : ResponsePair), s.fmn.rows.length = 21 → x.row < 21 →
    s.fmn.table[rowClass x.row]? = some pair →
    let early := x.phase = .load ∨ x.phase = .align ∨ x.phase = .seek
    let resp := if early ∨ x.phase = .prove then pair.bringup else pair.service
    let acted := if resp = .reseek ∧ early then .note else resp
    let t := s.raise x
    let a := s.fmn.row x.row
    let b := t.fmn.row x.row
    (a.active = true → t = s)
    ∧ (a.active = false →
      (b.active = true ∧ b.detail = x.detail ∧ b.time = some s.dsu.time ∧ b.count = a.count + 1
        ∧ t.fmn.secRaises = s.fmn.secRaises + 1)
      ∧ (x.phase = .halt ∨ resp = .none → b.latched = true ∧ b.masked = a.masked ∧ b.done = some .latched
        ∧ t.fmn.out = s.fmn.out ∧ t.lau = s.lau ∧ t.work = s.work)
      ∧ (x.phase ≠ .halt → resp ≠ .none →
        (∀ o, s.fmn.out = some o → resp.rank ≤ o.rank → b.latched = true ∧ b.masked = true ∧ b.done = some .masked
          ∧ t.fmn.out = s.fmn.out ∧ t.lau = s.lau ∧ t.work = s.work)
        ∧ ((∀ o, s.fmn.out = some o → o.rank < resp.rank) →
          t.fmn.out = some ⟨x.row, acted, acted.rank, s.dsu.time, x.phase⟩
          ∧ b.done = some (if acted = resp then .taken else .takenAsNote)
          ∧ (∀ o, s.fmn.out = some o → o.row < 21 → (t.fmn.row o.row).latched = true)
          ∧ (acted = .cap → t.fmn.capOn = true ∧ t.lau.ceiling = min s.lau.hostCap (min s.tlm.cap s.fmn.capSet))
          ∧ (acted = .note → t.work = s.work ∧ t.lau = s.lau)
          ∧ (acted = .bar → t.work.acts = s.work.acts ++ [.bar (rowTenant x.row)])
          ∧ (acted = .reseek → t.work.acts = s.work.acts ++ [.reseek])
          ∧ (acted = .halt → t.work.acts = s.work.acts ++ [.halt]))))

/-- FAULT_CLEAR clears the latched and masked markers of each row named, in every phase, and changes no condition, no
record and no cap; the reply gives the rows as they now stand; a set with no row, or with a row above 20, is refused with
BAD_VALUE and clears nothing (R173). That the refused reply gives the 21 rows too is an inference of the model (log 19). -/
def Obligations.FaultClearClearsMarkers : Prop :=
  ∀ (s : State) (tag : Byte) (rows : BitVec 24), s.ready →
    (0 < rows.toNat → rows.toNat < 2 ^ 21 →
      ∃ t, exec (.faultClear tag rows) s = .next t
        ∧ (∀ r, t.fmn.rows[r]? = (s.fmn.rows[r]?).map (fun w =>
          if rows.toNat.testBit r = true then { w with latched := false, masked := false } else w))
        ∧ t.fmn.out = s.fmn.out ∧ t.fmn.capOn = s.fmn.capOn ∧ t.fmn.cap = s.fmn.cap
        ∧ t.replies 0x3A tag .ok t.faultRowsBytes ∧ { t with mp := s.mp, fmn := s.fmn } = s)
    ∧ (rows.toNat = 0 ∨ 2 ^ 21 ≤ rows.toNat →
      exec (.faultClear tag rows) s = .next (s.answer 0x3A tag .badValue s.faultRowsBytes))

/-! ### Reset, restart, the EEPROM -/

/-- RESET from any state, with HOT_N not asserted, puts every block at its reset values; the input lines and the commands
that wait are outside the part (R1, R21, R52, R62, R78, R97, R117, R131, R163, R176, R187, R201; the levels of the lines
are the model's, log 3). With HOT_N asserted the hot hold is 2 and THERMAL is active. -/
def Obligations.ResetPutsResetValues : Prop :=
  ∀ (s : State) (b1 b0 : Bool),
    (s.pins.hotN = true → exec (.reset b1 b0) s = .next
      { State.reset with
        pending := s.pending, pins := { s.pins with baudSel1 := b1, baudSel0 := b0 }, mp.baud := (b1, b0)
        tpt := Four.of (fun i => { link := (s.tpt.get i).link }) })
    ∧ (s.pins.hotN = false → ∃ t, exec (.reset b1 b0) s = .next t ∧ t.tlm.hotHold = 2 ∧ t.tlm.level = 2
      ∧ t.rowActive 5 ∧ t.lau.ceiling = 2 ∧ t.spc.phase = .load ∧ t.dsu = {} ∧ t.mp.baud = (b1, b0))

/-- SITE_RESTART in HALT keeps its options for the moment its reply has left the line, and refuses option bits above the
lowest two. The restart without KEEP_TIME, taken then, gives the reset values, keeps the line rate, and reads the EEPROM
again unless NO_IMAGE (R9, R187, R190, R199, R201; here with no save in progress and HOT_N not asserted). -/
def Obligations.SiteRestartPutsRestartValues : Prop :=
  (∀ (s : State) (tag o : Byte), s.ready → s.spc.phase = .halt →
    (o.toNat ≤ 3 → exec (.siteRestart tag o) s = .next { s with mp := { s.mp.answered 0x08 tag .ok [] true with
      restart := some ⟨o.toNat.testBit 0, o.toNat.testBit 1⟩ } })
    ∧ (3 < o.toNat → exec (.siteRestart tag o) s = .next (s.answer 0x08 tag .badValue [])))
  ∧ ∀ (s : State) (noImage : Bool), s.pins.hotN = true → s.il.saving = false → s.mp.restartDue = true →
    s.mp.restart = some ⟨false, noImage⟩ →
    exec .restart s = .next
      { State.reset with
        pending := s.pending, pins := s.pins, mp.baud := s.mp.baud
        il.state := if noImage then .empty else .reading
        tpt := Four.of (fun i => { link := (s.tpt.get i).link }) }

/-- A restart with KEEP_TIME keeps site time, c and I or the ring's mean, the holdover clock and the step count by the table
of R98, and the loop is in HOLDOVER or FREE after it. That U is the default U_BASE of 50 ns after an entry to HOLDOVER from
TRACK, the settings being reset before the entry, is an inference of the model (log 22). -/
def Obligations.RestartKeepsTime : Prop :=
  ∀ (s : State) (noImage : Bool), s.mp.restartDue = true → s.mp.restart = some ⟨true, noImage⟩ →
    ∃ t, exec .restart s = .next t
      ∧ t.dsu.time = s.dsu.time ∧ t.dsu.residue = s.dsu.residue ∧ t.dsu.ring = s.dsu.ring ∧ t.dsu.steps = s.dsu.steps
      ∧ t.dsu.pendStep = none ∧ t.dsu.pendSec = none ∧ t.dsu.acq = 0 ∧ t.dsu.trk = 0 ∧ t.dsu.p = 0
      ∧ t.dsu.report = none ∧ t.dsu.set = {}
      ∧ (s.dsu.loop = .track ∨ s.dsu.loop = .acquire → s.dsu.ring ≠ [] →
        t.dsu.loop = .holdover ∧ t.dsu.hclock = 0 ∧ t.dsu.c = s.dsu.ringMean ∧ t.dsu.i = -s.dsu.ringMean
        ∧ t.dsu.u = (if s.dsu.loop = .track then 50 else Config.uSat))
      ∧ (s.dsu.loop = .track ∨ s.dsu.loop = .acquire → s.dsu.ring = [] →
        t.dsu.loop = .free ∧ t.dsu.c = s.dsu.c ∧ t.dsu.i = s.dsu.i ∧ t.dsu.u = Config.uSat)
      ∧ (s.dsu.loop = .holdover → t.dsu.loop = .holdover ∧ t.dsu.hclock = s.dsu.hclock ∧ t.dsu.c = s.dsu.c
        ∧ t.dsu.i = s.dsu.i ∧ t.dsu.u = s.dsu.u)
      ∧ (s.dsu.loop = .free → t.dsu.loop = .free ∧ t.dsu.c = s.dsu.c ∧ t.dsu.i = s.dsu.i ∧ t.dsu.u = Config.uSat)

/-- The end of the EEPROM read: a device that does not answer, or gives another signature, leaves EMPTY and no fault; an
image that fails its checks is REJECTED and raises IMAGE, one whose length is out of range with LENGTH once its signature
holds; a valid one is ACCEPTED and the phase leaves LOAD (R179 to R181). That every byte the read does not bring is 0,
whatever the buffer held, is the model's choice (log 21; R187 has the buffer all 0 before a read). -/
def Obligations.EepromReadEnds : Prop :=
  ∀ s : State, s.calm → s.il.state = .reading → s.spc.phase = .load → s.fmn.rows.length = 21 →
    (∀ b, ∃ t, exec (.eepromReadDone false b) s = .next t ∧ t.il.state = .empty ∧ t.il.answered = some false
      ∧ t.spc.phase = .load ∧ t.fmn = s.fmn)
    ∧ (∀ b, field b 0 1 ≠ 0x6B → ∃ t, exec (.eepromReadDone true b) s = .next t ∧ t.il.state = .empty
      ∧ t.il.answered = some true ∧ t.il.buffer = Memory.ofBytes (b.take 5) ∧ t.fmn = s.fmn)
    ∧ (∀ b, field b 0 1 = 0x6B → field b 2 2 < 38 ∨ 1024 < field b 2 2 →
      ∃ t x, exec (.eepromReadDone true b) s = .next t ∧ t.il.state = .rejected ∧ t.il.reject = some x
        ∧ x = (if field b 1 1 = 1 then (.length, 2) else (.signature, 1)) ∧ t.il.buffer = Memory.ofBytes (b.take 5)
        ∧ t.rowActive 0)
    ∧ ∀ b, field b 0 1 = 0x6B → 38 ≤ field b 2 2 → field b 2 2 ≤ 1024 →
      let held := Memory.ofBytes (b.take (field b 2 2))
      (validate (held.readBytes 0 1024) = none → ∃ t, exec (.eepromReadDone true b) s = .next t
        ∧ t.il.state = .accepted ∧ t.il.source = some .eeprom ∧ t.il.buffer = held ∧ t.spc.phase ≠ .load)
      ∧ ∀ reason pos, validate (held.readBytes 0 1024) = some (reason, pos) →
        ∃ t, exec (.eepromReadDone true b) s = .next t ∧ t.il.state = .rejected ∧ t.il.reject = some (reason, pos)
          ∧ t.rowActive 0

/-- The image buffer keeps its canonical form, so that equal buffers are equal data (the model's form of R187's 1024
bytes). -/
def Obligations.BufferStaysCanonical : Prop := ∀ s s' : State, s.bufferWf → step s = .next s' → s'.bufferWf

/-! ### The link -/

/-- With the transmit framer OFF nothing is built. Otherwise every frame built has a 48-byte header and service block with
their CRCs, the transmit frame number of the frame, and 62 carriage blocks of the profile's size, each labelled by the
owner the layout gives its position in the map in force; under carriage hold every block is IDLE and zero (chapter 2.1, R1,
R20, R32, R133). The frame agrees with the state as the event leaves it, also where a HALT or a RESEEK is taken while the
frame is built: the model's choice (log 41). The run queue is within its bound (R147, which QueuesStayBounded says every step
keeps). The header's fields are those of their owners as the event leaves them (R22; that the next profile is 0
while no switch is pending is the model's choice, log 42, and so is the hold modulo 2^32, log 32). With no run in the queue,
the transmit framer moves by the fallback condition: from NORMAL to FALLBACK, with P0, the base map and nothing pending in
that frame, and back (R29, R30); the first frame of HALTED discards the same way (R21); and in NORMAL a pending switch is
carried, counts down and takes effect, and with none pending the scheduling check makes the switch of R50 (R27). -/
def Obligations.FrameBuiltByMap : Prop :=
  (∀ (s : State) (hold : Bool), s.lineBusy → s.lfr.tx.framer = .off → s.stu.queue = [] → s.lfr.tx.periodDue = false →
    s.stu.lateRelease = false →
    exec (.txFrameBuild hold) s = .next { s with pins.carriageHold := hold, lfr.tx.due := false })
  ∧ (∀ (s : State) (hold : Bool), s.calm → s.runsBounded → s.lfr.tx.framer ≠ .off →
    ∃ t f, exec (.txFrameBuild hold) s = .next t ∧ t.lfr.tx.out = some f
      ∧ crcOk f.header = true ∧ crcOk f.service = true ∧ field f.header 5 2 = s.lfr.tx.frameNo.toNat
      ∧ t.lfr.tx.frameNo = s.lfr.tx.frameNo + 1 ∧ f.profile = t.lfr.tx.prof ∧ f.blocks.length = 62
      ∧ (∀ b ∈ f.blocks, b.label.length = 4 ∧ b.data.length = blockBytes f.profile)
      ∧ (hold = false → ∀ k b, f.blocks[k]? = some b →
        bits (field b.label 0 1) 0 4 = (t.lfr.tx.map.counts.owner (k + 2)).code)
      ∧ (hold = true → ∀ b ∈ f.blocks, b = idleBlock (blockBytes f.profile))
      ∧ (let x := t.lfr.tx
        let rx := t.lfr.rx
        let counts := fun c : MapCounts => e1 c.test ++ e1 c.ten.t0 ++ e1 c.ten.t1 ++ e1 c.ten.t2 ++ e1 c.ten.t3
        let echo := if rx.framer = .confirm ∨ rx.framer = .up ∨ rx.framer = .flywheel then rx.lastGood else none
        let receive := if rx.framer = .confirm then 1 else if rx.framer = .up then 2 else if rx.framer = .flywheel then 3 else 0
        slice f.header 0 2 = [0xA7, 0]
        ∧ slice f.header 2 2 = le 2 ((t.il.link.map (·.linkId.toNat)).getD 0)
        ∧ slice f.header 4 1 = e1 (((t.il.link.map (·.hub)).getD false).toNat + 2 * receive + 8 * x.fallback.toNat
          + 16 * (decide (x.framer = .halted)).toNat + 32 * echo.isSome.toNat + 64 * hold.toNat)
        ∧ slice f.header 7 1 = e1 x.prof
        ∧ slice f.header 8 1 = e1 (match x.pend with
          | some w => w.target + 8 * w.count
          | none => 0)
        ∧ slice f.header 9 1 = e1 t.lau.wish ∧ slice f.header 10 1 = e1 x.map.ver
        ∧ slice f.header 11 2 = (match x.mpend with
          | some p => e1 p.ver ++ e1 p.count
          | none => [0, 0])
        ∧ slice f.header 13 5 = counts x.map.counts
        ∧ slice f.header 18 5 = (match x.mpend with
          | some p => counts p.counts
          | none => [0, 0, 0, 0, 0])
        ∧ slice f.header 23 1 = e1 t.dsu.loop.code
        ∧ slice f.header 24 2 = le 2 (min 65535 (roundDiv t.dsu.u 16).toNat)
        ∧ slice f.header 26 8 = eTime t.dsu.time
        ∧ slice f.header 34 12 = (match echo with
          | some g => eTime g.sent ++ leInt 4 (timeDiff t.dsu.time g.arrival)
          | none => List.replicate 12 0)))
  ∧ ∀ (s : State) (hold : Bool), s.calm → s.stu.queue = [] →
    let x := s.lfr.tx
    (s.fallbackCond = true ↔ (s.lfr.rx.framer ≠ .up ∧ s.lfr.rx.framer ≠ .flywheel)
      ∨ ∀ p, s.lfr.rx.peer = some p → p.state < 2 ∨ p.halted = true)
    ∧ (x.framer = .normal → s.fallbackCond = true → ∃ t, exec (.txFrameBuild hold) s = .next t
      ∧ t.lfr.tx.framer = .fallback ∧ t.lfr.tx.fallback = true ∧ t.lfr.tx.prof = 0 ∧ t.lfr.tx.map = {}
      ∧ t.lfr.tx.pend = none ∧ t.lfr.tx.mpend = none)
    ∧ (x.framer = .fallback → x.pend = none → x.mpend = none → ∃ t, exec (.txFrameBuild hold) s = .next t
      ∧ t.lfr.tx.framer = (if s.fallbackCond = true then .fallback else .normal)
      ∧ t.lfr.tx.fallback = (if s.fallbackCond = true then x.fallback else false)
      ∧ t.lfr.tx.prof = x.prof ∧ t.lfr.tx.map = x.map ∧ t.lfr.tx.pend = none ∧ t.lfr.tx.mpend = none)
    ∧ (x.framer = .halted → ∃ t, exec (.txFrameBuild hold) s = .next t ∧ t.lfr.tx.framer = .halted
      ∧ t.lfr.tx.fallback = s.fallbackCond ∧ t.lfr.tx.haltDue = false
      ∧ (x.haltDue = true → t.lfr.tx.prof = 0 ∧ t.lfr.tx.map = {} ∧ t.lfr.tx.pend = none ∧ t.lfr.tx.mpend = none))
    ∧ (x.framer = .normal → s.fallbackCond = false → ∃ t, exec (.txFrameBuild hold) s = .next t
      ∧ t.lfr.tx.framer = .normal
      ∧ (∀ w, x.pend = some w → w.carried = false →
        t.lfr.tx.pend = some { w with carried := true } ∧ t.lfr.tx.prof = x.prof)
      ∧ (∀ w, x.pend = some w → w.carried = true → w.count ≠ 1 →
        t.lfr.tx.pend = some { w with count := w.count - 1 } ∧ t.lfr.tx.prof = x.prof)
      ∧ (∀ w, x.pend = some w → w.carried = true → w.count = 1 → t.lfr.tx.pend = none ∧ t.lfr.tx.prof = w.target)
      ∧ (x.pend = none → x.switching = true → t.lfr.tx.pend = none ∧ t.lfr.tx.prof = x.prof)
      ∧ ∀ p w, x.pend = none → x.switching = false → s.lfr.rx.peer = some p → p.wish = some w →
        let target := min w (min s.lau.ceiling (x.prof + 1))
        t.lfr.tx.prof = x.prof ∧ t.lfr.tx.pend = (if target = x.prof then none else some ⟨target, 8, true⟩))

/-- In NORMAL, while the fallback condition does not hold, a pending profile switch whose last frame carried countdown 1
takes effect; so does a pending map, with the profile it was computed for, and a STARTING run whose grant it carries is
RUNNING (R27, R134, R150). -/
def Obligations.SwitchesTakeEffect : Prop :=
  (∀ (s : State) (w : TxSwitch), s.calm → s.lfr.tx.framer = .normal → s.fallbackCond = false →
    s.lfr.tx.pend = some w → w.carried = true → w.count = 1 →
    ∃ t, exec .profileSwitchFrame s = .next t ∧ t.lfr.tx.prof = w.target ∧ t.lfr.tx.pend = none
      ∧ t.lfr.tx.map = s.lfr.tx.map ∧ t.lfr.rx = s.lfr.rx ∧ t.tpt = s.tpt ∧ t.dsu = s.dsu)
  ∧ ∀ (s : State) (p : TxPendMap), s.calm → s.lfr.tx.framer = .normal → s.fallbackCond = false →
    s.lfr.tx.mpend = some p → p.carried = true → p.count = 1 →
    ∃ t, exec .mapSwitchFrame s = .next t ∧ t.lfr.tx.map = ⟨p.ver, p.counts, some p.prof⟩ ∧ t.lfr.tx.mpend = none
      ∧ t.lfr.tx.prof = s.lfr.tx.prof
      ∧ ∀ r, s.stu.queue = [r] → r.state = .starting → s.sha.grant = some p.counts.test →
        t.stu.queue = [{ r with state := .running }]

/-- A slot without a good header moves the receive framer by the table of R24: CONFIRM falls to HUNT, UP goes to FLYWHEEL,
FLYWHEEL counts on, and DOWN comes at 8. The slot is counted, as missing or, where the header fails its CRC or carries
another link id, as bad, and the frame number counts on. While the framer is UP or FLYWHEEL after the slot, the records are
counted down through it: at countdown 1 the pending profile and the pending map come into force, and above it the countdown
falls (R23, R24, R28, R141). A MAP_SLIP raise by the blocks of such a frame, answered with RESEEK, would move the framer
again, so it is ruled out where blocks are read, and with it BAR, which R165 lets no row but a tenant's be answered with. -/
def Obligations.LostHeaderMovesFramer : Prop :=
  (∀ (s : State) (f : RxFrame), s.calm → s.rxQuiet → f.wellFormed = true → s.lfr.rx.framer ≠ .off →
    s.lfr.rx.framer ≠ .down →
    crcOk f.header = false ∨ (∃ l, s.il.link = some l ∧ (parseHeader f.header).linkId ≠ l.linkId.toNat) →
    s.lfr.rx.framer = .hunt ∨ s.lfr.rx.framer = .confirm ∨ s.fmn.slipStays →
    ∃ t, exec (.rxFrameReceived f) s = .next t ∧ t.lfr.counts.bad = s.lfr.counts.bad + 1
      ∧ t.lfr.rx.frameNo = s.lfr.rx.frameNo + 1 ∧ t.lfr.counts.good = s.lfr.counts.good
      ∧ s.lfr.rx.headerLost t.lfr.rx
      ∧ (s.lfr.rx.framer = .up ∨ (s.lfr.rx.framer = .flywheel ∧ s.lfr.rx.run + 1 < 8) → s.lfr.rx.countedDown t.lfr.rx))
  ∧ ∀ s : State, s.calm → s.rxQuiet → s.lfr.rx.framer ≠ .off → s.lfr.rx.framer ≠ .down →
    ∃ t, exec .rxHeaderMissing s = .next t
      ∧ t.lfr.counts.missing = s.lfr.counts.missing + 1 ∧ t.lfr.rx.frameNo = s.lfr.rx.frameNo + 1
      ∧ t.lfr.counts.good = s.lfr.counts.good
      ∧ s.lfr.rx.headerLost t.lfr.rx
      ∧ (s.lfr.rx.framer = .up ∨ (s.lfr.rx.framer = .flywheel ∧ s.lfr.rx.run + 1 < 8) → s.lfr.rx.countedDown t.lfr.rx)

/-- A good header moves the framer by the table of R24: HUNT and CONFIRM to CONFIRM, the sixteenth and FLYWHEEL to UP, and UP
stays (that the run counter is 0 after the sixteenth is the model's choice, log 43). It gives the receive side its frame
number, and sets the peer record and the stamps of the latest good header (R22 to R26). In UP and FLYWHEEL, as the framer
is once it has moved (the model's choice for the sixteenth, log 51), the 62 carriage blocks are read, none of them under the peer's hold (R33; that these are then
counted, and none under the hold, is the model's inference, log 15), and each block is handled by its label and the owner
of its position (R34 to R37). The service block is taken or discarded (R40, R41), and a TEST_REPORT counts into the run it
names, or as stale (R152; stated for a frame that leaves the framer
in CONFIRM; that a note's arrival is site time at the event is the model's choice, log 34). A MAP_SLIP raise answered with
RESEEK would move the framer again, so it is ruled out where the framer is in UP, and with it BAR, which R165 lets no row but
a tenant's be answered with. -/
def Obligations.GoodHeaderMovesFramer : Prop :=
  (∀ (s : State) (f : RxFrame) (h : Header), s.calm → s.rxQuiet → f.wellFormed = true → s.classify f = .good h →
    (s.lfr.rx.framer = .hunt ∨ (s.lfr.rx.framer = .confirm ∧ s.lfr.rx.run + 1 < 16)) →
    let kind := field f.service 0 1
    let len := field f.service 1 1
    let whole := f.serviceBad = false ∧ crcOk f.service = true
    ∃ t, exec (.rxFrameReceived f) s = .next t
      ∧ t.lfr.rx.framer = .confirm
      ∧ t.lfr.rx.run = (if s.lfr.rx.framer = .hunt then 1 else s.lfr.rx.run + 1)
      ∧ t.lfr.counts.good = s.lfr.counts.good + 1 ∧ t.lfr.rx.frameNo = BitVec.ofNat 16 h.frameNo
      ∧ t.lfr.rx.lastGood = some ⟨h.sent, f.arrival⟩
      ∧ (∃ p, t.lfr.rx.peer = some p ∧ p.state = h.state ∧ p.halted = h.halted ∧ p.hold = h.hold)
      ∧ (h.fieldsOk = true → t.lfr.rx.prof = h.prof ∧ t.lfr.rx.map = ⟨h.ver, h.cur⟩)
      ∧ t.tpt = s.tpt ∧ t.lfr.counts.blocksRead = s.lfr.counts.blocksRead
      ∧ ((¬ whole ∨ 3 < kind ∨ (kind = 0 ∧ len ≠ 0) ∨ (kind = 1 ∧ len ≠ 18) ∨ (kind = 2 ∧ len ≠ 7)
          ∨ (kind = 3 ∧ (len = 0 ∨ 32 < len))) →
        t.lfr.counts.discardedService = s.lfr.counts.discardedService + 1 ∧ t.lfr.rx.relay = s.lfr.rx.relay
          ∧ t.stu = s.stu)
      ∧ (whole → kind = 0 → len = 0 → t.lfr.counts.discardedService = s.lfr.counts.discardedService
        ∧ t.lfr.rx.relay = s.lfr.rx.relay ∧ t.stu = s.stu)
      ∧ (whole → kind = 1 → len = 18 → t.stu.chk.armed = true ∧ t.stu.chk.id = field f.service 2 1
        ∧ t.stu.chk.mask = slice f.service 3 16 ∧ t.stu.chk.blocks = field f.service 19 1 ∧ t.stu.chk.window = 0
        ∧ t.stu.chk.slots = 0 ∧ t.stu.chk.checked = 0 ∧ t.stu.chk.bad = 0 ∧ t.stu.chk.seen = false
        ∧ t.stu.chk.empty = 0 ∧ t.stu.chk.starts = s.stu.chk.starts + 1)
      ∧ (whole → kind = 2 → len = 7 →
        (s.stu.queue = [] → t.stu.stale = s.stu.stale + 1)
        ∧ ∀ r rs, s.stu.queue = r :: rs → r.entry.kind = .linkPattern → r.id = field f.service 2 1 → r.state = .running →
          t.stu.stale = s.stu.stale ∧ t.stu.queue = { r with
            fig.checked := r.fig.checked + field f.service 3 2, fig.bad := r.fig.bad + field f.service 5 2
            fig.reports := r.fig.reports + 1 } :: rs)
      ∧ (whole → kind = 3 → 1 ≤ len → len ≤ 32 →
        (s.lfr.rx.relay.length < 4 →
          t.lfr.rx.relay = s.lfr.rx.relay ++ [⟨slice f.service 2 len, s.dsu.time⟩]
          ∧ t.lfr.rx.relayLost = s.lfr.rx.relayLost)
        ∧ (4 ≤ s.lfr.rx.relay.length → t.lfr.rx.relay = s.lfr.rx.relay
          ∧ t.lfr.rx.relayLost = min 255 (s.lfr.rx.relayLost + 1))))
  ∧ (∀ (s : State) (f : RxFrame) (h : Header), s.calm → s.rxQuiet → f.wellFormed = true → s.classify f = .good h →
    ((s.lfr.rx.framer = .confirm ∧ s.lfr.rx.run + 1 = 16) ∨ s.lfr.rx.framer = .up ∨ s.lfr.rx.framer = .flywheel) →
    ∃ t, exec (.rxFrameReceived f) s = .next t
      ∧ t.lfr.counts.good = s.lfr.counts.good + 1 ∧ t.lfr.rx.lastGood = some ⟨h.sent, f.arrival⟩
      ∧ t.lfr.rx.frameNo = BitVec.ofNat 16 h.frameNo
      ∧ t.lfr.counts.blocksRead = (if h.hold = true then s.lfr.counts.blocksRead else s.lfr.counts.blocksRead + 62)
      ∧ (h.hold = true → t.tpt = s.tpt ∧ t.lfr.counts.mismatch = s.lfr.counts.mismatch
        ∧ t.lfr.counts.uncorrectable = s.lfr.counts.uncorrectable
        ∧ t.lfr.counts.malformedLabel = s.lfr.counts.malformedLabel)
      ∧ (h.hold = true ∨ s.fmn.slipStays →
        t.lfr.rx.framer = .up ∧ t.lfr.rx.run = (if s.lfr.rx.framer = .up then s.lfr.rx.run else 0)
        ∧ t.lfr.rx.upDue = (if s.lfr.rx.framer = .up then none else some (decide (s.lfr.rx.framer = .confirm)))
        ∧ (∃ p, t.lfr.rx.peer = some p ∧ p.state = h.state ∧ p.halted = h.halted ∧ p.hold = h.hold)
        ∧ (h.fieldsOk = true → t.lfr.rx.prof = h.prof ∧ t.lfr.rx.map = ⟨h.ver, h.cur⟩)))
  ∧ ∀ (s : State) (bb q : Nat) (b : RxBlock),
    let o := s.lfr.rx.map.counts.owner q
    let n := s.lfr.rx.frameNo.toNat
    let l := readLabel b.label
    let t := s.takeBlock bb q b
    let gap := (∀ i, o = .tenant i → t.tpt = s.tpt.set i (s.tpt.get i).gap) ∧ ((∀ i, o ≠ .tenant i) → t.tpt = s.tpt)
    t.lfr.counts.blocksRead = s.lfr.counts.blocksRead + 1
    ∧ (b.uncorrectable = true → t.lfr.counts.uncorrectable = s.lfr.counts.uncorrectable + 1 ∧ gap
      ∧ t.stu.chk = (if o = .test then s.stu.chk.take bb n q none else s.stu.chk))
    ∧ (b.uncorrectable = false → l.owner ≠ o.code →
      t.lfr.counts.mismatch = s.lfr.counts.mismatch + 1 ∧ t.lfr.rx.secMismatch = s.lfr.rx.secMismatch + 1 ∧ gap
      ∧ t.stu.chk = s.stu.chk
      ∧ (s.lfr.rx.secMismatch + 1 = 16 → s.fmn.rows.length = 21 → t.rowActive 4)
      ∧ (s.lfr.rx.secMismatch + 1 ≠ 16 → t.fmn = s.fmn))
    ∧ (b.uncorrectable = false → l.owner = o.code → (bb < l.fill ∨ (l.start = true ∧ l.fill ≤ l.offset)) →
      t.lfr.counts.malformedLabel = s.lfr.counts.malformedLabel + 1 ∧ gap ∧ t.stu.chk = s.stu.chk)
    ∧ (b.uncorrectable = false → l.owner = o.code → l.fill ≤ bb → (l.start = false ∨ l.offset < l.fill) →
      (∀ i, o = .tenant i → t.tpt = s.tpt.set i
        ((s.tpt.get i).block (b.data.take l.fill) (if l.start = true then some l.offset else none)))
      ∧ (o = .test → t.stu.chk = s.stu.chk.take bb n q (some (l.fill, b.data)) ∧ t.tpt = s.tpt)
      ∧ (o = .idle → t = { s with lfr.counts.blocksRead := s.lfr.counts.blocksRead + 1 }))

/-- An entry to UP clears LINK_LOSS. In RECOVER it brings the site back to SERVICE with cause LINK_UP; in SEEK it brings it
to PROVE with cause LINK_UP, ROUND 1 and a bring-up round asked for, or, with no BRINGUP entry in the plan, through PROVE to
SERVICE with cause PROVE_EMPTY; in every other phase it moves nothing (R4, R6, R16, R25, R159). The run queue is taken as
empty. -/
def Obligations.EntryToUpMovesPhase : Prop :=
  ∀ (s : State) (fc : Bool), s.calm → s.stu.queue = [] → s.lfr.rx.upDue = some fc → s.fmn.rows.length = 21 →
    (s.spc.phase = .recover → ∃ t, exec .rxFramerUp s = .next t ∧ t.spc.phase = .service ∧ t.spc.cause = .linkUp
      ∧ t.spc.recover = none ∧ t.lfr.rx.upDue = none ∧ (t.fmn.row 1).active = false)
    ∧ (s.spc.phase = .seek → s.stu.entriesOf .bringup = [] →
      ∃ t, exec .rxFramerUp s = .next t ∧ t.spc.phase = .service ∧ t.spc.cause = .proveEmpty ∧ t.spc.left = .prove
        ∧ t.lfr.rx.upDue = none ∧ (t.fmn.row 1).active = false)
    ∧ (s.spc.phase = .seek → s.stu.entriesOf .bringup ≠ [] → s.runsStay →
      ∃ t, exec .rxFramerUp s = .next t ∧ t.spc.phase = .prove ∧ t.spc.cause = .linkUp ∧ t.spc.left = .seek
        ∧ t.spc.prove = .round ∧ t.spc.roundNo = 1 ∧ t.spc.retry = none ∧ t.roundQueued ∧ t.lfr.rx.upDue = none
        ∧ (t.fmn.row 1).active = false)
    ∧ (s.spc.phase ≠ .recover → s.spc.phase ≠ .seek → ∃ t, exec .rxFramerUp s = .next t ∧ t.spc = s.spc
      ∧ t.stu = s.stu ∧ t.tpt = s.tpt ∧ t.lfr.rx.upDue = none ∧ (t.fmn.row 1).active = false)

/-- A DOWN drops everything the receive side holds of the peer, counts, ends in HUNT, and in PROVE, SERVICE or RECOVER
raises LINK_LOSS with the DOWN count (R24, R25, R142). The wish becomes 0 and no window runs (R46), and the far-end checker
goes to IDLE (R156). In SERVICE the phase moves to RECOVER with cause LINK_DOWN and the recover timer at 160,000 frames, and
every ACTIVE or UNFIT tenant becomes HELD; in PROVE it moves to SEEK with cause LINK_DOWN, the prove state IDLE and the retry
timer stopped; in every other phase it stays (R4, R5, R6, R8, R19). This is said where no response to the raises of the DOWN,
LINK_LOSS, REF_LOSS and HOLDOVER_LIMIT, reaches the phase or a tenant, and with no run in the queue. A link pattern run that is active in
PROVE or SERVICE ends ABORTED with cause LINK_DOWN, and the runs behind it are removed (R5, R153, R159). -/
def Obligations.DownDropsPeer : Prop :=
  (∀ s : State, s.calm → s.lfr.rx.framer = .down → s.fmn.rows.length = 21 →
    ∃ t, exec .rxFramerDown s = .next t ∧ t.lfr.rx.framer = .hunt ∧ t.lfr.rx.peer = none ∧ t.lfr.rx.prof = 0
      ∧ t.lfr.rx.pend = none ∧ t.lfr.rx.map = {} ∧ t.lfr.rx.mpend = none ∧ t.lfr.counts.down = s.lfr.counts.down + 1
      ∧ t.lau.wish = 0 ∧ t.lau.winOn = false ∧ t.stu.chk.armed = false
      ∧ (s.spc.phase = .prove ∨ s.spc.phase = .service ∨ s.spc.phase = .recover → (s.fmn.row 1).active = false →
        t.rowActive 1 ∧ (t.fmn.row 1).detail = (s.lfr.counts.down + 1).toNat)
      ∧ (s.stu.queue = [] → (∀ r ∈ [1, 7, 9, 10, 11, 12], s.fmn.phaseStays r) →
        (s.spc.phase = .service → t.spc.phase = .recover ∧ t.spc.left = .service ∧ t.spc.cause = .linkDown
          ∧ t.spc.recover = some 160000 ∧ s.tenantsHeld t)
        ∧ (s.spc.phase = .prove → t.spc.phase = .seek ∧ t.spc.left = .prove ∧ t.spc.cause = .linkDown
          ∧ t.spc.prove = .idle ∧ t.spc.roundNo = 0 ∧ t.spc.retry = none)
        ∧ (s.spc.phase ≠ .service → s.spc.phase ≠ .prove → t.spc = s.spc)))
  ∧ ∀ (s : State) (r : Run), s.calm → s.lfr.rx.framer = .down → s.runActive r → r.entry.kind = .linkPattern →
    s.spc.phase = .prove ∨ s.spc.phase = .service →
    ∃ t, exec .rxFramerDown s = .next t ∧ t.lfr.rx.framer = .hunt ∧ t.runsStopped r .linkDown

/-- At the end of a margin window the wish and the upshift streak follow the table of R45: the first case gives the highest
lower profile whose down threshold the average reaches, or 0. Under a fix the streaks are kept and the wish is not (R48).
At P0 the floor streak counts the windows below the down threshold of P0, PROFILE_FLOOR is raised as it reaches 32, and a
window at or above clears both (R47); above P0 nothing but the wish and the streak changes. A RESEEK that answered the raise
would take the streaks back (R46), so no response is RESEEK where the streak reaches 32. -/
def Obligations.MarginWindowSetsWish : Prop :=
  ∀ s : State, s.lineBusy → s.lau.windowDone = true → s.fmn.rows.length = 21 →
    let p := s.lfr.rx.prof
    let avg := s.lau.winSum / 32
    let low := avg < s.lau.downOf p
    let high := s.lau.downOf p ≤ avg ∧ p < 7 ∧ s.lau.upOf (p + 1) ≤ avg
    (p ≠ 0 ∨ s.lau.floorStreak ≠ 31 ∨ s.fmn.answersNever .reseek) →
    ∃ t, exec .marginWindowEnd s = .next t ∧ t.lau.winSlots = 0 ∧ t.lau.winSum = 0 ∧ t.lau.fix = s.lau.fix
      ∧ (p ≠ 0 → { t with mp := s.mp, lau := s.lau } = s ∧ t.lau.floorStreak = s.lau.floorStreak)
      ∧ t.lau.upStreak = (if high ∧ s.lau.upStreak + 1 ≠ 8 then s.lau.upStreak + 1 else 0)
      ∧ (s.lau.fix.isSome = true → t.lau.wish = s.lau.wish)
      ∧ (s.lau.fix = none →
        (low → p = 0 → t.lau.wish = 0)
        ∧ (low → p ≠ 0 → t.lau.wish < p ∧ (t.lau.wish = 0 ∨ s.lau.downOf t.lau.wish ≤ avg)
          ∧ ∀ q, t.lau.wish < q → q < p → avg < s.lau.downOf q)
        ∧ (high → t.lau.wish = (if s.lau.upStreak + 1 = 8 then p + 1 else s.lau.wish))
        ∧ (¬ low → ¬ high → t.lau.wish = s.lau.wish))
      ∧ (p = 0 → low → t.lau.floorStreak = min 255 (s.lau.floorStreak + 1)
        ∧ (s.lau.floorStreak = 31 → t.rowActive 3) ∧ (s.lau.floorStreak ≠ 31 → t.fmn = s.fmn))
      ∧ (p = 0 → ¬ low → t.lau.floorStreak = 0 ∧ (t.fmn.row 3).active = false)

/-- At the end of a level window the current average is the floor of the mean, and peak, peak time, settle clock and settled
flag follow the table of R12 and the condition of R13; the next window begins. With auto-exit off, or with the condition not
met, the phase stays and the lamp follows (R15). With auto-exit on and the condition met the phase leaves ALIGN with cause
ALIGN_SETTLED, the lamp off and the record kept: to SEEK, or, where the receive framer is UP, on to PROVE with the same cause
and a bring-up round, or with no BRINGUP entry in the plan to SERVICE (R11 to R13, R16; the run queue taken as empty
there). -/
def Obligations.AlignWindowUpdatesRecord : Prop :=
  ∀ (s : State) (l : LinkSet), s.lineBusy → s.spc.windowDone = true → s.il.link = some l →
    let avg := s.spc.winSum / 64
    ∃ t, exec .alignWindowEnd s = .next t ∧ t.spc.winSlots = 0 ∧ t.spc.winSum = 0
      ∧ t.spc.record.follows s.spc.record avg s.dsu.time l.expect
      ∧ (l.autoExit = false ∨ t.spc.record.settled = false → { t with spc := s.spc } = s ∧ t.spc.phase = s.spc.phase
        ∧ t.spc.led = decide (t.spc.record.peak.getD 0 - 10 ≤ avg))
      ∧ (l.autoExit = true → t.spc.record.settled = true → t.spc.led = false
        ∧ (s.lfr.rx.framer ≠ .up → t.spc.phase = .seek ∧ t.spc.left = .align ∧ t.spc.cause = .alignSettled)
        ∧ (s.lfr.rx.framer = .up → s.stu.queue = [] → s.stu.entriesOf .bringup = [] →
          t.spc.phase = .service ∧ t.spc.left = .prove ∧ t.spc.cause = .proveEmpty)
        ∧ (s.lfr.rx.framer = .up → s.stu.queue = [] → s.stu.entriesOf .bringup ≠ [] → s.runsStay →
          t.spc.phase = .prove ∧ t.spc.left = .seek ∧ t.spc.cause = .alignSettled ∧ t.spc.prove = .round
          ∧ t.spc.roundNo = 1 ∧ t.roundQueued))

/-! ### Self-test and shares -/

/-- The end of a checker window: with blocks checked it offers a TEST_REPORT of its run id, counts and window number and
sets its seen flag; with none it counts an empty window, and returns to IDLE when it has been seen or at the fourth
(R158). The service queue is taken to have room and no report to be kept. That the report then enters the queue also ahead of
a kept TEST_START (log 17), and that the window number counts on past 65,535 (log 68), are the model's choices; that a report
counts as sent when the frame that carries it is built is its inference (log 15). -/
def Obligations.CheckerWindowReports : Prop :=
  (∀ s : State, s.lineBusy → s.stu.chk.windowDone = true → s.lfr.tx.svc.length < 8 →
    s.stu.kept.any SvcMsg.isReport = false →
    let c := s.stu.chk
    (0 < c.checked → exec .checkerWindowEnd s = .next { s with
      lfr.tx.svc := s.lfr.tx.svc ++ [SvcMsg.testReport c.id c.checked c.bad c.window]
      stu.chk := { c with
        window := c.window + 1, slots := 0, checked := 0, bad := 0, seen := true, empty := 0
        lastReport := some (c.id, c.checked, c.bad, c.window) } })
    ∧ (c.checked = 0 → exec .checkerWindowEnd s = .next { s with stu.chk := { c with
      window := c.window + 1, slots := 0, checked := 0, bad := 0, empty := c.empty + 1
      armed := !(c.seen || decide (4 ≤ c.empty + 1)) } }))
  ∧ ∀ (s : State) (hold : Bool) (m : SvcMsg) (ms : List SvcMsg), s.calm → s.lfr.tx.framer ≠ .off →
    s.lfr.tx.svc = m :: ms →
    ∃ t, exec (.txFrameBuild hold) s = .next t
      ∧ t.stu.chk.sent = (if m.isReport = true then s.stu.chk.sent + 1 else s.stu.chk.sent)

/-- A RUNNING pattern run whose filled frames have reached its duration goes to DRAINING, starts its drain wait of 1,600
frames and releases its grant (R151, R152). A revocation ends the run that holds the grant, here the only one and of no round,
as ABORTED with cause REVOKED; a release that falls together with it follows, finds no grant, and sets off a computation of
kind EVENT (R126, R153). Which releases fall together with a revocation is the model's choice (log 60). -/
def Obligations.PatternDurationDrains : Prop :=
  (∀ (s : State) (r : Run) (rs : List Run), s.calm → s.stu.queue = r :: rs → r.state = .running →
    r.entry.kind = .linkPattern → r.entry.duration ≤ r.fig.frames →
    ∃ t, exec .patternDurationEnd s = .next t
      ∧ t.stu.queue = { r with state := .draining, drainLeft := some 1600 } :: rs
      ∧ t.sha.grant = none ∧ t.sha.tReq = 0)
  ∧ (∀ (s : State) (r : Run), s.calm → s.lfr.tx.periodDue = true → s.stu.queue = [r] → r.state = .running →
    r.entry.kind = .linkPattern → r.round = false → (share s.periodEnd.shareIn).revoked = true →
    ∃ t, exec .allocationPeriodEnd s = .next t ∧ t.stu.queue = [] ∧ t.sha.grant = none ∧ t.sha.tReq = 0
      ∧ t.sha.newest.counts.test = 0 ∧ t.sha.newest.kind = some .event
      ∧ (∃ x xs, t.stu.log = x :: xs ∧ x.id = r.id ∧ x.outcome = .aborted ∧ x.cause = .revoked)
      ∧ (t.stu.lateRelease = true ↔ s.stu.lateRelease = true ∨ r.entry.duration ≤ r.fig.frames ∨ s.lfr.rx.framer = .down
        ∨ (s.lfr.tx.framer = .normal ∧ s.fallbackCond = true)
        ∨ (s.pins.carriageHold = true ∧ s.lfr.tx.hold = false)))
  ∧ ∀ s : State, s.calm → s.stu.lateRelease = true → s.stu.durationDone = false → s.sha.grant = none → s.sha.tReq = 0 →
    ∃ t, exec .patternDurationEnd s = .next t ∧ t.stu = { s.stu with lateRelease := false } ∧ t.sha.grant = none
      ∧ t.sha.record.isSome = true ∧ t.sha.newest.kind = some .event ∧ t.tpt = s.tpt ∧ t.lfr.tx.map = s.lfr.tx.map

/-- The end of an allocation period takes A and Q of every tenant into the snapshot, starts A afresh, and sets off a
computation that leaves a record, of kind PERIODIC unless it gives a grant, and hands its newest map to the transmit side
(R115, R119, R130; here with no grant to revoke). There a result is set aside outside NORMAL; in NORMAL one equal to the
pending map, or to the map in force when none is pending, is left; a PERIODIC one that differs is withheld while a map is
pending; and any other is announced as the next version, superseding a pending map, with the countdown of the pending
profile switch when its next frame carries 2 or more, and 16 untied otherwise (R132, R135 to R137). -/
def Obligations.PeriodEndTakesDemand : Prop :=
  (∀ s : State, s.calm → s.lfr.tx.periodDue = true → s.sha.grant = none →
    ∃ t k, exec .allocationPeriodEnd s = .next t ∧ t.lfr.tx.periodDue = false ∧ t.sha.record.isSome = true
      ∧ t.sha.newest.kind = some k ∧ (k = .event ↔ t.sha.grant.isSome = true)
      ∧ (let h := s.handNewest t.sha.newest.counts t.sha.newest.prof k
        t.lfr.fate = h.lfr.fate ∧ t.lfr.mcounts = h.lfr.mcounts ∧ t.lfr.tx.mpend = h.lfr.tx.mpend
        ∧ t.lfr.tx.lastVer = h.lfr.tx.lastVer ∧ t.lfr.tx.map = s.lfr.tx.map)
      ∧ ∀ i : Fin 4, (t.tpt.get i).snapA = (s.tpt.get i).accSince ∧ (t.tpt.get i).snapQ = (s.tpt.get i).unsent
        ∧ (t.tpt.get i).accSince = 0)
  ∧ ∀ (s : State) (c : MapCounts) (prof : Nat) (kind : TriggerKind),
    let t := s.handNewest c prof kind
    let x := s.lfr.tx
    let y := t.lfr.tx
    let m := s.lfr.mcounts
    let n := t.lfr.mcounts
    let empty := c.test + c.ten.t0 + c.ten.t1 + c.ten.t2 + c.ten.t3 = 0
    let same := (∀ p, x.mpend = some p → c = p.counts ∧ (prof = p.prof ∨ empty))
      ∧ (x.mpend = none → c = x.map.counts ∧ (x.map.prof = some prof ∨ empty))
    let carried := fun p : TxPendMap => if x.pend = none then p.count = 16 ∧ p.tied = false ∧ n.tied = m.tied
      else ∀ w, x.pend = some w →
        let k := if w.carried = true then w.count - 1 else w.count
        (2 ≤ k → p.count = k ∧ p.tied = true ∧ n.tied = m.tied + 1)
        ∧ (k < 2 → p.count = 16 ∧ p.tied = false ∧ n.tied = m.tied)
    (x.framer ≠ .normal → y = x ∧ t.lfr.fate = some .setAside ∧ n = { m with setAside := m.setAside + 1 })
    ∧ (x.framer = .normal → same → y = x ∧ t.lfr.fate = some .equal ∧ n = m)
    ∧ (x.framer = .normal → ¬ same → kind = .periodic → x.mpend ≠ none →
      y = x ∧ t.lfr.fate = some .withheld ∧ n = { m with withheld := m.withheld + 1 })
    ∧ (x.framer = .normal → ¬ same → kind = .event ∨ x.mpend = none → x.lastVer ≤ 255 →
      t.lfr.fate = some .announced ∧ y.lastVer = (if x.lastVer = 255 then 1 else x.lastVer + 1)
      ∧ y.map = x.map ∧ y.prof = x.prof ∧ y.pend = x.pend
      ∧ (x.mpend = none → n.announced = m.announced + 1 ∧ n.superseded = m.superseded)
      ∧ (x.mpend ≠ none → n.superseded = m.superseded + 1 ∧ n.announced = m.announced)
      ∧ ∃ p, y.mpend = some p ∧ p.ver = y.lastVer ∧ p.counts = c ∧ p.prof = prof ∧ p.carried = false ∧ carried p)

/-- When the guarantees fit, each ACTIVE SHARED tenant is given its claim and ends with at least min(g, D), the rest is
spare, and the test step takes from spare only (R123). -/
def Obligations.GuaranteesThatFitAreGiven : Prop :=
  ∀ x : ShareIn, (share x).s ≤ (share x).r →
    (share x).spare = (share x).r - (share x).s
      ∧ (share x).counts.test ≤ (share x).spare
      ∧ (share x).rExcess = (share x).spare - (share x).counts.test
      ∧ ∀ i e, (x.tenants.get i).shared = some e →
        (share x).base.get i = min (e.guarantee (blockBytes x.prof)) ((x.tenants.get i).demand (blockBytes x.prof))
        ∧ min (e.guarantee (blockBytes x.prof)) ((x.tenants.get i).demand (blockBytes x.prof))
          ≤ (share x).counts.ten.get i

/-- A computation never gives out more than the 62 carriage blocks, when what is owed before the guarantees fits (R121 to
R128; that the owed blocks fit is R100's bound on F). -/
def Obligations.SharesFitTheFrame : Prop :=
  ∀ x : ShareIn, (Four.of (fun i => (x.tenants.get i).owed)).total ≤ 62 → (share x).counts.used ≤ 62

/-- A tenant's packets, sent block by block at one part and delivered in order at the other, come out whole, in order and
once, whatever the block size (R112 to R114). -/
def Obligations.PacketsCrossWholeAndInOrder : Prop :=
  ∀ (bb n : Nat) (a b : Tenant), 1 ≤ bb → (∀ p ∈ a.queue, goodPacket p) → a.sendOff = 0 →
    b.entry.isSome = true → b.link = true → b.egress = [] → occupancy a.queue ≤ 16384 →
    b.reasm = .waitStart ∨ b.reasm = .inStream [] →
    (a.queue.map (fun p => p.length + 2)).sum ≤ n * bb →
    (crossBlocks bb n a b).1.queue = [] ∧ (crossBlocks bb n a b).2.egress = a.queue
      ∧ (crossBlocks bb n a b).2.counts = b.counts

/-! ### Site time and the references -/

/-- A crossing outside a step and a setting starts a PPS pulse of 800 frame times (SQUELCH_FREE off), makes the next
boundary the next second's, keeps the raises of the second just ended (a raise of the crossing's own event is none of them, the model's choice, log
50), and starts the label mismatches afresh. A step is done at its boundary: site time lands e before it, no PPS pulse starts, the step is counted, and the next crossing is later
than both (R37, R80, R84, R93, R164). With G selected and its window good, the report is PHASE with e, which ACQUIRE and
TRACK take by the tables of R82 and R83: a step ordered above 1,000 ns in ACQUIRE, else a loop update; the fifth good
ACQUIRE report leads to TRACK; TRACK updates with e clamped and writes the ring, and its third large error in a row leads
back to ACQUIRE and a step (R86, R87). A tolerated bad window leaves the loop as it was. In HOLDOVER with no reference the
holdover clock and U age (R88, R89). The run queue is taken as empty and L's second as not judged, where a report is
taken. -/
def Obligations.CrossingRunsSecondAndSteps : Prop :=
  (∀ (s : State) (lFirst : Bool), s.calm → s.dsu.pendStep = none → s.dsu.pendSec = none → s.dsu.set.squelch = false →
    ∃ t, exec (.siteSecondCrossing lFirst) s = .next t ∧ t.dsu.pps = some 800
      ∧ t.dsu.nextCross = s.dsu.nextCross + 1 ∧ t.fmn.lastRaises = s.fmn.secRaises ∧ t.lfr.rx.secMismatch = 0
      ∧ t.dsu.steps = s.dsu.steps)
  ∧ (∀ (s : State) (lFirst : Bool) (e : Int), s.calm → s.dsu.pendStep = some e → s.dsu.pendSec = none →
    s.dsu.time = ⟨s.dsu.nextCross, 0⟩ →
    ∃ t, exec (.siteSecondCrossing lFirst) s = .next t ∧ t.dsu.time = timeAdd ⟨s.dsu.nextCross, 0⟩ (-e)
      ∧ t.dsu.pps = s.dsu.pps ∧ t.dsu.steps = s.dsu.steps + 1 ∧ t.dsu.pendStep = none
      ∧ t.dsu.nextCross = laterSec (s.dsu.nextCross + 1) (t.dsu.time.sec + 1))
  ∧ (∀ (s : State) (lFirst : Bool) (w : PulseWindow), s.calm → s.stu.queue = [] → s.dsu.pendStep = none →
    s.dsu.pendSec = none → s.rfm.sel = some .g → s.rfm.g.mode = .up → s.rfm.sec.judged = false → s.rfm.win = some w →
    w.stepped = false → s.rfm.prevPulse = none →
    let d := s.dsu
    let e := (w.ns : Int) - (w.cable : Int)
    ∃ t, exec (.siteSecondCrossing lFirst) s = .next t
      ∧ (w.pulses = 1 → w.covered = true → -500000000 ≤ e → e ≤ 499999999 →
        let updated := fun x : Int => t.dsu.p = roundDiv (x * 1000) (2 ^ d.set.pShift)
          ∧ t.dsu.i = clampPpt (d.i + roundDiv (x * 1000) (2 ^ d.set.iShift)) ∧ t.dsu.c = clampPpt (-(t.dsu.p + t.dsu.i))
        let kept := t.dsu.c = d.c ∧ t.dsu.i = d.i ∧ t.dsu.ring = d.ring
        let written := t.dsu.ring = (if d.ring.length < 64 then d.ring else d.ring.drop 1) ++ [t.dsu.c]
        t.dsu.report = some (.phase e)
        ∧ (d.loop = .acquire → 1000 < e.natAbs →
          t.dsu.loop = .acquire ∧ t.dsu.pendStep = some e ∧ t.dsu.acq = 0 ∧ kept)
        ∧ (d.loop = .acquire → e.natAbs ≤ 1000 → updated e ∧ t.dsu.ring = d.ring ∧ t.dsu.pendStep = none
          ∧ (d.acq + 1 = 5 → t.dsu.loop = .track ∧ t.dsu.acq = 0 ∧ t.dsu.u = d.set.uBase)
          ∧ (d.acq + 1 ≠ 5 → t.dsu.loop = .acquire ∧ t.dsu.acq = d.acq + 1))
        ∧ (d.loop = .track → e.natAbs ≤ 1000 → updated e ∧ written ∧ t.dsu.loop = .track ∧ t.dsu.trk = 0)
        ∧ (d.loop = .track → 1000 < e.natAbs → d.trk + 1 ≠ 3 →
          updated (max (-1000) (min 1000 e)) ∧ written ∧ t.dsu.loop = .track ∧ t.dsu.trk = d.trk + 1)
        ∧ (d.loop = .track → 1000 < e.natAbs → d.trk + 1 = 3 →
          t.dsu.loop = .acquire ∧ t.dsu.trk = 0 ∧ t.dsu.pendStep = some e ∧ t.dsu.u = Config.uSat ∧ kept))
      ∧ (w.pulses = 0 → s.rfm.g.streak = 0 → d.loop = .acquire ∨ d.loop = .track →
        t.dsu.report = some .skipBad ∧ t.dsu.loop = d.loop ∧ t.dsu.c = d.c ∧ t.dsu.i = d.i ∧ t.dsu.ring = d.ring
          ∧ t.dsu.acq = d.acq ∧ t.dsu.trk = d.trk))
  ∧ ∀ (s : State) (lFirst : Bool), s.calm → s.stu.queue = [] → s.dsu.pendStep = none → s.dsu.pendSec = none →
    s.dsu.loop = .holdover → s.rfm.sel = none → s.rfm.win = none → s.rfm.sec.judged = false →
    s.rfm.g.mode ≠ .up → s.rfm.l.mode ≠ .up →
    ∃ t, exec (.siteSecondCrossing lFirst) s = .next t ∧ t.dsu.report = some .noReference ∧ t.dsu.loop = .holdover
      ∧ t.dsu.c = s.dsu.c ∧ t.dsu.i = s.dsu.i ∧ t.dsu.hclock = min 4294967295 (s.dsu.hclock + 1)
      ∧ t.dsu.u = max s.dsu.u (min 1048560
        (s.dsu.set.uBase + (s.dsu.set.hRate * t.dsu.hclock + s.dsu.set.hAge * t.dsu.hclock ^ 2) / 1000))

/-- The end of a PPS pulse, the end of an ATTN pulse, a GNSS pulse in the window open now, and a reassertion of GNSS_OK:
each changes only its own record (R64, R66, R93, R197). -/
def Obligations.PulsesChangeTheirRecord : Prop :=
  ∀ s : State, s.lineBusy →
    exec .ppsPulseEnd s = .next { s with dsu.pps := none }
    ∧ (s.mp.pulse.isSome = true → exec .attnPulseEnd s = .next { s with mp.pulse := none, mp.attn := false })
    ∧ (∀ ns osc w, ns < 1000000000 → s.pastClose ns = false → s.rfm.winClosed = false → s.rfm.win = some w →
      exec (.gnssPpsPulse ns osc) s =
        .next { s with rfm.win := some { w with pulses := w.pulses + 1, ns := ns, osc := osc } })
    ∧ (s.pastClose s.dsu.time.ns = false → s.rfm.set.gnssLow = false → s.pins.gnssOk = false →
      exec (.gnssOkChange true) s = .next { s with pins.gnssOk := true })

/-- A deassertion of GNSS_OK takes G DOWN from PROBATION or UP, its count, streak and wait cleared, uncovers the window open
then, and leaves a G that is DOWN or DISABLED as it is (R64, R66). At a crossing the closed window is judged for G by the
tests of R65, and the second just ended for L by those of R69; a header counts in the second in which its arrival falls
(R67; one that arrived before the second in progress counts in none, the model's choice, log 40). That a mark refused for
delay is so also when it spans a step (log 30), that one is refused for quality with or without a valid echo (log 15), and
how the part tells that a mark spans a step (log 7) are the model's as well. A judged reference moves by the table of R71
(that its probation count is 0 in UP is the model's choice, log 71), and the selection, the wait-to-restore timer and
REF_LOSS follow it (R72, R73, R75). -/
def Obligations.GnssLossTakesGDown : Prop :=
  (∀ s : State, s.calm → s.stu.queue = [] → s.rfm.set.gnssLow = false → s.pins.gnssOk = true →
    (s.rfm.g.mode = .probation ∨ s.rfm.g.mode = .up → ∃ t, exec (.gnssOkChange false) s = .next t
      ∧ t.rfm.g = { mode := .down } ∧ t.rfm.sel ≠ some .g ∧ t.pins.gnssOk = false
      ∧ (s.pastClose s.dsu.time.ns = false → s.rfm.winClosed = false →
        t.rfm.win = s.rfm.win.map (fun w => { w with covered := false }) ∧ t.rfm.nextWin = s.rfm.nextWin)
      ∧ (s.rfm.winClosed = true →
        t.rfm.win = s.rfm.win ∧ t.rfm.nextWin = s.rfm.nextWin.map (fun w => { w with covered := false })))
    ∧ (s.rfm.g.mode = .down ∨ s.rfm.g.mode = .disabled → ∃ t, exec (.gnssOkChange false) s = .next t ∧ t.rfm.g = s.rfm.g
      ∧ (s.pastClose s.dsu.time.ns = false → s.rfm.winClosed = false →
        t.rfm.win = s.rfm.win.map (fun w => { w with covered := false }))
      ∧ (s.rfm.winClosed = true → t.rfm.nextWin = s.rfm.nextWin.map (fun w => { w with covered := false }))))
  ∧ (∀ (s : State) (lFirst : Bool) (w : PulseWindow), s.calm → s.stu.queue = [] → s.rfm.win = some w →
    let gap (p : Nat) : Int := (w.osc : Int) - (p : Int)
    let near := ∀ p, s.rfm.prevPulse = some p → 1000000000 - (w.ppsTol : Int) ≤ gap p ∧ gap p ≤ 1000000000 + (w.ppsTol : Int)
    let d := (w.ns : Int) - (w.cable : Int)
    ∃ t j, exec (.siteSecondCrossing lFirst) s = .next t ∧ t.rfm.lastG = some j ∧ j.pulses = w.pulses
      ∧ (w.stepped = true → j.verdict = .neutral ∧ j.e = none)
      ∧ (w.stepped = false → w.pulses = 0 → j.verdict = .bad ∧ j.reason = some .noPulse)
      ∧ (w.stepped = false → 1 < w.pulses → j.verdict = .bad ∧ j.reason = some .extraPulse)
      ∧ (w.stepped = false → w.pulses = 1 → w.covered = false → j.verdict = .bad ∧ j.reason = some .qualifier)
      ∧ (w.stepped = false → w.pulses = 1 → w.covered = true → ¬ near → j.verdict = .bad ∧ j.reason = some .interval)
      ∧ (w.stepped = false → w.pulses = 1 → w.covered = true → near → j.verdict = .good ∧ j.reason = none
        ∧ j.e = some (if 499999999 < d then d - 1000000000 else if d < -500000000 then d + 1000000000 else d))
      ∧ t.rfm.g.mode = (s.rfm.g.judged j.verdict).mode ∧ t.rfm.g.k = (s.rfm.g.judged j.verdict).k
      ∧ t.rfm.g.streak = (s.rfm.g.judged j.verdict).streak
      ∧ t.rfm.prevPulse = (if w.pulses = 0 then none else some w.osc))
  ∧ (∀ (s : State) (lFirst : Bool), s.calm → s.stu.queue = [] → s.rfm.sec.judged = true → s.rfm.l.mode ≠ .disabled →
    let x := s.rfm.sec
    ∃ t j, exec (.siteSecondCrossing lFirst) s = .next t ∧ t.rfm.lastL = some j ∧ j.accepted = x.accepted
      ∧ j.refQuality = x.refQuality ∧ j.refDelay = x.refDelay ∧ j.refStep = x.refStep ∧ j.best = x.best
      ∧ (x.framerOk = false → j.verdict = .bad ∧ j.reason = some .framer)
      ∧ (x.framerOk = true → (x.headers = 0 ∨ x.allTrack = false) → j.verdict = .bad ∧ j.reason = some .peerQuality)
      ∧ (x.framerOk = true → x.headers ≠ 0 → x.allTrack = true → x.accepted < 1000 →
        j.verdict = .bad ∧ j.reason = some .fewMarks)
      ∧ (x.framerOk = true → x.headers ≠ 0 → x.allTrack = true → 1000 ≤ x.accepted →
        j.verdict = .good ∧ j.reason = none)
      ∧ (s.rfm.nextSec = {} → t.rfm.sec.accepted = 0 ∧ t.rfm.sec.headers = 0 ∧ t.rfm.sec.best = none))
  ∧ (∀ (s : State) (h : Header) (t4 : SiteTime),
    let t := s.markHeader h t4
    (0 ≤ timeDiff t4 s.dsu.boundary →
      t.rfm.nextSec.headers = s.rfm.nextSec.headers + 1 ∧ t.rfm.sec = s.rfm.sec)
    ∧ (timeDiff t4 s.dsu.boundary < 0 → timeDiff t4 s.rfm.sec.start < 0 → t = s)
    ∧ (timeDiff t4 s.dsu.boundary < 0 → 0 ≤ timeDiff t4 s.rfm.sec.start →
      t.rfm.sec.headers = s.rfm.sec.headers + 1 ∧ t.rfm.nextSec = s.rfm.nextSec
      ∧ t.rfm.sec.allTrack = (s.rfm.sec.allTrack && decide (h.loop = 2))
      ∧ (s.takesMarks = true → h.loop ≠ 2 → t.rfm.sec.refQuality = s.rfm.sec.refQuality + 1
        ∧ t.rfm.sec.accepted = s.rfm.sec.accepted)
      ∧ (s.takesMarks = true → h.loop = 2 → h.echo = true →
        let d := roundDiv (timeDiff t4 h.echoTime - (h.held : Int)) 2
        let e := -(timeDiff h.sent t4 + d + s.rfm.set.asym)
        (d < 0 ∨ (s.rfm.set.delayMax : Int) < d → t.rfm.sec.refDelay = s.rfm.sec.refDelay + 1
          ∧ t.rfm.sec.accepted = s.rfm.sec.accepted)
        ∧ (0 ≤ d → d ≤ (s.rfm.set.delayMax : Int) → s.rfm.spans h.echoTime = true →
          t.rfm.sec.refStep = s.rfm.sec.refStep + 1 ∧ t.rfm.sec.accepted = s.rfm.sec.accepted)
        ∧ (0 ≤ d → d ≤ (s.rfm.set.delayMax : Int) → s.rfm.spans h.echoTime = false →
          t.rfm.sec.accepted = s.rfm.sec.accepted + 1
          ∧ t.rfm.sec.best = (match s.rfm.sec.best with
            | some b => if d < b.d then some ⟨d, -e, e⟩ else some b
            | none => some ⟨d, -e, e⟩)))))
  ∧ (∀ (x : RefState) (v : Verdict),
    let y := x.judged v
    (x.mode = .disabled ∨ v = .neutral → y = x)
    ∧ (x.mode = .down → v = .good → y.mode = .probation ∧ y.k = 1) ∧ (x.mode = .down → v = .bad → y = x)
    ∧ (x.mode = .probation → v = .good → x.k + 1 ≠ 10 → y.mode = .probation ∧ y.k = x.k + 1)
    ∧ (x.mode = .probation → v = .good → x.k + 1 = 10 → y.mode = .up ∧ y.k = 0 ∧ y.streak = 0)
    ∧ (x.mode = .probation → v = .bad → y = { mode := .down })
    ∧ (x.mode = .up → v = .good → y.mode = .up ∧ y.streak = 0)
    ∧ (x.mode = .up → v = .bad → x.streak = 0 → y.mode = .up ∧ y.streak = 1)
    ∧ (x.mode = .up → v = .bad → x.streak ≠ 0 → y = { mode := .down }))
  ∧ ∀ (s : State) (r q : Ref) (v : Verdict), q ≠ r → s.fmn.rows.length = 21 →
    let x := s.rfm.get r
    let y := x.judged v
    let t := s.judgeRef r v
    let order := s.rfm.set.priority.order
    (t.rfm.get r).mode = y.mode ∧ (t.rfm.get r).k = y.k ∧ (t.rfm.get r).streak = y.streak
    ∧ (t.rfm.get q).mode = (s.rfm.get q).mode
    ∧ (s.rfm.sel = none → y.mode = .up → r ∈ order → (s.rfm.get q).mode ≠ .up →
      t.rfm.sel = some r ∧ (t.fmn.row 7).active = false)
    ∧ (s.rfm.sel = some r → x.mode = .up → y.mode ≠ .up →
      ((s.rfm.get q).mode = .up → q ∈ order → t.rfm.sel = some q)
      ∧ ((s.rfm.get q).mode ≠ .up → t.rfm.sel = none ∧ t.rowActive 7))
    ∧ (s.rfm.sel = some q → (s.rfm.get q).mode = .up → order = [r, q] →
      (x.mode ≠ .up → y.mode = .up → t.rfm.sel = some q ∧ (t.rfm.get r).wait = some 0)
      ∧ (∀ n, x.mode = .up → y.mode = .up → x.wait = some n → n + 1 ≠ 30 →
        t.rfm.sel = some q ∧ (t.rfm.get r).wait = some (n + 1))
      ∧ (x.mode = .up → y.mode = .up → x.wait = some 29 → t.rfm.sel = some r ∧ (t.rfm.get r).wait = none)
      ∧ (y.mode ≠ .up → x.mode = .up ∨ x.wait = none → t.rfm.sel = some q ∧ (t.rfm.get r).wait = none))

/-- The correction and the integral term stay within ±20,000,000 ppt, the ring holds at most 64 such values, and site time
keeps its form, through every step (R79, R86, R87). -/
def Obligations.LoopStaysBounded : Prop := ∀ s s' : State, s.loopBounded → step s = .next s' → s'.loopBounded

/-! ### The cabinet -/

/-- A valid gate count indicates a range by LOW, HIGH and polarity, an invalid one none (R55), the count saturates (R53),
and THERMAL_GET reports the range. The place of the range in that reply and its width of 1 byte, and that of the hot hold
before it, are the model's choice (log 12). -/
def Obligations.GateIndicatesRange : Prop :=
  ∀ (s : State) (edges : Nat), s.calm →
    ∃ t, exec (.gateEnd edges) s = .next t ∧ t.tlm.gateCount = min 65535 edges
      ∧ (edges < 100 ∨ 20000 < edges → t.tlm.range = none)
      ∧ (100 ≤ edges → edges ≤ 20000 → s.tlm.set.falling = false →
        (edges < s.tlm.set.low → s.tlm.set.low ≤ s.tlm.set.high → t.tlm.range = some 0)
        ∧ (s.tlm.set.low ≤ edges → edges < s.tlm.set.high → t.tlm.range = some 1)
        ∧ (s.tlm.set.high ≤ edges → s.tlm.set.low ≤ s.tlm.set.high → t.tlm.range = some 2))
      ∧ (100 ≤ edges → edges ≤ 20000 → s.tlm.set.falling = true →
        (s.tlm.set.high ≤ edges → s.tlm.set.low ≤ s.tlm.set.high → t.tlm.range = some 0)
        ∧ (s.tlm.set.low ≤ edges → edges < s.tlm.set.high → t.tlm.range = some 1)
        ∧ (edges < s.tlm.set.low → s.tlm.set.low ≤ s.tlm.set.high → t.tlm.range = some 2))
      ∧ slice t.thermalBody 11 2 = eOpt 1 (t.tlm.range.map e1)

/-- HOT_N becoming asserted puts the hot hold and the thermal level at 2 at once, clears the release count, raises THERMAL
and lowers the ceiling to the cap of level 2; its release changes only the input (R58, R59; under the default polarity). A
gate end moves the sensor level and its cool-down streak by R56, the fail-safe and its counts by R57 with SENSOR_LOST, the
hot hold by R58, and the thermal level by R59. -/
def Obligations.HotInputForcesLevel : Prop :=
  (∀ s : State, s.tlm.set.hotHigh = false → s.fmn.rows.length = 21 →
    (s.calm → s.pins.hotN = true → s.tlm.level ≠ 2 → s.tlm.sensor ≤ 2 → ∃ t, exec (.hotNChange false) s = .next t
      ∧ t.tlm.hotHold = 2 ∧ t.tlm.hotRelease = 0 ∧ t.tlm.level = 2 ∧ t.tlm.gateHot = true ∧ t.rowActive 5
      ∧ t.lau.ceiling = min s.lau.hostCap (min s.tlm.set.l2cap t.fmn.cap))
    ∧ (s.lineBusy → s.pins.hotN = false → exec (.hotNChange true) s = .next { s with pins.hotN := true }))
  ∧ ∀ (s : State) (edges : Nat), s.calm →
    let a := s.tlm
    let valid := 100 ≤ edges ∧ edges ≤ 20000
    let r := a.set.range edges
    ∃ t, exec (.gateEnd edges) s = .next t
      ∧ (valid → t.tlm.valid = a.valid + 1 ∧ t.tlm.invalid = 0
        ∧ (a.sensor < r → t.tlm.sensor = r ∧ t.tlm.cool = 0)
        ∧ (r = a.sensor → t.tlm.sensor = a.sensor ∧ t.tlm.cool = 0)
        ∧ (r < a.sensor → a.cool + 1 < 5 ∨ a.failSafe = true →
          t.tlm.sensor = a.sensor ∧ t.tlm.cool = a.cool + 1 ∧ t.tlm.coolHigh = max a.coolHigh r)
        ∧ (r < a.sensor → a.cool + 1 = 5 → a.failSafe = false → t.tlm.sensor = max a.coolHigh r ∧ t.tlm.cool = 0)
        ∧ t.tlm.failSafe = (a.failSafe && decide (a.valid + 1 < 3)))
      ∧ (¬ valid → t.tlm.valid = 0 ∧ t.tlm.invalid = a.invalid + 1 ∧ t.tlm.cool = 0
        ∧ t.tlm.failSafe = (a.failSafe || decide (3 ≤ a.invalid + 1))
        ∧ t.tlm.sensor = (if a.failSafe = false ∧ 3 ≤ a.invalid + 1 then 2 else a.sensor))
      ∧ (a.failSafe = false → t.tlm.failSafe = true → a.enabled = true → s.fmn.rows.length = 21 → t.rowActive 6)
      ∧ (a.failSafe = true → t.tlm.failSafe = false → (t.fmn.row 6).active = false)
      ∧ (a.hotHold = 0 → t.tlm.hotHold = 0 ∧ t.tlm.hotRelease = 0)
      ∧ (a.hotHold ≠ 0 → a.gateHot = true → t.tlm.hotHold = a.hotHold ∧ t.tlm.hotRelease = 0)
      ∧ (a.hotHold ≠ 0 → a.gateHot = false → a.hotRelease + 1 ≠ 5 →
        t.tlm.hotHold = a.hotHold ∧ t.tlm.hotRelease = a.hotRelease + 1)
      ∧ (a.hotHold ≠ 0 → a.gateHot = false → a.hotRelease + 1 = 5 → t.tlm.hotHold = 0 ∧ t.tlm.hotRelease = 0)
      ∧ t.tlm.gateHot = s.hot
      ∧ t.tlm.level = (if a.enabled = true then max t.tlm.sensor t.tlm.hotHold else t.tlm.hotHold)

/-! ### Tenant ports and timers -/

/-- A port that goes down makes an ACTIVE or UNFIT tenant HELD and leaves any other where it is (where BAR does not answer
PORT_DOWN; with BAR it is in neither of the two), empties its egress buffer into the count of port-down
drops, and raises PORT_DOWN; one that comes up in SERVICE makes a HELD tenant whose record is FIT ACTIVE (R103, R105,
R108, R114; the run queue is taken as empty). -/
def Obligations.PortLinkMovesTenant : Prop :=
  ∀ (s : State) (i : Fin 4), s.calm → s.stu.queue = [] → s.fmn.rows.length = 21 → (s.tpt.get i).entry.isSome = true →
    ((s.tpt.get i).link = true → ∃ t, exec (.portLinkChange i false) s = .next t ∧ (t.tpt.get i).link = false
      ∧ (t.tpt.get i).egress = [] ∧ (t.tpt.get i).state ≠ .unfit ∧ (t.tpt.get i).state ≠ .active ∧ t.rowActive (17 + i.val)
      ∧ ((s.fmn.row (17 + i.val)).active = true
          ∨ (∀ p, s.fmn.table[11]? = some p → p.bringup ≠ .bar ∧ p.service ≠ .bar) →
        (t.tpt.get i).state = (if (s.tpt.get i).state = .active ∨ (s.tpt.get i).state = .unfit then .held
          else (s.tpt.get i).state))
      ∧ (t.tpt.get i).counts.egressDown =
        (s.tpt.get i).counts.egressDown + BitVec.ofNat 32 (s.tpt.get i).egress.length)
    ∧ ((s.tpt.get i).link = false → (s.tpt.get i).state = .held → (s.tpt.get i).fit = some .fit →
      s.spc.phase = .service → ∃ t, exec (.portLinkChange i true) s = .next t ∧ (t.tpt.get i).link = true
      ∧ (t.tpt.get i).state = .active ∧ (t.tpt.get i).permit = true ∧ (t.fmn.row (17 + i.val)).active = false)

/-- An arriving packet is admitted, dropped for its length, dropped for its tenant's state, or dropped for want of room, in
that order of tests, and counted once. A no-room drop counts into the site second, and one that brings its count to the drop
threshold raises QUEUE_DROP (R110; where it is inactive, and BAR, which would flush the queue, answers no raise for the
clause on the queue). The port takes the packet at the head of the
egress buffer whole, counted as delivered. Only that tenant changes (R111, R114). That the length is tested before the
tenant's state, so that a bad length counts as bad also in VACANT and BARRED, is the model's choice (log 30). -/
def Obligations.PacketsEnterAndLeave : Prop :=
  ∀ (s : State) (i : Fin 4) (p : Bytes), s.lineBusy →
    let a := s.tpt.get i
    (¬ goodPacket p → exec (.packetArrival i p) s =
      .next { s with tpt := s.tpt.set i { a with counts.badLength := a.counts.badLength + 1 } })
    ∧ (goodPacket p → a.state = .vacant ∨ a.state = .barred → exec (.packetArrival i p) s =
      .next { s with tpt := s.tpt.set i { a with counts.barred := a.counts.barred + 1 } })
    ∧ (goodPacket p → a.state = .held ∨ a.state = .active ∨ a.state = .unfit →
      (occupancy a.queue + p.length ≤ 65536 → exec (.packetArrival i p) s =
        .next { s with tpt := s.tpt.set i { a with
          queue := a.queue ++ [p], accSince := a.accSince + (p.length + 2)
          counts.accepted := a.counts.accepted + 1
          counts.acceptedBytes := a.counts.acceptedBytes + BitVec.ofNat 32 (p.length + 2) } })
      ∧ (65536 < occupancy a.queue + p.length →
        a.thr = 0 ∨ a.secDrops + 1 ≠ a.thr ∨ (s.fmn.row (13 + i.val)).active = true → exec (.packetArrival i p) s =
        .next { s with tpt := s.tpt.set i { a with
          secDrops := a.secDrops + 1, counts.noRoom := a.counts.noRoom + 1 } })
      ∧ (65536 < occupancy a.queue + p.length → a.thr ≠ 0 → a.secDrops + 1 = a.thr →
        (s.fmn.row (13 + i.val)).active = false → s.fmn.rows.length = 21 →
        ∃ t, exec (.packetArrival i p) s = .next t ∧ t.rowActive (13 + i.val) ∧ (t.fmn.row (13 + i.val)).detail = i.val
          ∧ (t.tpt.get i).secDrops = a.secDrops + 1 ∧ (t.tpt.get i).counts.noRoom = a.counts.noRoom + 1
          ∧ (t.tpt.get i).counts.accepted = a.counts.accepted
          ∧ (s.fmn.answersNever .bar → (t.tpt.get i).queue = a.queue)))
    ∧ (∀ x xs, a.egress = x :: xs → exec (.egressPacketTaken i) s =
      .next { s with tpt := s.tpt.set i { a with egress := xs, counts.delivered := a.counts.delivered + 1 } })

/-- The expiries: the refit timer makes the record FIT and an UNFIT tenant ACTIVE (R102, R104); the recover timer takes
RECOVER to SEEK (R6); the grant timer ends a WAITING run with NO_CAPACITY and the drain wait ends a run by its totals
(R149, R152), each run the only one, and of no round. A run of a round that passes leaves the round to its next run, and
the last takes the site to SERVICE with PROVE_PASSED; one that fails ends the round and removes its other runs, and the
round is retried after 2 s, or the prove state is FAILED and PROVE_FAIL active when it was the third (R17, R159; no response
in PROVE moves the phase). The retry timer asks for a run of every BRINGUP entry, in plan order, each with the round flag
(R17, R159; no entry a SENSOR_CHECK, which ends in the event, and no grant held). -/
def Obligations.TimersExpire : Prop :=
  ∀ s : State, s.calm →
    (∀ i : Fin 4, s.stu.queue = [] → (s.tpt.get i).refit.isSome = true → (s.tpt.get i).state = .unfit →
      ∃ t, exec (.refitTimerExpiry i) s = .next t ∧ (t.tpt.get i).fit = some .fit ∧ (t.tpt.get i).refit = none
        ∧ (t.tpt.get i).state = .active ∧ (t.tpt.get i).permit = true)
    ∧ (s.stu.queue = [] → s.spc.phase = .recover → s.spc.recover.isSome = true →
      ∃ t, exec .recoverTimerExpiry s = .next t ∧ t.spc.phase = .seek ∧ t.spc.cause = .recoverExpiry
        ∧ t.spc.recover = none)
    ∧ (∀ r, s.stu.queue = [r] → r.state = .waiting → r.entry.kind = .linkPattern → r.grantLeft.isSome = true →
      r.round = false → ∃ t x, exec .grantTimerExpiry s = .next t ∧ t.stu.queue = [] ∧ t.stu.log.head? = some x
        ∧ x.idx = r.idx ∧ x.id = r.id ∧ x.outcome = .aborted ∧ x.cause = .noCapacity ∧ t.sha.tReq = 0
        ∧ t.sha.grant = none)
    ∧ (∀ r, s.stu.queue = [r] → r.state = .draining → r.drainLeft.isSome = true → r.round = false →
      ∃ t x, exec .drainWaitExpiry s = .next t ∧ t.stu.queue = [] ∧ t.stu.log.head? = some x ∧ x.id = r.id
        ∧ (r.entry.errors < r.fig.bad → x.outcome = .fail ∧ x.cause = .errors)
        ∧ (r.fig.bad ≤ r.entry.errors → 8 * r.fig.checked < 7 * (r.fig.frames * r.entry.blocks) →
          x.outcome = .fail ∧ x.cause = .lowCoverage)
        ∧ (r.fig.bad ≤ r.entry.errors → 7 * (r.fig.frames * r.entry.blocks) ≤ 8 * r.fig.checked →
          x.outcome = .pass ∧ x.cause = .none))
    ∧ (∀ r rs, s.stu.queue = r :: rs → r.state = .draining → r.drainLeft.isSome = true → r.round = true →
      s.spc.phase = .prove → s.spc.prove = .round → (∀ q ∈ rs, q.state = .queued ∧ q.round = true) →
      let passed := r.fig.bad ≤ r.entry.errors ∧ 7 * (r.fig.frames * r.entry.blocks) ≤ 8 * r.fig.checked
      (passed → rs = [] → ∃ t, exec .drainWaitExpiry s = .next t ∧ t.spc.phase = .service ∧ t.spc.left = .prove
        ∧ t.spc.cause = .provePassed ∧ t.spc.prove = .idle ∧ t.spc.roundNo = 0 ∧ t.spc.retry = none)
      ∧ (∀ q qs, passed → rs = q :: qs → q.entry.kind ≠ .sensorCheck → s.sha.grant = none →
        ∃ t q', exec .drainWaitExpiry s = .next t ∧ t.spc = s.spc ∧ t.stu.queue = q' :: qs ∧ q'.idx = q.idx
          ∧ q'.id = q.id ∧ q'.round = true ∧ q'.state ≠ .queued)
      ∧ (¬ passed → s.fmn.answersNever .reseek → s.fmn.answersNever .halt → s.fmn.rows.length = 21 →
        ∃ t, exec .drainWaitExpiry s = .next t ∧ t.stu.queue = [] ∧ t.spc.phase = .prove
          ∧ (s.spc.roundNo < 3 →
            t.spc.prove = .round ∧ t.spc.roundNo = s.spc.roundNo + 1 ∧ t.spc.retry = some 16000)
          ∧ (s.spc.roundNo = 3 → t.spc.prove = .failed ∧ t.spc.roundNo = 3 ∧ t.spc.retry = s.spc.retry
            ∧ t.rowActive 2)))
    ∧ (s.stu.queue = [] → s.spc.retry.isSome = true → s.runsStay →
      ∃ t, exec .retryTimerExpiry s = .next t ∧ t.spc.retry = none
        ∧ t.stu.queue.map (·.idx) = s.stu.entriesOf .bringup ∧ ∀ r ∈ t.stu.queue, r.round = true)

/-- At every moment a tenant's permit is asserted exactly while it is ACTIVE, and that of a PHASE tenant only while the
Discipline Unit is in TRACK, or in HOLDOVER with U not above the tenant's budget (R92, R102, R107). A tenant is ACTIVE or
UNFIT only in SERVICE and with its port link up, so every way of leaving SERVICE takes the permits down (R3, R103, R105). -/
def Obligations.PhasePermitOnlyWithGoodTime : Prop :=
  ∀ s s' : State, s.tenantsConsistent → step s = .next s' →
    s'.tenantsConsistent
    ∧ (∀ i : Fin 4, (s'.tpt.get i).permit = true → s'.spc.phase = .service ∧ (s'.tpt.get i).link = true)
    ∧ ∀ (i : Fin 4) (e : Entry), (s'.tpt.get i).permit = true → (s'.tpt.get i).entry = some e →
      e.timing = .phase → s'.dsu.loop = .track ∨ (s'.dsu.loop = .holdover ∧ s'.dsu.u ≤ e.budget)

/-- The inbound queue, the refusal store, the notice queue, the service queue, the relay buffer, the run queue, the result
log and the tenants' queues never hold more than their rules allow. The notice queue keeps its bound because its notices
have distinct kinds and subjects, each a subject of its kind, and the run queue because its runs have distinct plan
indices (R38, R41, R111, R114, R147, R161, R192, R195). -/
def Obligations.QueuesStayBounded : Prop :=
  ∀ s s' : State, s.queuesBounded → s.portsBounded → step s = .next s' → s'.queuesBounded ∧ s'.portsBounded

/-- The state after reset meets every invariant that the steps keep. -/
def Obligations.ResetMeetsInvariants : Prop :=
  State.reset.noticesDistinct ∧ State.reset.bufferWf ∧ State.reset.loopBounded ∧ State.reset.tenantsConsistent
    ∧ State.reset.queuesBounded ∧ State.reset.portsBounded
end

