-- ==== Sys2Proof/Laws/Data.lean ====
section
/-! SUPPORT. The laws of the plain data: four things read after a write, little-endian fields read after they are written,
and stamps of site time that keep their form. -/

namespace Sys2Proof

/-! ### Four like things -/

@[simp] theorem Four.get_set_same {α : Type} (q : Four α) (i : Fin 4) (x : α) : (q.set i x).get i = x := by
  match i with
  | 0 | 1 | 2 | 3 => rfl

@[simp] theorem Four.get_set_other {α : Type} (q : Four α) {i j : Fin 4} (x : α) (h : j ≠ i) :
    (q.set i x).get j = q.get j := by
  match i, j with
  | 0, 1 | 0, 2 | 0, 3 | 1, 0 | 1, 2 | 1, 3 | 2, 0 | 2, 1 | 2, 3 | 3, 0 | 3, 1 | 3, 2 => rfl
  | 0, 0 | 1, 1 | 2, 2 | 3, 3 => exact absurd rfl h

theorem Four.get_set {α : Type} (q : Four α) (i j : Fin 4) (x : α) :
    (q.set i x).get j = if j = i then x else q.get j := by
  split
  · next h => subst h; simp
  · next h => simp [h]

@[simp] theorem Four.set_get {α : Type} (q : Four α) (i : Fin 4) : q.set i (q.get i) = q := by
  match i with
  | 0 | 1 | 2 | 3 => rfl

@[simp] theorem Four.set_set {α : Type} (q : Four α) (i : Fin 4) (x y : α) : (q.set i x).set i y = q.set i y := by
  match i with
  | 0 | 1 | 2 | 3 => rfl

@[simp] theorem Four.get_of {α : Type} (f : Fin 4 → α) (i : Fin 4) : (Four.of f).get i = f i := by
  match i with
  | 0 | 1 | 2 | 3 => rfl

theorem Four.ext_get {α : Type} {a b : Four α} (h : ∀ i, a.get i = b.get i) : a = b := by
  cases a; cases b
  have h0 := h 0; have h1 := h 1; have h2 := h 2; have h3 := h 3
  simp_all [Four.get]

namespace Machine

/-! ### Little-endian fields -/

@[simp] theorem le_length (n x : Nat) : (le n x).length = n := by
  induction n generalizing x with
  | zero => rfl
  | succ n ih => simp [le, ih]

/-- A number that fits its field is read back as itself. -/
theorem readLe_le (n x : Nat) (h : x < 256 ^ n) : readLe (le n x) = x := by
  induction n generalizing x with
  | zero => simp at h; simp [le, readLe, h]
  | succ n ih =>
    have hx : x / 256 < 256 ^ n := by
      rw [Nat.div_lt_iff_lt_mul (by omega)]; rw [pow_succ] at h; exact h
    simp only [le, readLe, ih _ hx, BitVec.toNat_ofNat]
    omega

/-- The bytes of a field spell a number below its bound. -/
theorem readLe_lt (bs : Bytes) : readLe bs < 256 ^ bs.length := by
  induction bs with
  | nil => simp [readLe]
  | cons b bs ih =>
    have hb := b.isLt
    simp only [readLe, List.length_cons, pow_succ]
    omega

/-- Bytes read as a number are those bytes when it is written in their length. -/
theorem le_readLe (bs : Bytes) : le bs.length (readLe bs) = bs := by
  induction bs with
  | nil => rfl
  | cons b bs ih =>
    have hb := b.isLt
    have hd : (b.toNat + 256 * readLe bs) / 256 = readLe bs := by omega
    simp only [List.length_cons, le, readLe, hd, ih, List.cons.injEq, and_true]
    apply BitVec.eq_of_toNat_eq
    simp only [BitVec.toNat_ofNat]
    omega

@[simp] theorem word_le {w : Nat} (n : Nat) (x : BitVec w) (h : w = 8 * n) : word w (le n x.toNat) = x := by
  subst h
  have hx : x.toNat < 256 ^ n := by simpa [pow_mul] using x.isLt
  simp [word, readLe_le n x.toNat hx]

@[simp] theorem e1_length (x : Nat) : (e1 x).length = 1 := le_length 1 x
@[simp] theorem e2_length (x : Nat) : (e2 x).length = 2 := le_length 2 x
@[simp] theorem e4_length (x : Nat) : (e4 x).length = 4 := le_length 4 x
@[simp] theorem eCount_length (c : Count) : (eCount c).length = 4 := le_length 4 _
@[simp] theorem eTime_length (t : SiteTime) : (eTime t).length = 8 := by simp [eTime]
@[simp] theorem crcBytes_length (bs : Bytes) : (crcBytes bs).length = 2 := le_length 2 _

/-- The CRC of bytes and more bytes goes on from the CRC of the first. -/
theorem crc16_append (a b : Bytes) : crc16 (a ++ b) = b.foldl crcByte (crc16 a) := List.foldl_append

/-- A slice that starts where the first part ends is a slice of the second. -/
theorem slice_append_right (a b : Bytes) (n : Nat) : slice (a ++ b) a.length n = b.take n := by
  simp [slice]

/-- A slice that ends inside the first part is a slice of it. -/
theorem slice_append_left (a b : Bytes) (off n : Nat) (h : off + n ≤ a.length) : slice (a ++ b) off n = slice a off n := by
  simp only [slice, List.drop_append, List.take_append]
  have : n - (a.length - off) = 0 := by omega
  simp [this]

/-! ### Site time -/

/-- Adding to a stamp keeps the form of R79. -/
theorem timeAdd_ns_lt (t : SiteTime) (d : Int) : (timeAdd t d).ns < nsPerSec := by
  have h := Int.emod_lt_of_pos ((t.ns : Int) + d) (show (0 : Int) < (nsPerSec : Int) by decide)
  have h0 := Int.emod_nonneg ((t.ns : Int) + d) (show (nsPerSec : Int) ≠ 0 by decide)
  simp only [timeAdd]
  omega

@[simp] theorem timeAdd_zero (t : SiteTime) (h : t.ns < nsPerSec) : timeAdd t 0 = t := by
  have hd : ((t.ns : Int)) / (nsPerSec : Int) = 0 := Int.ediv_eq_zero_of_lt (by omega) (by omega)
  have hm : ((t.ns : Int)) % (nsPerSec : Int) = t.ns := Int.emod_eq_of_lt (by omega) (by omega)
  cases t
  simp_all [timeAdd]

@[simp] theorem timeDiff_self (t : SiteTime) : timeDiff t t = 0 := by simp [timeDiff]

/-- A value brought into a range lies in it. -/
theorem clampInt_mem (lo hi x : Int) (h : lo ≤ hi) : lo ≤ clampInt lo hi x ∧ clampInt lo hi x ≤ hi := by
  simp only [clampInt]
  omega

/-- Rounding differs from the quotient by at most a half. -/
theorem roundDiv_near (a : Int) (n : Nat) (h : 0 < n) :
    2 * (roundDiv a n * n - a) ≤ n ∧ -(n : Int) ≤ 2 * (roundDiv a n * n - a) := by
  have hn : (0 : Int) < n := by omega
  have h1 := Int.mul_ediv_add_emod a n
  have h2 := Int.emod_nonneg a (show (n : Int) ≠ 0 by omega)
  have h3 := Int.emod_lt_of_pos a hn
  have h4 : (n : Int) * (a / n) = a / n * n := mul_comm _ _
  have h5 : (a / n + 1) * (n : Int) = a / n * n + n := by ring
  simp only [roundDiv]
  split
  · omega
  · split
    · rw [h5]; omega
    · split
      · omega
      · rw [h5]; omega

end Machine

end Sys2Proof
end

