-- ==== Sys2Proof/Laws/State.lean ====
section
/-! SUPPORT. What the notices, the ceiling, raises and clears leave alone, one lemma for each operation, each field by itself. -/

namespace Sys2Proof.Machine

@[simp] theorem State.notify_frame (s : State) (k : NoticeKind) (n : Nat) (c : Bytes) :
    (s.notify k n c).pending = s.pending ∧ (s.notify k n c).pins = s.pins ∧ (s.notify k n c).spc = s.spc
    ∧ (s.notify k n c).lfr = s.lfr ∧ (s.notify k n c).lau = s.lau ∧ (s.notify k n c).tlm = s.tlm
    ∧ (s.notify k n c).rfm = s.rfm ∧ (s.notify k n c).dsu = s.dsu ∧ (s.notify k n c).tpt = s.tpt
    ∧ (s.notify k n c).sha = s.sha ∧ (s.notify k n c).stu = s.stu ∧ (s.notify k n c).fmn = s.fmn
    ∧ (s.notify k n c).il = s.il ∧ (s.notify k n c).work = s.work := by
  exact ⟨rfl, rfl, rfl, rfl, rfl, rfl, rfl, rfl, rfl, rfl, rfl, rfl, rfl, rfl⟩

@[simp] theorem State.noteLink_frame (s : State) :
    (s.noteLink).pending = s.pending ∧ (s.noteLink).pins = s.pins ∧ (s.noteLink).spc = s.spc
    ∧ (s.noteLink).lfr = s.lfr ∧ (s.noteLink).lau = s.lau ∧ (s.noteLink).tlm = s.tlm ∧ (s.noteLink).rfm = s.rfm
    ∧ (s.noteLink).dsu = s.dsu ∧ (s.noteLink).tpt = s.tpt ∧ (s.noteLink).sha = s.sha ∧ (s.noteLink).stu = s.stu
    ∧ (s.noteLink).fmn = s.fmn ∧ (s.noteLink).il = s.il ∧ (s.noteLink).work = s.work := by
  exact ⟨rfl, rfl, rfl, rfl, rfl, rfl, rfl, rfl, rfl, rfl, rfl, rfl, rfl, rfl⟩

@[simp] theorem State.noteProfile_frame (s : State) :
    (s.noteProfile).pending = s.pending ∧ (s.noteProfile).pins = s.pins ∧ (s.noteProfile).spc = s.spc
    ∧ (s.noteProfile).lfr = s.lfr ∧ (s.noteProfile).lau = s.lau ∧ (s.noteProfile).tlm = s.tlm
    ∧ (s.noteProfile).rfm = s.rfm ∧ (s.noteProfile).dsu = s.dsu ∧ (s.noteProfile).tpt = s.tpt
    ∧ (s.noteProfile).sha = s.sha ∧ (s.noteProfile).stu = s.stu ∧ (s.noteProfile).fmn = s.fmn
    ∧ (s.noteProfile).il = s.il ∧ (s.noteProfile).work = s.work := by
  exact ⟨rfl, rfl, rfl, rfl, rfl, rfl, rfl, rfl, rfl, rfl, rfl, rfl, rfl, rfl⟩

@[simp] theorem State.noteThermal_frame (s : State) :
    (s.noteThermal).pending = s.pending ∧ (s.noteThermal).pins = s.pins ∧ (s.noteThermal).spc = s.spc
    ∧ (s.noteThermal).lfr = s.lfr ∧ (s.noteThermal).lau = s.lau ∧ (s.noteThermal).tlm = s.tlm
    ∧ (s.noteThermal).rfm = s.rfm ∧ (s.noteThermal).dsu = s.dsu ∧ (s.noteThermal).tpt = s.tpt
    ∧ (s.noteThermal).sha = s.sha ∧ (s.noteThermal).stu = s.stu ∧ (s.noteThermal).fmn = s.fmn
    ∧ (s.noteThermal).il = s.il ∧ (s.noteThermal).work = s.work := by
  exact ⟨rfl, rfl, rfl, rfl, rfl, rfl, rfl, rfl, rfl, rfl, rfl, rfl, rfl, rfl⟩

@[simp] theorem State.noteTime_frame (s : State) :
    (s.noteTime).pending = s.pending ∧ (s.noteTime).pins = s.pins ∧ (s.noteTime).spc = s.spc
    ∧ (s.noteTime).lfr = s.lfr ∧ (s.noteTime).lau = s.lau ∧ (s.noteTime).tlm = s.tlm ∧ (s.noteTime).rfm = s.rfm
    ∧ (s.noteTime).dsu = s.dsu ∧ (s.noteTime).tpt = s.tpt ∧ (s.noteTime).sha = s.sha ∧ (s.noteTime).stu = s.stu
    ∧ (s.noteTime).fmn = s.fmn ∧ (s.noteTime).il = s.il ∧ (s.noteTime).work = s.work := by
  exact ⟨rfl, rfl, rfl, rfl, rfl, rfl, rfl, rfl, rfl, rfl, rfl, rfl, rfl, rfl⟩

@[simp] theorem State.noteTest_frame (s : State) :
    (s.noteTest).pending = s.pending ∧ (s.noteTest).pins = s.pins ∧ (s.noteTest).spc = s.spc
    ∧ (s.noteTest).lfr = s.lfr ∧ (s.noteTest).lau = s.lau ∧ (s.noteTest).tlm = s.tlm ∧ (s.noteTest).rfm = s.rfm
    ∧ (s.noteTest).dsu = s.dsu ∧ (s.noteTest).tpt = s.tpt ∧ (s.noteTest).sha = s.sha ∧ (s.noteTest).stu = s.stu
    ∧ (s.noteTest).fmn = s.fmn ∧ (s.noteTest).il = s.il ∧ (s.noteTest).work = s.work := by
  exact ⟨rfl, rfl, rfl, rfl, rfl, rfl, rfl, rfl, rfl, rfl, rfl, rfl, rfl, rfl⟩

@[simp] theorem State.noteImage_frame (s : State) :
    (s.noteImage).pending = s.pending ∧ (s.noteImage).pins = s.pins ∧ (s.noteImage).spc = s.spc
    ∧ (s.noteImage).lfr = s.lfr ∧ (s.noteImage).lau = s.lau ∧ (s.noteImage).tlm = s.tlm ∧ (s.noteImage).rfm = s.rfm
    ∧ (s.noteImage).dsu = s.dsu ∧ (s.noteImage).tpt = s.tpt ∧ (s.noteImage).sha = s.sha ∧ (s.noteImage).stu = s.stu
    ∧ (s.noteImage).fmn = s.fmn ∧ (s.noteImage).il = s.il ∧ (s.noteImage).work = s.work := by
  exact ⟨rfl, rfl, rfl, rfl, rfl, rfl, rfl, rfl, rfl, rfl, rfl, rfl, rfl, rfl⟩

@[simp] theorem State.noteAlign_frame (s : State) :
    (s.noteAlign).pending = s.pending ∧ (s.noteAlign).pins = s.pins ∧ (s.noteAlign).spc = s.spc
    ∧ (s.noteAlign).lfr = s.lfr ∧ (s.noteAlign).lau = s.lau ∧ (s.noteAlign).tlm = s.tlm ∧ (s.noteAlign).rfm = s.rfm
    ∧ (s.noteAlign).dsu = s.dsu ∧ (s.noteAlign).tpt = s.tpt ∧ (s.noteAlign).sha = s.sha ∧ (s.noteAlign).stu = s.stu
    ∧ (s.noteAlign).fmn = s.fmn ∧ (s.noteAlign).il = s.il ∧ (s.noteAlign).work = s.work := by
  exact ⟨rfl, rfl, rfl, rfl, rfl, rfl, rfl, rfl, rfl, rfl, rfl, rfl, rfl, rfl⟩

@[simp] theorem State.noteRef_frame (s : State) (r : Ref) :
    (s.noteRef r).pending = s.pending ∧ (s.noteRef r).pins = s.pins ∧ (s.noteRef r).spc = s.spc
    ∧ (s.noteRef r).lfr = s.lfr ∧ (s.noteRef r).lau = s.lau ∧ (s.noteRef r).tlm = s.tlm ∧ (s.noteRef r).rfm = s.rfm
    ∧ (s.noteRef r).dsu = s.dsu ∧ (s.noteRef r).tpt = s.tpt ∧ (s.noteRef r).sha = s.sha ∧ (s.noteRef r).stu = s.stu
    ∧ (s.noteRef r).fmn = s.fmn ∧ (s.noteRef r).il = s.il ∧ (s.noteRef r).work = s.work := by
  exact ⟨rfl, rfl, rfl, rfl, rfl, rfl, rfl, rfl, rfl, rfl, rfl, rfl, rfl, rfl⟩

@[simp] theorem State.noteTenant_frame (s : State) (i : Fin 4) :
    (s.noteTenant i).pending = s.pending ∧ (s.noteTenant i).pins = s.pins ∧ (s.noteTenant i).spc = s.spc
    ∧ (s.noteTenant i).lfr = s.lfr ∧ (s.noteTenant i).lau = s.lau ∧ (s.noteTenant i).tlm = s.tlm
    ∧ (s.noteTenant i).rfm = s.rfm ∧ (s.noteTenant i).dsu = s.dsu ∧ (s.noteTenant i).tpt = s.tpt
    ∧ (s.noteTenant i).sha = s.sha ∧ (s.noteTenant i).stu = s.stu ∧ (s.noteTenant i).fmn = s.fmn
    ∧ (s.noteTenant i).il = s.il ∧ (s.noteTenant i).work = s.work := by
  exact ⟨rfl, rfl, rfl, rfl, rfl, rfl, rfl, rfl, rfl, rfl, rfl, rfl, rfl, rfl⟩

@[simp] theorem State.noteFault_frame (s : State) (r : Nat) :
    (s.noteFault r).pending = s.pending ∧ (s.noteFault r).pins = s.pins ∧ (s.noteFault r).spc = s.spc
    ∧ (s.noteFault r).lfr = s.lfr ∧ (s.noteFault r).lau = s.lau ∧ (s.noteFault r).tlm = s.tlm
    ∧ (s.noteFault r).rfm = s.rfm ∧ (s.noteFault r).dsu = s.dsu ∧ (s.noteFault r).tpt = s.tpt
    ∧ (s.noteFault r).sha = s.sha ∧ (s.noteFault r).stu = s.stu ∧ (s.noteFault r).fmn = s.fmn
    ∧ (s.noteFault r).il = s.il ∧ (s.noteFault r).work = s.work := by
  exact ⟨rfl, rfl, rfl, rfl, rfl, rfl, rfl, rfl, rfl, rfl, rfl, rfl, rfl, rfl⟩

@[simp] theorem State.noteMap_frame (s : State) (c : MapCause) :
    (s.noteMap c).pending = s.pending ∧ (s.noteMap c).pins = s.pins ∧ (s.noteMap c).spc = s.spc
    ∧ (s.noteMap c).lau = s.lau ∧ (s.noteMap c).tlm = s.tlm ∧ (s.noteMap c).rfm = s.rfm ∧ (s.noteMap c).dsu = s.dsu
    ∧ (s.noteMap c).tpt = s.tpt ∧ (s.noteMap c).sha = s.sha ∧ (s.noteMap c).stu = s.stu ∧ (s.noteMap c).fmn = s.fmn
    ∧ (s.noteMap c).il = s.il ∧ (s.noteMap c).work = s.work := by
  exact ⟨rfl, rfl, rfl, rfl, rfl, rfl, rfl, rfl, rfl, rfl, rfl, rfl, rfl⟩

@[simp] theorem State.offer_frame (s : State) (m : SvcMsg) :
    (s.offer m).pending = s.pending ∧ (s.offer m).pins = s.pins ∧ (s.offer m).spc = s.spc ∧ (s.offer m).lau = s.lau
    ∧ (s.offer m).tlm = s.tlm ∧ (s.offer m).rfm = s.rfm ∧ (s.offer m).dsu = s.dsu ∧ (s.offer m).tpt = s.tpt
    ∧ (s.offer m).sha = s.sha ∧ (s.offer m).fmn = s.fmn ∧ (s.offer m).il = s.il ∧ (s.offer m).mp = s.mp
    ∧ (s.offer m).work = s.work := by
  unfold State.offer
  split <;> simp

@[simp] theorem State.offerKept_frame (s : State) :
    (s.offerKept).pending = s.pending ∧ (s.offerKept).pins = s.pins ∧ (s.offerKept).spc = s.spc
    ∧ (s.offerKept).lau = s.lau ∧ (s.offerKept).tlm = s.tlm ∧ (s.offerKept).rfm = s.rfm ∧ (s.offerKept).dsu = s.dsu
    ∧ (s.offerKept).tpt = s.tpt ∧ (s.offerKept).sha = s.sha ∧ (s.offerKept).fmn = s.fmn ∧ (s.offerKept).il = s.il
    ∧ (s.offerKept).mp = s.mp ∧ (s.offerKept).work = s.work := by
  exact ⟨rfl, rfl, rfl, rfl, rfl, rfl, rfl, rfl, rfl, rfl, rfl, rfl, rfl⟩

@[simp] theorem State.recomputeCeiling_frame (s : State) :
    (s.recomputeCeiling).pending = s.pending ∧ (s.recomputeCeiling).pins = s.pins
    ∧ (s.recomputeCeiling).spc = s.spc ∧ (s.recomputeCeiling).lfr = s.lfr ∧ (s.recomputeCeiling).tlm = s.tlm
    ∧ (s.recomputeCeiling).rfm = s.rfm ∧ (s.recomputeCeiling).dsu = s.dsu ∧ (s.recomputeCeiling).tpt = s.tpt
    ∧ (s.recomputeCeiling).sha = s.sha ∧ (s.recomputeCeiling).stu = s.stu ∧ (s.recomputeCeiling).fmn = s.fmn
    ∧ (s.recomputeCeiling).il = s.il ∧ (s.recomputeCeiling).work = s.work := by
  unfold State.recomputeCeiling
  split <;> simp

@[simp] theorem State.recordRaise_frame (s : State) (x : Raise) :
    (s.recordRaise x).pending = s.pending ∧ (s.recordRaise x).pins = s.pins ∧ (s.recordRaise x).spc = s.spc
    ∧ (s.recordRaise x).lfr = s.lfr ∧ (s.recordRaise x).lau = s.lau ∧ (s.recordRaise x).tlm = s.tlm
    ∧ (s.recordRaise x).rfm = s.rfm ∧ (s.recordRaise x).dsu = s.dsu ∧ (s.recordRaise x).tpt = s.tpt
    ∧ (s.recordRaise x).sha = s.sha ∧ (s.recordRaise x).stu = s.stu ∧ (s.recordRaise x).il = s.il
    ∧ (s.recordRaise x).mp = s.mp ∧ (s.recordRaise x).work = s.work := by
  exact ⟨rfl, rfl, rfl, rfl, rfl, rfl, rfl, rfl, rfl, rfl, rfl, rfl, rfl, rfl⟩

@[simp] theorem State.latchRow_frame (s : State) (r : Nat) :
    (s.latchRow r).pending = s.pending ∧ (s.latchRow r).pins = s.pins ∧ (s.latchRow r).spc = s.spc
    ∧ (s.latchRow r).lfr = s.lfr ∧ (s.latchRow r).lau = s.lau ∧ (s.latchRow r).tlm = s.tlm
    ∧ (s.latchRow r).rfm = s.rfm ∧ (s.latchRow r).dsu = s.dsu ∧ (s.latchRow r).tpt = s.tpt
    ∧ (s.latchRow r).sha = s.sha ∧ (s.latchRow r).stu = s.stu ∧ (s.latchRow r).il = s.il ∧ (s.latchRow r).mp = s.mp
    ∧ (s.latchRow r).work = s.work := by
  exact ⟨rfl, rfl, rfl, rfl, rfl, rfl, rfl, rfl, rfl, rfl, rfl, rfl, rfl, rfl⟩

@[simp] theorem State.maskRow_frame (s : State) (r : Nat) :
    (s.maskRow r).pending = s.pending ∧ (s.maskRow r).pins = s.pins ∧ (s.maskRow r).spc = s.spc
    ∧ (s.maskRow r).lfr = s.lfr ∧ (s.maskRow r).lau = s.lau ∧ (s.maskRow r).tlm = s.tlm ∧ (s.maskRow r).rfm = s.rfm
    ∧ (s.maskRow r).dsu = s.dsu ∧ (s.maskRow r).tpt = s.tpt ∧ (s.maskRow r).sha = s.sha ∧ (s.maskRow r).stu = s.stu
    ∧ (s.maskRow r).il = s.il ∧ (s.maskRow r).mp = s.mp ∧ (s.maskRow r).work = s.work := by
  exact ⟨rfl, rfl, rfl, rfl, rfl, rfl, rfl, rfl, rfl, rfl, rfl, rfl, rfl, rfl⟩

@[simp] theorem State.beginAction_frame (s : State) (r : Nat) (a : Response) :
    (s.beginAction r a).pending = s.pending ∧ (s.beginAction r a).pins = s.pins ∧ (s.beginAction r a).spc = s.spc
    ∧ (s.beginAction r a).lfr = s.lfr ∧ (s.beginAction r a).tlm = s.tlm ∧ (s.beginAction r a).rfm = s.rfm
    ∧ (s.beginAction r a).dsu = s.dsu ∧ (s.beginAction r a).tpt = s.tpt ∧ (s.beginAction r a).sha = s.sha
    ∧ (s.beginAction r a).stu = s.stu ∧ (s.beginAction r a).il = s.il := by
  unfold State.beginAction
  split <;> simp

@[simp] theorem State.noteReplaced_frame (s : State) (o : Option Outstanding) (r : Nat) :
    (s.noteReplaced o r).pending = s.pending ∧ (s.noteReplaced o r).pins = s.pins
    ∧ (s.noteReplaced o r).spc = s.spc ∧ (s.noteReplaced o r).lfr = s.lfr ∧ (s.noteReplaced o r).lau = s.lau
    ∧ (s.noteReplaced o r).tlm = s.tlm ∧ (s.noteReplaced o r).rfm = s.rfm ∧ (s.noteReplaced o r).dsu = s.dsu
    ∧ (s.noteReplaced o r).tpt = s.tpt ∧ (s.noteReplaced o r).sha = s.sha ∧ (s.noteReplaced o r).stu = s.stu
    ∧ (s.noteReplaced o r).fmn = s.fmn ∧ (s.noteReplaced o r).il = s.il ∧ (s.noteReplaced o r).work = s.work := by
  unfold State.noteReplaced
  (repeat' split) <;> simp_all

@[simp] theorem State.takeResponse_frame (s : State) (x : Raise) (r : Response) :
    (s.takeResponse x r).pending = s.pending ∧ (s.takeResponse x r).pins = s.pins
    ∧ (s.takeResponse x r).spc = s.spc ∧ (s.takeResponse x r).lfr = s.lfr ∧ (s.takeResponse x r).tlm = s.tlm
    ∧ (s.takeResponse x r).rfm = s.rfm ∧ (s.takeResponse x r).dsu = s.dsu ∧ (s.takeResponse x r).tpt = s.tpt
    ∧ (s.takeResponse x r).sha = s.sha ∧ (s.takeResponse x r).stu = s.stu ∧ (s.takeResponse x r).il = s.il := by
  unfold State.takeResponse
  simp

@[simp] theorem State.answerRaise_frame (s : State) (x : Raise) :
    (s.answerRaise x).pending = s.pending ∧ (s.answerRaise x).pins = s.pins ∧ (s.answerRaise x).spc = s.spc
    ∧ (s.answerRaise x).lfr = s.lfr ∧ (s.answerRaise x).tlm = s.tlm ∧ (s.answerRaise x).rfm = s.rfm
    ∧ (s.answerRaise x).dsu = s.dsu ∧ (s.answerRaise x).tpt = s.tpt ∧ (s.answerRaise x).sha = s.sha
    ∧ (s.answerRaise x).stu = s.stu ∧ (s.answerRaise x).il = s.il := by
  unfold State.answerRaise
  (repeat' split) <;> simp_all

@[simp] theorem State.raise_frame (s : State) (x : Raise) :
    (s.raise x).pending = s.pending ∧ (s.raise x).pins = s.pins ∧ (s.raise x).spc = s.spc ∧ (s.raise x).lfr = s.lfr
    ∧ (s.raise x).tlm = s.tlm ∧ (s.raise x).rfm = s.rfm ∧ (s.raise x).dsu = s.dsu ∧ (s.raise x).tpt = s.tpt
    ∧ (s.raise x).sha = s.sha ∧ (s.raise x).stu = s.stu ∧ (s.raise x).il = s.il := by
  unfold State.raise
  split <;> simp

@[simp] theorem State.raiseNow_frame (s : State) (r d : Nat) :
    (s.raiseNow r d).pending = s.pending ∧ (s.raiseNow r d).pins = s.pins ∧ (s.raiseNow r d).spc = s.spc
    ∧ (s.raiseNow r d).lfr = s.lfr ∧ (s.raiseNow r d).tlm = s.tlm ∧ (s.raiseNow r d).rfm = s.rfm
    ∧ (s.raiseNow r d).dsu = s.dsu ∧ (s.raiseNow r d).tpt = s.tpt ∧ (s.raiseNow r d).sha = s.sha
    ∧ (s.raiseNow r d).stu = s.stu ∧ (s.raiseNow r d).il = s.il := by
  unfold State.raiseNow
  simp

@[simp] theorem State.clear_frame (s : State) (r : Nat) :
    (s.clear r).pending = s.pending ∧ (s.clear r).pins = s.pins ∧ (s.clear r).spc = s.spc ∧ (s.clear r).lfr = s.lfr
    ∧ (s.clear r).lau = s.lau ∧ (s.clear r).tlm = s.tlm ∧ (s.clear r).rfm = s.rfm ∧ (s.clear r).dsu = s.dsu
    ∧ (s.clear r).tpt = s.tpt ∧ (s.clear r).sha = s.sha ∧ (s.clear r).stu = s.stu ∧ (s.clear r).il = s.il
    ∧ (s.clear r).work = s.work := by
  unfold State.clear
  simp only
  (repeat' split) <;> simp

@[simp] theorem State.wantAlloc_frame (s : State) (t : Trigger) :
    (s.wantAlloc t).pending = s.pending ∧ (s.wantAlloc t).pins = s.pins ∧ (s.wantAlloc t).spc = s.spc
    ∧ (s.wantAlloc t).lfr = s.lfr ∧ (s.wantAlloc t).lau = s.lau ∧ (s.wantAlloc t).tlm = s.tlm
    ∧ (s.wantAlloc t).rfm = s.rfm ∧ (s.wantAlloc t).dsu = s.dsu ∧ (s.wantAlloc t).tpt = s.tpt
    ∧ (s.wantAlloc t).sha = s.sha ∧ (s.wantAlloc t).stu = s.stu ∧ (s.wantAlloc t).fmn = s.fmn
    ∧ (s.wantAlloc t).il = s.il ∧ (s.wantAlloc t).mp = s.mp := by
  unfold State.wantAlloc
  split <;> simp

end Sys2Proof.Machine
end

