-- ==== Sys2Proof/Laws/Faults.lean ====
section
/-! SUPPORT. The Fault Monitor's shared operations: what a raise and a clear do to the rows, and the ceiling that follows
the fault cap. -/

namespace Sys2Proof.Machine

@[simp] theorem Fmn.modifyRow_length (f : Fmn) (r : Nat) (g : FaultRow → FaultRow) :
    (f.modifyRow r g).rows.length = f.rows.length := by simp [Fmn.modifyRow]

/-- Changing a row changes the rows alone. -/
theorem Fmn.modifyRow_frame (f : Fmn) (r : Nat) (g : FaultRow → FaultRow) :
    { f.modifyRow r g with rows := f.rows } = f := rfl

theorem Fmn.row_modifyRow_same (f : Fmn) (r : Nat) (g : FaultRow → FaultRow) (h : r < f.rows.length) :
    (f.modifyRow r g).row r = g (f.row r) := by simp [Fmn.row, Fmn.modifyRow, h]

theorem Fmn.row_modifyRow_other (f : Fmn) {r q : Nat} (g : FaultRow → FaultRow) (h : q ≠ r) :
    (f.modifyRow r g).row q = f.row q := by
  simp [Fmn.row, Fmn.modifyRow, h.symm]

/-- A change that leaves the active flag leaves every row's. -/
theorem Fmn.row_modifyRow_active (f : Fmn) (r q : Nat) (g : FaultRow → FaultRow) (h : ∀ w, (g w).active = w.active) :
    ((f.modifyRow r g).row q).active = (f.row q).active := by
  by_cases hq : q = r
  · subst hq
    by_cases hl : q < f.rows.length
    · rw [Fmn.row_modifyRow_same f q g hl, h]
    · simp [Fmn.row, Fmn.modifyRow, List.getElem?_eq_none (Nat.le_of_not_lt hl)]
  · rw [Fmn.row_modifyRow_other f g hq]

/-- A response taken leaves every active flag. -/
theorem Fmn.respond_active (f : Fmn) (x : Raise) (resp : Response) (now : SiteTime) (q : Nat) :
    ((f.respond x resp now).row q).active = (f.row q).active := by
  have h1 := Fmn.row_modifyRow_active f x.row q
    (fun w => { w with done := some (if actsAs resp x.phase = resp then .taken else .takenAsNote) }) (fun _ => rfl)
  unfold Fmn.respond
  cases f.out with
  | none => exact h1
  | some o =>
    exact (Fmn.row_modifyRow_active (f.modifyRow x.row
      (fun w => { w with done := some (if actsAs resp x.phase = resp then .taken else .takenAsNote) })) o.row q
      (fun w => { w with latched := true }) (fun _ => rfl)).trans h1

/-- An action begun leaves the fault table. -/
@[simp] theorem State.beginAction_rows (s : State) (r : Nat) (acted : Response) :
    (s.beginAction r acted).fmn.rows = s.fmn.rows := by
  cases acted <;> simp [State.beginAction]

@[simp] theorem State.noteReplaced_fmn (s : State) (o : Option Outstanding) (r : Nat) :
    (s.noteReplaced o r).fmn = s.fmn := by
  cases o with
  | none => rfl
  | some o => unfold State.noteReplaced; dsimp only; split <;> simp

theorem State.takeResponse_active (s : State) (x : Raise) (resp : Response) (q : Nat) :
    ((s.takeResponse x resp).fmn.row q).active = (s.fmn.row q).active := by
  rw [← Fmn.respond_active s.fmn x resp s.dsu.time q]
  simp [State.takeResponse, Fmn.row]

theorem State.answerRaise_active (s : State) (x : Raise) (q : Nat) :
    ((s.answerRaise x).fmn.row q).active = (s.fmn.row q).active := by
  have hl := Fmn.row_modifyRow_active s.fmn x.row q (fun w => { w with latched := true, done := some .latched })
    (fun _ => rfl)
  have hm := Fmn.row_modifyRow_active s.fmn x.row q
    (fun w => { w with latched := true, masked := true, done := some .masked }) (fun _ => rfl)
  unfold State.answerRaise
  split
  · exact hl
  · exact hl
  · split
    · split
      · exact hm
      · exact State.takeResponse_active s x _ q
    · exact State.takeResponse_active s x _ q

/-- After a raise the row is active, and every other row is active as before. -/
theorem State.raise_active (s : State) (x : Raise) (h : x.row < s.fmn.rows.length) (q : Nat) :
    ((s.raise x).fmn.row q).active = if q = x.row then true else (s.fmn.row q).active := by
  unfold State.raise
  split
  · next ha =>
    split
    · next hq => rw [hq, ha]
    · rfl
  · rw [State.answerRaise_active]
    by_cases hq : q = x.row
    · subst hq
      rw [if_pos rfl]
      simp only [State.recordRaise]
      exact congrArg FaultRow.active (Fmn.row_modifyRow_same s.fmn x.row _ h)
    · rw [if_neg hq]
      exact congrArg FaultRow.active (Fmn.row_modifyRow_other s.fmn _ hq)

/-- After a clear the row is inactive, and every other row is active as before. -/
theorem State.clear_active (s : State) (r q : Nat) :
    ((s.clear r).fmn.row q).active = if q = r then false else (s.fmn.row q).active := by
  unfold State.clear
  split
  · next ha =>
    have hr : r < s.fmn.rows.length := by
      by_contra hl
      simp [Fmn.row, List.getElem?_eq_none (Nat.le_of_not_lt hl)] at ha
    have hf : ((s.fmn.modifyRow r (fun w => { w with active := false })).row q).active =
        if q = r then false else (s.fmn.row q).active := by
      by_cases hq : q = r
      · subst hq
        rw [if_pos rfl, Fmn.row_modifyRow_same s.fmn q _ hr]
      · rw [if_neg hq, Fmn.row_modifyRow_other s.fmn _ hq]
    simp only
    split
    · exact hf
    · exact hf
  · next ha =>
    split
    · next hq => subst hq; simpa using ha
    · rfl

/-- After the recomputation the ceiling is the least of its three terms, and only it and the notices have changed. -/
theorem State.recomputeCeiling_ceiling (s : State) : s.recomputeCeiling.lau = { s.lau with ceiling := s.ceilingNow } := by
  unfold State.recomputeCeiling
  split
  · next h => rw [h]
  · rfl

end Sys2Proof.Machine
end

