-- ==== Sys2Proof/Laws/Memory.lean ====
section
/-! SUPPORT. The image buffer: every operation keeps its canonical form, and a byte read is the byte last written. -/

namespace Sys2Proof.Machine

theorem Memory.wfFrom_cons (lo k : Nat) (b : Byte) (m : Memory) :
    Memory.wfFrom lo ((k, b) :: m) = true ↔ lo ≤ k ∧ k < bufferSize ∧ b ≠ 0 ∧ Memory.wfFrom (k + 1) m = true := by
  simp [Memory.wfFrom, and_assoc]

theorem Memory.wfFrom_weaken {lo lo' : Nat} {m : Memory} (h : Memory.wfFrom lo m = true) (hl : lo' ≤ lo) :
    Memory.wfFrom lo' m = true := by
  cases m with
  | nil => rfl
  | cons c m =>
    obtain ⟨k, b⟩ := c
    rw [Memory.wfFrom_cons] at h ⊢
    exact ⟨by omega, h.2⟩

/-- A cell put in its place keeps the form. -/
theorem Memory.wfFrom_put {lo a : Nat} {m : Memory} (b : Byte) (h : Memory.wfFrom lo m = true) (hlo : lo ≤ a)
    (ha : a < bufferSize) : Memory.wfFrom lo (m.put a b) = true := by
  induction m generalizing lo with
  | nil =>
    simp only [Memory.put]
    split
    · rfl
    · next hb => exact (Memory.wfFrom_cons lo a b []).2 ⟨hlo, ha, hb, rfl⟩
  | cons c m ih =>
    obtain ⟨k, c⟩ := c
    have hc := (Memory.wfFrom_cons lo k c m).1 h
    simp only [Memory.put]
    split
    · next hak =>
      split
      · exact h
      · next hb =>
        rw [Memory.wfFrom_cons, Memory.wfFrom_cons]
        exact ⟨hlo, ha, hb, hak, hc.2⟩
    · next hak =>
      split
      · next hek =>
        split
        · exact Memory.wfFrom_weaken hc.2.2.2 (by omega)
        · next hb =>
          rw [Memory.wfFrom_cons]
          exact ⟨hlo, ha, hb, hek ▸ hc.2.2.2⟩
      · next hek =>
        rw [Memory.wfFrom_cons]
        exact ⟨hc.1, hc.2.1, hc.2.2.1, ih hc.2.2.2 (by omega)⟩

theorem Memory.wf_write {m : Memory} (a : Nat) (b : Byte) (h : m.wf = true) : (m.write a b).wf = true := by
  simp only [Memory.write]
  split
  · next ha => exact Memory.wfFrom_put b h (Nat.zero_le a) ha
  · exact h

theorem Memory.wf_writeBytes {m : Memory} (a : Nat) (bs : Bytes) (h : m.wf = true) : (m.writeBytes a bs).wf = true := by
  induction bs generalizing m a with
  | nil => exact h
  | cons b bs ih => exact ih _ (Memory.wf_write a b h)

theorem Memory.wf_ofBytes (bs : Bytes) : (Memory.ofBytes bs).wf = true := Memory.wf_writeBytes 0 bs rfl

/-- The image buffer has its form after reset. -/
theorem Memory.wf_reset : State.reset.il.buffer.wf = true := rfl

/-- Below every cell an unlisted address reads as 0. -/
theorem Memory.read_below {lo a : Nat} {m : Memory} (h : Memory.wfFrom lo m = true) (ha : a < lo) : m.read a = 0 := by
  induction m generalizing lo with
  | nil => rfl
  | cons c m ih =>
    obtain ⟨k, c⟩ := c
    have hc := (Memory.wfFrom_cons lo k c m).1 h
    simp only [Memory.read]
    rw [if_neg (by omega)]
    exact ih hc.2.2.2 (by omega)

/-- A byte read after a cell is put: the byte put at its address, the byte there before at any other. -/
theorem Memory.read_put {lo : Nat} {m : Memory} (a : Nat) (b : Byte) (h : Memory.wfFrom lo m = true) (x : Nat) :
    (m.put a b).read x = if x = a then b else m.read x := by
  induction m generalizing lo with
  | nil =>
    simp only [Memory.put]
    split
    · next hb => simp [Memory.read, hb]
    · simp only [Memory.read, eq_comm]
  | cons c m ih =>
    obtain ⟨k, c⟩ := c
    have hc := (Memory.wfFrom_cons lo k c m).1 h
    have hi := ih hc.2.2.2
    simp only [Memory.put]
    split
    · next hak =>
      have hz : x = a → Memory.read ((k, c) :: m) x = 0 := fun hx =>
        Memory.read_below (lo := k) (by rw [Memory.wfFrom_cons]; exact ⟨Nat.le_refl k, hc.2⟩) (by omega)
      split
      · next hb =>
        split
        · next hx => rw [hz hx, hb]
        · rfl
      · rw [Memory.read]
        by_cases hx : x = a
        · rw [if_pos hx.symm, if_pos hx]
        · rw [if_neg (fun h => hx h.symm), if_neg hx]
    · split
      · next _ hek =>
        subst hek
        split
        · next hb =>
          split
          · next hx => rw [hx, hb]; exact Memory.read_below hc.2.2.2 (by omega)
          · next hx => rw [Memory.read, if_neg (fun h => hx h.symm)]
        · simp only [Memory.read]
          by_cases hx : x = a
          · rw [if_pos hx.symm, if_pos hx]
          · rw [if_neg (fun h => hx h.symm), if_neg hx, if_neg (fun h => hx h.symm)]
      · next _ hek =>
        simp only [Memory.read, hi]
        by_cases hx : k = x
        · rw [if_pos hx, if_pos hx, if_neg (by omega)]
        · rw [if_neg hx, if_neg hx]

theorem Memory.read_write {m : Memory} (a : Nat) (b : Byte) (h : m.wf = true) (ha : a < bufferSize) (x : Nat) :
    (m.write a b).read x = if x = a then b else m.read x := by
  rw [Memory.write, if_pos ha]
  exact Memory.read_put a b h x

/-- Bytes read after bytes are written: those written inside their range, those there before outside it. -/
theorem Memory.read_writeBytes {m : Memory} (a : Nat) (bs : Bytes) (h : m.wf = true) (ha : a + bs.length ≤ bufferSize)
    (x : Nat) :
    (m.writeBytes a bs).read x = if a ≤ x ∧ x < a + bs.length then bs.getD (x - a) 0 else m.read x := by
  induction bs generalizing m a with
  | nil => rw [Memory.writeBytes, if_neg (by simp)]
  | cons b bs ih =>
    simp only [List.length_cons] at ha
    rw [Memory.writeBytes, ih (a + 1) (Memory.wf_write a b h) (by omega), Memory.read_write a b h (by omega),
      List.length_cons]
    by_cases hx : x = a
    · subst hx
      rw [if_neg (by omega), if_pos rfl, if_pos (by omega), Nat.sub_self]
      rfl
    · rw [if_neg hx]
      by_cases hr : a + 1 ≤ x ∧ x < a + 1 + bs.length
      · rw [if_pos hr, if_pos (by omega), show x - a = (x - (a + 1)) + 1 by omega, List.getD_cons_succ]
      · rw [if_neg hr, if_neg (by omega)]

@[simp] theorem Memory.readBytes_length (m : Memory) (a n : Nat) : (m.readBytes a n).length = n := by
  induction n generalizing a with
  | zero => rfl
  | succ n ih => simp [Memory.readBytes, ih]

@[simp] theorem Il.bytes_length (il : Il) : il.bytes.length = 1024 := Memory.readBytes_length _ _ _

end Sys2Proof.Machine
end

