-- ==== Sys2Proof/Laws/Tenants.lean ====
section
/-! SUPPORT. What the Tenant Ports leave alone. -/

namespace Sys2Proof.Machine

@[simp] theorem State.modTenant_frame (s : State) (i : Fin 4) (f : Tenant → Tenant) :
    (s.modTenant i f).pending = s.pending ∧ (s.modTenant i f).pins = s.pins ∧ (s.modTenant i f).spc = s.spc
    ∧ (s.modTenant i f).lfr = s.lfr ∧ (s.modTenant i f).lau = s.lau ∧ (s.modTenant i f).tlm = s.tlm
    ∧ (s.modTenant i f).rfm = s.rfm ∧ (s.modTenant i f).dsu = s.dsu ∧ (s.modTenant i f).sha = s.sha
    ∧ (s.modTenant i f).stu = s.stu ∧ (s.modTenant i f).fmn = s.fmn ∧ (s.modTenant i f).il = s.il
    ∧ (s.modTenant i f).mp = s.mp ∧ (s.modTenant i f).work = s.work := by
  exact ⟨rfl, rfl, rfl, rfl, rfl, rfl, rfl, rfl, rfl, rfl, rfl, rfl, rfl, rfl⟩

@[simp] theorem State.tellTenant_frame (s : State) (i : Fin 4) (c : TenantCause) :
    (s.tellTenant i c).pending = s.pending ∧ (s.tellTenant i c).pins = s.pins ∧ (s.tellTenant i c).spc = s.spc
    ∧ (s.tellTenant i c).lfr = s.lfr ∧ (s.tellTenant i c).lau = s.lau ∧ (s.tellTenant i c).tlm = s.tlm
    ∧ (s.tellTenant i c).rfm = s.rfm ∧ (s.tellTenant i c).dsu = s.dsu ∧ (s.tellTenant i c).sha = s.sha
    ∧ (s.tellTenant i c).stu = s.stu ∧ (s.tellTenant i c).fmn = s.fmn ∧ (s.tellTenant i c).il = s.il
    ∧ (s.tellTenant i c).work = s.work := by
  exact ⟨rfl, rfl, rfl, rfl, rfl, rfl, rfl, rfl, rfl, rfl, rfl, rfl, rfl⟩

@[simp] theorem State.moveTenant_frame (s : State) (i : Fin 4) (st : TenantState) (c : TenantCause) :
    (s.moveTenant i st c).pending = s.pending ∧ (s.moveTenant i st c).pins = s.pins
    ∧ (s.moveTenant i st c).spc = s.spc ∧ (s.moveTenant i st c).lfr = s.lfr ∧ (s.moveTenant i st c).lau = s.lau
    ∧ (s.moveTenant i st c).tlm = s.tlm ∧ (s.moveTenant i st c).rfm = s.rfm ∧ (s.moveTenant i st c).dsu = s.dsu
    ∧ (s.moveTenant i st c).sha = s.sha ∧ (s.moveTenant i st c).stu = s.stu ∧ (s.moveTenant i st c).fmn = s.fmn
    ∧ (s.moveTenant i st c).il = s.il := by
  unfold State.moveTenant
  simp

@[simp] theorem State.activate_frame (s : State) (i : Fin 4) (c : TenantCause) :
    (s.activate i c).pending = s.pending ∧ (s.activate i c).pins = s.pins ∧ (s.activate i c).spc = s.spc
    ∧ (s.activate i c).lfr = s.lfr ∧ (s.activate i c).lau = s.lau ∧ (s.activate i c).tlm = s.tlm
    ∧ (s.activate i c).rfm = s.rfm ∧ (s.activate i c).dsu = s.dsu ∧ (s.activate i c).sha = s.sha
    ∧ (s.activate i c).stu = s.stu ∧ (s.activate i c).il = s.il := by
  unfold State.activate
  simp

@[simp] theorem State.tryActive_frame (s : State) (c : TenantCause) (i : Fin 4) :
    (s.tryActive c i).pending = s.pending ∧ (s.tryActive c i).pins = s.pins ∧ (s.tryActive c i).spc = s.spc
    ∧ (s.tryActive c i).lfr = s.lfr ∧ (s.tryActive c i).lau = s.lau ∧ (s.tryActive c i).tlm = s.tlm
    ∧ (s.tryActive c i).rfm = s.rfm ∧ (s.tryActive c i).dsu = s.dsu ∧ (s.tryActive c i).sha = s.sha
    ∧ (s.tryActive c i).stu = s.stu ∧ (s.tryActive c i).il = s.il := by
  unfold State.tryActive
  split <;> simp

@[simp] theorem State.hold_frame (s : State) (c : TenantCause) (i : Fin 4) :
    (s.hold c i).pending = s.pending ∧ (s.hold c i).pins = s.pins ∧ (s.hold c i).spc = s.spc
    ∧ (s.hold c i).lfr = s.lfr ∧ (s.hold c i).lau = s.lau ∧ (s.hold c i).tlm = s.tlm ∧ (s.hold c i).rfm = s.rfm
    ∧ (s.hold c i).dsu = s.dsu ∧ (s.hold c i).sha = s.sha ∧ (s.hold c i).stu = s.stu ∧ (s.hold c i).fmn = s.fmn
    ∧ (s.hold c i).il = s.il := by
  unfold State.hold
  split <;> simp

@[simp] theorem State.bar_frame (s : State) (i : Fin 4) (c : TenantCause) :
    (s.bar i c).pending = s.pending ∧ (s.bar i c).pins = s.pins ∧ (s.bar i c).spc = s.spc ∧ (s.bar i c).lfr = s.lfr
    ∧ (s.bar i c).lau = s.lau ∧ (s.bar i c).tlm = s.tlm ∧ (s.bar i c).rfm = s.rfm ∧ (s.bar i c).dsu = s.dsu
    ∧ (s.bar i c).sha = s.sha ∧ (s.bar i c).stu = s.stu ∧ (s.bar i c).fmn = s.fmn ∧ (s.bar i c).il = s.il := by
  unfold State.bar
  split <;> simp

@[simp] theorem State.unbar_frame (s : State) (i : Fin 4) :
    (s.unbar i).pending = s.pending ∧ (s.unbar i).pins = s.pins ∧ (s.unbar i).spc = s.spc ∧ (s.unbar i).lfr = s.lfr
    ∧ (s.unbar i).lau = s.lau ∧ (s.unbar i).tlm = s.tlm ∧ (s.unbar i).rfm = s.rfm ∧ (s.unbar i).dsu = s.dsu
    ∧ (s.unbar i).sha = s.sha ∧ (s.unbar i).stu = s.stu ∧ (s.unbar i).il = s.il := by
  unfold State.unbar
  split <;> simp

@[simp] theorem State.judgeFitness_frame (s : State) (c : TenantCause) (i : Fin 4) :
    (s.judgeFitness c i).pending = s.pending ∧ (s.judgeFitness c i).pins = s.pins
    ∧ (s.judgeFitness c i).spc = s.spc ∧ (s.judgeFitness c i).lfr = s.lfr ∧ (s.judgeFitness c i).tlm = s.tlm
    ∧ (s.judgeFitness c i).rfm = s.rfm ∧ (s.judgeFitness c i).dsu = s.dsu ∧ (s.judgeFitness c i).sha = s.sha
    ∧ (s.judgeFitness c i).stu = s.stu ∧ (s.judgeFitness c i).il = s.il := by
  unfold State.judgeFitness
  simp only
  (repeat' split) <;> simp

@[simp] theorem State.handQuality_frame (s : State) :
    (s.handQuality).pending = s.pending ∧ (s.handQuality).pins = s.pins ∧ (s.handQuality).spc = s.spc
    ∧ (s.handQuality).lfr = s.lfr ∧ (s.handQuality).tlm = s.tlm ∧ (s.handQuality).rfm = s.rfm
    ∧ (s.handQuality).dsu = s.dsu ∧ (s.handQuality).sha = s.sha ∧ (s.handQuality).stu = s.stu
    ∧ (s.handQuality).il = s.il := by
  simp [State.handQuality, State.forTenants, tenants]

@[simp] theorem State.refitDone_frame (s : State) (i : Fin 4) :
    (s.refitDone i).pending = s.pending ∧ (s.refitDone i).pins = s.pins ∧ (s.refitDone i).spc = s.spc
    ∧ (s.refitDone i).lfr = s.lfr ∧ (s.refitDone i).lau = s.lau ∧ (s.refitDone i).tlm = s.tlm
    ∧ (s.refitDone i).rfm = s.rfm ∧ (s.refitDone i).dsu = s.dsu ∧ (s.refitDone i).sha = s.sha
    ∧ (s.refitDone i).stu = s.stu ∧ (s.refitDone i).il = s.il := by
  unfold State.refitDone
  simp only
  (repeat' split) <;> simp

@[simp] theorem State.enterEntry_frame (s : State) (i : Fin 4) (e : Entry) (n : Nat) (c : TenantCause) :
    (s.enterEntry i e n c).pending = s.pending ∧ (s.enterEntry i e n c).pins = s.pins
    ∧ (s.enterEntry i e n c).spc = s.spc ∧ (s.enterEntry i e n c).lfr = s.lfr ∧ (s.enterEntry i e n c).tlm = s.tlm
    ∧ (s.enterEntry i e n c).rfm = s.rfm ∧ (s.enterEntry i e n c).dsu = s.dsu ∧ (s.enterEntry i e n c).sha = s.sha
    ∧ (s.enterEntry i e n c).stu = s.stu ∧ (s.enterEntry i e n c).il = s.il := by
  unfold State.enterEntry
  simp only
  (repeat' split) <;> simp

@[simp] theorem State.vacate_frame (s : State) (i : Fin 4) :
    (s.vacate i).pending = s.pending ∧ (s.vacate i).pins = s.pins ∧ (s.vacate i).spc = s.spc
    ∧ (s.vacate i).lfr = s.lfr ∧ (s.vacate i).lau = s.lau ∧ (s.vacate i).tlm = s.tlm ∧ (s.vacate i).rfm = s.rfm
    ∧ (s.vacate i).dsu = s.dsu ∧ (s.vacate i).sha = s.sha ∧ (s.vacate i).stu = s.stu ∧ (s.vacate i).il = s.il := by
  unfold State.vacate
  simp

@[simp] theorem State.replaceEntry_frame (s : State) (i : Fin 4) (e : Entry) :
    (s.replaceEntry i e).pending = s.pending ∧ (s.replaceEntry i e).pins = s.pins
    ∧ (s.replaceEntry i e).spc = s.spc ∧ (s.replaceEntry i e).lfr = s.lfr ∧ (s.replaceEntry i e).tlm = s.tlm
    ∧ (s.replaceEntry i e).rfm = s.rfm ∧ (s.replaceEntry i e).dsu = s.dsu ∧ (s.replaceEntry i e).sha = s.sha
    ∧ (s.replaceEntry i e).stu = s.stu ∧ (s.replaceEntry i e).il = s.il := by
  unfold State.replaceEntry
  split <;> simp

@[simp] theorem State.portLink_frame (s : State) (i : Fin 4) (up : Bool) :
    (s.portLink i up).pending = s.pending ∧ (s.portLink i up).pins = s.pins ∧ (s.portLink i up).spc = s.spc
    ∧ (s.portLink i up).lfr = s.lfr ∧ (s.portLink i up).tlm = s.tlm ∧ (s.portLink i up).rfm = s.rfm
    ∧ (s.portLink i up).dsu = s.dsu ∧ (s.portLink i up).sha = s.sha ∧ (s.portLink i up).stu = s.stu
    ∧ (s.portLink i up).il = s.il := by
  unfold State.portLink
  simp only
  (repeat' split) <;> simp

@[simp] theorem State.arrive_frame (s : State) (i : Fin 4) (p : Bytes) :
    (s.arrive i p).pending = s.pending ∧ (s.arrive i p).pins = s.pins ∧ (s.arrive i p).spc = s.spc
    ∧ (s.arrive i p).lfr = s.lfr ∧ (s.arrive i p).tlm = s.tlm ∧ (s.arrive i p).rfm = s.rfm
    ∧ (s.arrive i p).dsu = s.dsu ∧ (s.arrive i p).sha = s.sha ∧ (s.arrive i p).stu = s.stu
    ∧ (s.arrive i p).il = s.il := by
  unfold State.arrive
  simp only
  (repeat' split) <;> simp

@[simp] theorem State.dropSecond_frame (s : State) (i : Fin 4) :
    (s.dropSecond i).pending = s.pending ∧ (s.dropSecond i).pins = s.pins ∧ (s.dropSecond i).spc = s.spc
    ∧ (s.dropSecond i).lfr = s.lfr ∧ (s.dropSecond i).lau = s.lau ∧ (s.dropSecond i).tlm = s.tlm
    ∧ (s.dropSecond i).rfm = s.rfm ∧ (s.dropSecond i).dsu = s.dsu ∧ (s.dropSecond i).sha = s.sha
    ∧ (s.dropSecond i).stu = s.stu ∧ (s.dropSecond i).il = s.il ∧ (s.dropSecond i).work = s.work := by
  unfold State.dropSecond
  simp only
  (repeat' split) <;> simp

/-! ### What they change of the tenants -/

@[simp] theorem State.modTenant_tpt (s : State) (i : Fin 4) (f : Tenant → Tenant) :
    (s.modTenant i f).tpt = s.tpt.set i (f (s.tpt.get i)) := rfl

@[simp] theorem State.tellTenant_tpt (s : State) (i : Fin 4) (c : TenantCause) :
    (s.tellTenant i c).tpt = s.tpt.set i { s.tpt.get i with cause := c } := rfl

/-- A move between states changes the state, its permit and what the next notice says of it (R107, R116). -/
theorem State.moveTenant_tpt (s : State) (i : Fin 4) (st : TenantState) (c : TenantCause) :
    (s.moveTenant i st c).tpt = s.tpt.set i { s.tpt.get i with
      left := (s.tpt.get i).state, state := st, permit := decide (st = .active), cause := c } := by
  unfold State.moveTenant
  simp only [show ∀ (t : State) (a : Trigger), (t.wantAlloc a).tpt = t.tpt from fun t a => by simp]
  simp

theorem State.activate_tpt (s : State) (i : Fin 4) (c : TenantCause) :
    (s.activate i c).tpt = s.tpt.set i { s.tpt.get i with
      left := (s.tpt.get i).state, state := .active, permit := true, cause := c } := by
  rw [State.activate, show ∀ (t : State) (r : Nat), (t.clear r).tpt = t.tpt from fun t r => by simp,
    State.moveTenant_tpt]
  simp

end Sys2Proof.Machine
end

