-- ==== Sys2Proof/Laws/SelfTest.lean ====
section
/-! SUPPORT. What the Share Allocator and the Self-Test Unit leave alone. -/

namespace Sys2Proof.Machine

@[simp] theorem State.announce_frame (s : State) (c : MapCounts) (p : Nat) :
    (s.announce c p).pending = s.pending ∧ (s.announce c p).pins = s.pins ∧ (s.announce c p).spc = s.spc
    ∧ (s.announce c p).lau = s.lau ∧ (s.announce c p).tlm = s.tlm ∧ (s.announce c p).rfm = s.rfm
    ∧ (s.announce c p).dsu = s.dsu ∧ (s.announce c p).tpt = s.tpt ∧ (s.announce c p).sha = s.sha
    ∧ (s.announce c p).stu = s.stu ∧ (s.announce c p).fmn = s.fmn ∧ (s.announce c p).il = s.il
    ∧ (s.announce c p).work = s.work := by
  exact ⟨rfl, rfl, rfl, rfl, rfl, rfl, rfl, rfl, rfl, rfl, rfl, rfl, rfl⟩

@[simp] theorem State.handNewest_frame (s : State) (c : MapCounts) (p : Nat) (k : TriggerKind) :
    (s.handNewest c p k).pending = s.pending ∧ (s.handNewest c p k).pins = s.pins
    ∧ (s.handNewest c p k).spc = s.spc ∧ (s.handNewest c p k).lau = s.lau ∧ (s.handNewest c p k).tlm = s.tlm
    ∧ (s.handNewest c p k).rfm = s.rfm ∧ (s.handNewest c p k).dsu = s.dsu ∧ (s.handNewest c p k).tpt = s.tpt
    ∧ (s.handNewest c p k).sha = s.sha ∧ (s.handNewest c p k).stu = s.stu ∧ (s.handNewest c p k).fmn = s.fmn
    ∧ (s.handNewest c p k).il = s.il ∧ (s.handNewest c p k).work = s.work := by
  unfold State.handNewest
  simp only
  (repeat' split) <;> simp

@[simp] theorem State.computeShare_frame (s : State) (t : Trigger) (x : ShareOut) :
    (s.computeShare t x).pending = s.pending ∧ (s.computeShare t x).pins = s.pins
    ∧ (s.computeShare t x).spc = s.spc ∧ (s.computeShare t x).lau = s.lau ∧ (s.computeShare t x).tlm = s.tlm
    ∧ (s.computeShare t x).rfm = s.rfm ∧ (s.computeShare t x).dsu = s.dsu ∧ (s.computeShare t x).tpt = s.tpt
    ∧ (s.computeShare t x).stu = s.stu ∧ (s.computeShare t x).fmn = s.fmn ∧ (s.computeShare t x).il = s.il
    ∧ (s.computeShare t x).work = s.work := by
  unfold State.computeShare
  simp

@[simp] theorem State.testRequest_frame (s : State) (n : Nat) :
    (s.testRequest n).pending = s.pending ∧ (s.testRequest n).pins = s.pins ∧ (s.testRequest n).spc = s.spc
    ∧ (s.testRequest n).lfr = s.lfr ∧ (s.testRequest n).lau = s.lau ∧ (s.testRequest n).tlm = s.tlm
    ∧ (s.testRequest n).rfm = s.rfm ∧ (s.testRequest n).dsu = s.dsu ∧ (s.testRequest n).tpt = s.tpt
    ∧ (s.testRequest n).stu = s.stu ∧ (s.testRequest n).fmn = s.fmn ∧ (s.testRequest n).il = s.il
    ∧ (s.testRequest n).mp = s.mp := by
  unfold State.testRequest
  simp

@[simp] theorem State.testRelease_frame (s : State) :
    (s.testRelease).pending = s.pending ∧ (s.testRelease).pins = s.pins ∧ (s.testRelease).spc = s.spc
    ∧ (s.testRelease).lfr = s.lfr ∧ (s.testRelease).lau = s.lau ∧ (s.testRelease).tlm = s.tlm
    ∧ (s.testRelease).rfm = s.rfm ∧ (s.testRelease).dsu = s.dsu ∧ (s.testRelease).tpt = s.tpt
    ∧ (s.testRelease).stu = s.stu ∧ (s.testRelease).fmn = s.fmn ∧ (s.testRelease).il = s.il
    ∧ (s.testRelease).mp = s.mp := by
  unfold State.testRelease
  simp

@[simp] theorem State.settleRelease_frame (s : State) :
    (s.settleRelease).pending = s.pending ∧ (s.settleRelease).pins = s.pins ∧ (s.settleRelease).spc = s.spc
    ∧ (s.settleRelease).lfr = s.lfr ∧ (s.settleRelease).lau = s.lau ∧ (s.settleRelease).tlm = s.tlm
    ∧ (s.settleRelease).rfm = s.rfm ∧ (s.settleRelease).dsu = s.dsu ∧ (s.settleRelease).tpt = s.tpt
    ∧ (s.settleRelease).sha = s.sha ∧ (s.settleRelease).stu = { s.stu with lateRelease := false }
    ∧ (s.settleRelease).fmn = s.fmn ∧ (s.settleRelease).il = s.il ∧ (s.settleRelease).mp = s.mp := by
  have same : ∀ u : Stu, ¬u.lateRelease = true → u = { u with lateRelease := false } := by
    intro u hu
    cases u
    simp_all
  unfold State.settleRelease
  split
  · simp
  · rename_i h
    simp [← same s.stu h]

@[simp] theorem State.setActive_frame (s : State) (r : Run) :
    (s.setActive r).pending = s.pending ∧ (s.setActive r).pins = s.pins ∧ (s.setActive r).spc = s.spc
    ∧ (s.setActive r).lfr = s.lfr ∧ (s.setActive r).lau = s.lau ∧ (s.setActive r).tlm = s.tlm
    ∧ (s.setActive r).rfm = s.rfm ∧ (s.setActive r).dsu = s.dsu ∧ (s.setActive r).tpt = s.tpt
    ∧ (s.setActive r).sha = s.sha ∧ (s.setActive r).fmn = s.fmn ∧ (s.setActive r).il = s.il
    ∧ (s.setActive r).mp = s.mp ∧ (s.setActive r).work = s.work := by
  exact ⟨rfl, rfl, rfl, rfl, rfl, rfl, rfl, rfl, rfl, rfl, rfl, rfl, rfl, rfl⟩

@[simp] theorem State.requestRun_frame (s : State) (i : Nat) (b : Bool) :
    (s.requestRun i b).pending = s.pending ∧ (s.requestRun i b).pins = s.pins ∧ (s.requestRun i b).spc = s.spc
    ∧ (s.requestRun i b).lfr = s.lfr ∧ (s.requestRun i b).lau = s.lau ∧ (s.requestRun i b).tlm = s.tlm
    ∧ (s.requestRun i b).rfm = s.rfm ∧ (s.requestRun i b).dsu = s.dsu ∧ (s.requestRun i b).tpt = s.tpt
    ∧ (s.requestRun i b).sha = s.sha ∧ (s.requestRun i b).fmn = s.fmn ∧ (s.requestRun i b).il = s.il
    ∧ (s.requestRun i b).mp = s.mp := by
  unfold State.requestRun
  (repeat' split) <;> simp_all

@[simp] theorem State.requestRound_frame (s : State) :
    (s.requestRound).pending = s.pending ∧ (s.requestRound).pins = s.pins ∧ (s.requestRound).spc = s.spc
    ∧ (s.requestRound).lfr = s.lfr ∧ (s.requestRound).lau = s.lau ∧ (s.requestRound).tlm = s.tlm
    ∧ (s.requestRound).rfm = s.rfm ∧ (s.requestRound).dsu = s.dsu ∧ (s.requestRound).tpt = s.tpt
    ∧ (s.requestRound).sha = s.sha ∧ (s.requestRound).fmn = s.fmn ∧ (s.requestRound).il = s.il
    ∧ (s.requestRound).mp = s.mp := by
  unfold State.requestRound
  generalize s.stu.entriesOf .bringup = l
  induction l generalizing s with
  | nil => simp
  | cons i l ih => simpa using ih (s.requestRun i true)

@[simp] theorem State.dueSecond_frame (s : State) (b : Bool) :
    (s.dueSecond b).pending = s.pending ∧ (s.dueSecond b).pins = s.pins ∧ (s.dueSecond b).spc = s.spc
    ∧ (s.dueSecond b).lfr = s.lfr ∧ (s.dueSecond b).lau = s.lau ∧ (s.dueSecond b).tlm = s.tlm ∧ (s.dueSecond b).rfm = s.rfm
    ∧ (s.dueSecond b).dsu = s.dsu ∧ (s.dueSecond b).tpt = s.tpt ∧ (s.dueSecond b).sha = s.sha ∧ (s.dueSecond b).fmn = s.fmn
    ∧ (s.dueSecond b).il = s.il ∧ (s.dueSecond b).mp = s.mp := by
  unfold State.dueSecond
  split
  · generalize s.stu.entriesOf .periodic = l
    clear * -
    induction l generalizing s with
    | nil => simp
    | cons i l ih =>
      simp only [List.foldl_cons]
      split
      · simpa using ih (State.requestRun { s with stu.due := s.stu.due.set i 0 } i false)
      · simpa using ih { s with stu.due := s.stu.due.set i ((s.stu.due[i]?).getD 0 + 1) }
  · simp

@[simp] theorem State.removeRuns_frame (s : State) (w : Run → Bool) :
    (s.removeRuns w).pending = s.pending ∧ (s.removeRuns w).pins = s.pins ∧ (s.removeRuns w).spc = s.spc
    ∧ (s.removeRuns w).lfr = s.lfr ∧ (s.removeRuns w).lau = s.lau ∧ (s.removeRuns w).tlm = s.tlm
    ∧ (s.removeRuns w).rfm = s.rfm ∧ (s.removeRuns w).dsu = s.dsu ∧ (s.removeRuns w).tpt = s.tpt
    ∧ (s.removeRuns w).sha = s.sha ∧ (s.removeRuns w).fmn = s.fmn ∧ (s.removeRuns w).il = s.il
    ∧ (s.removeRuns w).work = s.work := by
  unfold State.removeRuns
  simp only
  split <;> simp

@[simp] theorem State.settleOutcome_frame (s : State) (r : Run) (x : RunOutcome) :
    (s.settleOutcome r x).pending = s.pending ∧ (s.settleOutcome r x).pins = s.pins
    ∧ (s.settleOutcome r x).spc = s.spc ∧ (s.settleOutcome r x).lfr = s.lfr ∧ (s.settleOutcome r x).tlm = s.tlm
    ∧ (s.settleOutcome r x).rfm = s.rfm ∧ (s.settleOutcome r x).dsu = s.dsu ∧ (s.settleOutcome r x).tpt = s.tpt
    ∧ (s.settleOutcome r x).sha = s.sha ∧ (s.settleOutcome r x).il = s.il := by
  unfold State.settleOutcome
  simp only
  (repeat' split) <;> simp

@[simp] theorem State.logRun_frame (s : State) (r : Run) (x : RunOutcome) (c : RunCause) :
    (s.logRun r x c).pending = s.pending ∧ (s.logRun r x c).pins = s.pins ∧ (s.logRun r x c).spc = s.spc
    ∧ (s.logRun r x c).lfr = s.lfr ∧ (s.logRun r x c).lau = s.lau ∧ (s.logRun r x c).tlm = s.tlm
    ∧ (s.logRun r x c).rfm = s.rfm ∧ (s.logRun r x c).dsu = s.dsu ∧ (s.logRun r x c).tpt = s.tpt
    ∧ (s.logRun r x c).sha = s.sha ∧ (s.logRun r x c).fmn = s.fmn ∧ (s.logRun r x c).il = s.il
    ∧ (s.logRun r x c).mp = s.mp ∧ (s.logRun r x c).work = s.work := by
  exact ⟨rfl, rfl, rfl, rfl, rfl, rfl, rfl, rfl, rfl, rfl, rfl, rfl, rfl, rfl⟩

@[simp] theorem State.finishRun_frame (s : State) (r : Run) (x : RunOutcome) (c : RunCause) :
    (s.finishRun r x c).pending = s.pending ∧ (s.finishRun r x c).pins = s.pins ∧ (s.finishRun r x c).spc = s.spc
    ∧ (s.finishRun r x c).lfr = s.lfr ∧ (s.finishRun r x c).tlm = s.tlm ∧ (s.finishRun r x c).rfm = s.rfm
    ∧ (s.finishRun r x c).dsu = s.dsu ∧ (s.finishRun r x c).tpt = s.tpt ∧ (s.finishRun r x c).sha = s.sha
    ∧ (s.finishRun r x c).il = s.il := by
  unfold State.finishRun
  simp

@[simp] theorem State.giveBack_frame (s : State) (r : Run) (c : RunCause) :
    (s.giveBack r c).pending = s.pending ∧ (s.giveBack r c).pins = s.pins ∧ (s.giveBack r c).spc = s.spc
    ∧ (s.giveBack r c).lfr = s.lfr ∧ (s.giveBack r c).lau = s.lau ∧ (s.giveBack r c).tlm = s.tlm
    ∧ (s.giveBack r c).rfm = s.rfm ∧ (s.giveBack r c).dsu = s.dsu ∧ (s.giveBack r c).tpt = s.tpt
    ∧ (s.giveBack r c).fmn = s.fmn ∧ (s.giveBack r c).il = s.il ∧ (s.giveBack r c).mp = s.mp := by
  unfold State.giveBack
  (repeat' split) <;> simp_all

@[simp] theorem State.abortQuietly_frame (s : State) (c : PhaseCause) (w : Run → Bool) :
    (s.abortQuietly c w).pending = s.pending ∧ (s.abortQuietly c w).pins = s.pins
    ∧ (s.abortQuietly c w).spc = s.spc ∧ (s.abortQuietly c w).lfr = s.lfr ∧ (s.abortQuietly c w).tlm = s.tlm
    ∧ (s.abortQuietly c w).rfm = s.rfm ∧ (s.abortQuietly c w).dsu = s.dsu ∧ (s.abortQuietly c w).tpt = s.tpt
    ∧ (s.abortQuietly c w).il = s.il := by
  unfold State.abortQuietly
  (repeat' split) <;> simp_all

@[simp] theorem State.roundOver_frame (s : State) (c : PhaseCause) :
    (s.roundOver c).pending = s.pending ∧ (s.roundOver c).pins = s.pins ∧ (s.roundOver c).spc = s.spc
    ∧ (s.roundOver c).lfr = s.lfr ∧ (s.roundOver c).tlm = s.tlm ∧ (s.roundOver c).rfm = s.rfm
    ∧ (s.roundOver c).dsu = s.dsu ∧ (s.roundOver c).tpt = s.tpt ∧ (s.roundOver c).il = s.il := by
  unfold State.roundOver
  simp

@[simp] theorem State.stopRuns_frame (s : State) (c : PhaseCause) :
    (s.stopRuns c).pending = s.pending ∧ (s.stopRuns c).pins = s.pins ∧ (s.stopRuns c).spc = s.spc
    ∧ (s.stopRuns c).lfr = s.lfr ∧ (s.stopRuns c).tlm = s.tlm ∧ (s.stopRuns c).rfm = s.rfm
    ∧ (s.stopRuns c).dsu = s.dsu ∧ (s.stopRuns c).tpt = s.tpt ∧ (s.stopRuns c).il = s.il := by
  unfold State.stopRuns
  simp

@[simp] theorem State.grantGiven_frame (s : State) :
    (s.grantGiven).pending = s.pending ∧ (s.grantGiven).pins = s.pins ∧ (s.grantGiven).spc = s.spc
    ∧ (s.grantGiven).lau = s.lau ∧ (s.grantGiven).tlm = s.tlm ∧ (s.grantGiven).rfm = s.rfm
    ∧ (s.grantGiven).dsu = s.dsu ∧ (s.grantGiven).tpt = s.tpt ∧ (s.grantGiven).sha = s.sha
    ∧ (s.grantGiven).fmn = s.fmn ∧ (s.grantGiven).il = s.il ∧ (s.grantGiven).work = s.work := by
  unfold State.grantGiven
  (repeat' split) <;> simp_all

@[simp] theorem State.mapTaken_frame (s : State) (n : Nat) :
    (s.mapTaken n).pending = s.pending ∧ (s.mapTaken n).pins = s.pins ∧ (s.mapTaken n).spc = s.spc
    ∧ (s.mapTaken n).lfr = s.lfr ∧ (s.mapTaken n).lau = s.lau ∧ (s.mapTaken n).tlm = s.tlm
    ∧ (s.mapTaken n).rfm = s.rfm ∧ (s.mapTaken n).dsu = s.dsu ∧ (s.mapTaken n).tpt = s.tpt
    ∧ (s.mapTaken n).sha = s.sha ∧ (s.mapTaken n).fmn = s.fmn ∧ (s.mapTaken n).il = s.il
    ∧ (s.mapTaken n).work = s.work := by
  unfold State.mapTaken
  (repeat' split) <;> simp_all

@[simp] theorem State.countFrame_frame (s : State) :
    (s.countFrame).pending = s.pending ∧ (s.countFrame).pins = s.pins ∧ (s.countFrame).spc = s.spc
    ∧ (s.countFrame).lfr = s.lfr ∧ (s.countFrame).lau = s.lau ∧ (s.countFrame).tlm = s.tlm
    ∧ (s.countFrame).rfm = s.rfm ∧ (s.countFrame).dsu = s.dsu ∧ (s.countFrame).tpt = s.tpt
    ∧ (s.countFrame).sha = s.sha ∧ (s.countFrame).fmn = s.fmn ∧ (s.countFrame).il = s.il ∧ (s.countFrame).mp = s.mp
    ∧ (s.countFrame).work = s.work := by
  unfold State.countFrame
  (repeat' split) <;> simp_all

@[simp] theorem State.drainRun_frame (s : State) :
    (s.drainRun).pending = s.pending ∧ (s.drainRun).pins = s.pins ∧ (s.drainRun).spc = s.spc
    ∧ (s.drainRun).lfr = s.lfr ∧ (s.drainRun).lau = s.lau ∧ (s.drainRun).tlm = s.tlm ∧ (s.drainRun).rfm = s.rfm
    ∧ (s.drainRun).dsu = s.dsu ∧ (s.drainRun).tpt = s.tpt ∧ (s.drainRun).fmn = s.fmn ∧ (s.drainRun).il = s.il := by
  unfold State.drainRun
  (repeat' split) <;> simp

@[simp] theorem State.takeReport_frame (s : State) (a b c : Nat) :
    (s.takeReport a b c).pending = s.pending ∧ (s.takeReport a b c).pins = s.pins
    ∧ (s.takeReport a b c).spc = s.spc ∧ (s.takeReport a b c).lfr = s.lfr ∧ (s.takeReport a b c).lau = s.lau
    ∧ (s.takeReport a b c).tlm = s.tlm ∧ (s.takeReport a b c).rfm = s.rfm ∧ (s.takeReport a b c).dsu = s.dsu
    ∧ (s.takeReport a b c).tpt = s.tpt ∧ (s.takeReport a b c).sha = s.sha ∧ (s.takeReport a b c).fmn = s.fmn
    ∧ (s.takeReport a b c).il = s.il ∧ (s.takeReport a b c).mp = s.mp ∧ (s.takeReport a b c).work = s.work := by
  unfold State.takeReport
  (repeat' split) <;> simp_all

@[simp] theorem State.armChecker_frame (s : State) (a : Nat) (m : Bytes) (b : Nat) :
    (s.armChecker a m b).pending = s.pending ∧ (s.armChecker a m b).pins = s.pins
    ∧ (s.armChecker a m b).spc = s.spc ∧ (s.armChecker a m b).lfr = s.lfr ∧ (s.armChecker a m b).lau = s.lau
    ∧ (s.armChecker a m b).tlm = s.tlm ∧ (s.armChecker a m b).rfm = s.rfm ∧ (s.armChecker a m b).dsu = s.dsu
    ∧ (s.armChecker a m b).tpt = s.tpt ∧ (s.armChecker a m b).sha = s.sha ∧ (s.armChecker a m b).fmn = s.fmn
    ∧ (s.armChecker a m b).il = s.il ∧ (s.armChecker a m b).mp = s.mp ∧ (s.armChecker a m b).work = s.work := by
  exact ⟨rfl, rfl, rfl, rfl, rfl, rfl, rfl, rfl, rfl, rfl, rfl, rfl, rfl, rfl⟩

@[simp] theorem State.checkerWindow_frame (s : State) :
    (s.checkerWindow).pending = s.pending ∧ (s.checkerWindow).pins = s.pins ∧ (s.checkerWindow).spc = s.spc
    ∧ (s.checkerWindow).lau = s.lau ∧ (s.checkerWindow).tlm = s.tlm ∧ (s.checkerWindow).rfm = s.rfm
    ∧ (s.checkerWindow).dsu = s.dsu ∧ (s.checkerWindow).tpt = s.tpt ∧ (s.checkerWindow).sha = s.sha
    ∧ (s.checkerWindow).fmn = s.fmn ∧ (s.checkerWindow).il = s.il ∧ (s.checkerWindow).mp = s.mp
    ∧ (s.checkerWindow).work = s.work := by
  unfold State.checkerWindow
  simp only
  (repeat' split) <;> simp

end Sys2Proof.Machine
end

