-- ==== Sys2Proof/Laws/Timing.lean ====
section
/-! SUPPORT. How a mark is counted, and what the Reference Monitor, the Discipline Unit, the Link Adaptation Unit and the
Thermal Limiter leave alone. -/

namespace Sys2Proof.Machine

@[simp] theorem State.moveLoop_frame (s : State) (st : LoopState) (c : TimeCause) :
    (s.moveLoop st c).pending = s.pending ∧ (s.moveLoop st c).pins = s.pins ∧ (s.moveLoop st c).spc = s.spc
    ∧ (s.moveLoop st c).lfr = s.lfr ∧ (s.moveLoop st c).tlm = s.tlm ∧ (s.moveLoop st c).rfm = s.rfm
    ∧ (s.moveLoop st c).sha = s.sha ∧ (s.moveLoop st c).stu = s.stu ∧ (s.moveLoop st c).il = s.il := by
  simp [State.moveLoop]

@[simp] theorem State.loopOnSelection_frame (s : State) (a b : Option Ref) :
    (s.loopOnSelection a b).pending = s.pending ∧ (s.loopOnSelection a b).pins = s.pins
    ∧ (s.loopOnSelection a b).spc = s.spc ∧ (s.loopOnSelection a b).lfr = s.lfr
    ∧ (s.loopOnSelection a b).tlm = s.tlm ∧ (s.loopOnSelection a b).rfm = s.rfm
    ∧ (s.loopOnSelection a b).sha = s.sha ∧ (s.loopOnSelection a b).stu = s.stu ∧ (s.loopOnSelection a b).il = s.il := by
  unfold State.loopOnSelection
  (repeat' split) <;> simp_all

@[simp] theorem State.acquireReport_frame (s : State) (e : Int) :
    (s.acquireReport e).pending = s.pending ∧ (s.acquireReport e).pins = s.pins ∧ (s.acquireReport e).spc = s.spc
    ∧ (s.acquireReport e).lfr = s.lfr ∧ (s.acquireReport e).tlm = s.tlm ∧ (s.acquireReport e).rfm = s.rfm
    ∧ (s.acquireReport e).sha = s.sha ∧ (s.acquireReport e).stu = s.stu ∧ (s.acquireReport e).il = s.il := by
  unfold State.acquireReport
  simp only
  (repeat' split) <;> simp

@[simp] theorem State.trackReport_frame (s : State) (e : Int) :
    (s.trackReport e).pending = s.pending ∧ (s.trackReport e).pins = s.pins ∧ (s.trackReport e).spc = s.spc
    ∧ (s.trackReport e).lfr = s.lfr ∧ (s.trackReport e).tlm = s.tlm ∧ (s.trackReport e).rfm = s.rfm
    ∧ (s.trackReport e).sha = s.sha ∧ (s.trackReport e).stu = s.stu ∧ (s.trackReport e).il = s.il := by
  unfold State.trackReport
  (repeat' split) <;> simp_all

@[simp] theorem State.takeSecondReport_frame (s : State) (r : Report) :
    (s.takeSecondReport r).pending = s.pending ∧ (s.takeSecondReport r).pins = s.pins
    ∧ (s.takeSecondReport r).spc = s.spc ∧ (s.takeSecondReport r).lfr = s.lfr ∧ (s.takeSecondReport r).tlm = s.tlm
    ∧ (s.takeSecondReport r).rfm = s.rfm ∧ (s.takeSecondReport r).sha = s.sha ∧ (s.takeSecondReport r).stu = s.stu
    ∧ (s.takeSecondReport r).il = s.il := by
  unfold State.takeSecondReport
  simp only
  split <;> simp

@[simp] theorem State.setRef_frame (s : State) (r : Ref) (x : RefState) :
    (s.setRef r x).pending = s.pending ∧ (s.setRef r x).pins = s.pins ∧ (s.setRef r x).spc = s.spc
    ∧ (s.setRef r x).lfr = s.lfr ∧ (s.setRef r x).lau = s.lau ∧ (s.setRef r x).tlm = s.tlm
    ∧ (s.setRef r x).dsu = s.dsu ∧ (s.setRef r x).tpt = s.tpt ∧ (s.setRef r x).sha = s.sha
    ∧ (s.setRef r x).stu = s.stu ∧ (s.setRef r x).fmn = s.fmn ∧ (s.setRef r x).il = s.il
    ∧ (s.setRef r x).work = s.work := by
  unfold State.setRef
  simp only
  split <;> simp

@[simp] theorem State.select_frame (s : State) (n : Option Ref) :
    (s.select n).pending = s.pending ∧ (s.select n).pins = s.pins ∧ (s.select n).spc = s.spc
    ∧ (s.select n).lfr = s.lfr ∧ (s.select n).tlm = s.tlm ∧ (s.select n).sha = s.sha ∧ (s.select n).stu = s.stu
    ∧ (s.select n).il = s.il := by
  unfold State.select
  simp only
  (repeat' split) <;> simp

@[simp] theorem State.updateSelection_frame (s : State) :
    (s.updateSelection).pending = s.pending ∧ (s.updateSelection).pins = s.pins ∧ (s.updateSelection).spc = s.spc
    ∧ (s.updateSelection).lfr = s.lfr ∧ (s.updateSelection).tlm = s.tlm ∧ (s.updateSelection).sha = s.sha
    ∧ (s.updateSelection).stu = s.stu ∧ (s.updateSelection).il = s.il := by
  unfold State.updateSelection
  (repeat' split) <;> simp_all

@[simp] theorem State.refDown_frame (s : State) (r : Ref) :
    (s.refDown r).pending = s.pending ∧ (s.refDown r).pins = s.pins ∧ (s.refDown r).spc = s.spc
    ∧ (s.refDown r).lfr = s.lfr ∧ (s.refDown r).tlm = s.tlm ∧ (s.refDown r).sha = s.sha ∧ (s.refDown r).stu = s.stu
    ∧ (s.refDown r).il = s.il := by
  unfold State.refDown
  split <;> simp

@[simp] theorem State.judgeRef_frame (s : State) (r : Ref) (v : Verdict) :
    (s.judgeRef r v).pending = s.pending ∧ (s.judgeRef r v).pins = s.pins ∧ (s.judgeRef r v).spc = s.spc
    ∧ (s.judgeRef r v).lfr = s.lfr ∧ (s.judgeRef r v).tlm = s.tlm ∧ (s.judgeRef r v).sha = s.sha
    ∧ (s.judgeRef r v).stu = s.stu ∧ (s.judgeRef r v).il = s.il := by
  unfold State.judgeRef
  simp only
  (repeat' split) <;> simp

@[simp] theorem State.closeWindow_frame (s : State) :
    (s.closeWindow).pending = s.pending ∧ (s.closeWindow).pins = s.pins ∧ (s.closeWindow).spc = s.spc
    ∧ (s.closeWindow).lfr = s.lfr ∧ (s.closeWindow).lau = s.lau ∧ (s.closeWindow).tlm = s.tlm
    ∧ (s.closeWindow).dsu = s.dsu ∧ (s.closeWindow).tpt = s.tpt ∧ (s.closeWindow).sha = s.sha
    ∧ (s.closeWindow).stu = s.stu ∧ (s.closeWindow).fmn = s.fmn ∧ (s.closeWindow).il = s.il
    ∧ (s.closeWindow).mp = s.mp ∧ (s.closeWindow).work = s.work := by
  unfold State.closeWindow
  split <;> simp

@[simp] theorem State.rollWindow_frame (s : State) (n : Nat) :
    (s.rollWindow n).pending = s.pending ∧ (s.rollWindow n).pins = s.pins ∧ (s.rollWindow n).spc = s.spc
    ∧ (s.rollWindow n).lfr = s.lfr ∧ (s.rollWindow n).lau = s.lau ∧ (s.rollWindow n).tlm = s.tlm
    ∧ (s.rollWindow n).dsu = s.dsu ∧ (s.rollWindow n).tpt = s.tpt ∧ (s.rollWindow n).sha = s.sha
    ∧ (s.rollWindow n).stu = s.stu ∧ (s.rollWindow n).fmn = s.fmn ∧ (s.rollWindow n).il = s.il
    ∧ (s.rollWindow n).mp = s.mp ∧ (s.rollWindow n).work = s.work := by
  unfold State.rollWindow
  split <;> simp

@[simp] theorem State.judgeG_frame (s : State) :
    (s.judgeG).pending = s.pending ∧ (s.judgeG).pins = s.pins ∧ (s.judgeG).spc = s.spc ∧ (s.judgeG).lfr = s.lfr
    ∧ (s.judgeG).tlm = s.tlm ∧ (s.judgeG).sha = s.sha ∧ (s.judgeG).stu = s.stu ∧ (s.judgeG).il = s.il := by
  unfold State.judgeG
  split <;> simp

@[simp] theorem State.judgeL_frame (s : State) :
    (s.judgeL).pending = s.pending ∧ (s.judgeL).pins = s.pins ∧ (s.judgeL).spc = s.spc ∧ (s.judgeL).lfr = s.lfr
    ∧ (s.judgeL).tlm = s.tlm ∧ (s.judgeL).sha = s.sha ∧ (s.judgeL).stu = s.stu ∧ (s.judgeL).il = s.il := by
  unfold State.judgeL
  split <;> simp

/-- A mark is counted once: accepted, or refused for one ground (R68); the headers and their quality are counted apart. -/
theorem LSecond.takeMark_counts (x : LSecond) (k : Mark) (m : Nat) (b : Bool) :
    let y := x.takeMark k m b
    y.accepted + y.refDelay + y.refStep = x.accepted + x.refDelay + x.refStep + 1
      ∧ y.refQuality = x.refQuality ∧ y.headers = x.headers ∧ y.allTrack = x.allTrack ∧ y.judged = x.judged
      ∧ y.framerOk = x.framerOk ∧ y.start = x.start := by
  unfold LSecond.takeMark
  simp only
  (repeat' split) <;> refine ⟨?_, rfl, rfl, rfl, rfl, rfl, rfl⟩ <;> simp only <;> omega

@[simp] theorem State.markHeader_frame (s : State) (h : Header) (t : SiteTime) :
    (s.markHeader h t).pending = s.pending ∧ (s.markHeader h t).pins = s.pins ∧ (s.markHeader h t).spc = s.spc
    ∧ (s.markHeader h t).lfr = s.lfr ∧ (s.markHeader h t).lau = s.lau ∧ (s.markHeader h t).tlm = s.tlm
    ∧ (s.markHeader h t).dsu = s.dsu ∧ (s.markHeader h t).tpt = s.tpt ∧ (s.markHeader h t).sha = s.sha
    ∧ (s.markHeader h t).stu = s.stu ∧ (s.markHeader h t).fmn = s.fmn ∧ (s.markHeader h t).il = s.il
    ∧ (s.markHeader h t).mp = s.mp ∧ (s.markHeader h t).work = s.work := by
  unfold State.markHeader
  simp only
  (repeat' split) <;> simp

@[simp] theorem State.startSecondL_frame (s : State) :
    (s.startSecondL).pending = s.pending ∧ (s.startSecondL).pins = s.pins ∧ (s.startSecondL).spc = s.spc
    ∧ (s.startSecondL).lfr = s.lfr ∧ (s.startSecondL).lau = s.lau ∧ (s.startSecondL).tlm = s.tlm
    ∧ (s.startSecondL).dsu = s.dsu ∧ (s.startSecondL).tpt = s.tpt ∧ (s.startSecondL).sha = s.sha
    ∧ (s.startSecondL).stu = s.stu ∧ (s.startSecondL).fmn = s.fmn ∧ (s.startSecondL).il = s.il
    ∧ (s.startSecondL).mp = s.mp ∧ (s.startSecondL).work = s.work := by
  exact ⟨rfl, rfl, rfl, rfl, rfl, rfl, rfl, rfl, rfl, rfl, rfl, rfl, rfl, rfl⟩

@[simp] theorem State.setWish_frame (s : State) (w : Nat) :
    (s.setWish w).pending = s.pending ∧ (s.setWish w).pins = s.pins ∧ (s.setWish w).spc = s.spc
    ∧ (s.setWish w).lfr = s.lfr ∧ (s.setWish w).tlm = s.tlm ∧ (s.setWish w).rfm = s.rfm ∧ (s.setWish w).dsu = s.dsu
    ∧ (s.setWish w).tpt = s.tpt ∧ (s.setWish w).sha = s.sha ∧ (s.setWish w).stu = s.stu ∧ (s.setWish w).fmn = s.fmn
    ∧ (s.setWish w).il = s.il ∧ (s.setWish w).work = s.work := by
  unfold State.setWish
  split <;> simp

@[simp] theorem State.floorWindow_frame (s : State) (a : Nat) :
    (s.floorWindow a).pending = s.pending ∧ (s.floorWindow a).pins = s.pins ∧ (s.floorWindow a).spc = s.spc
    ∧ (s.floorWindow a).lfr = s.lfr ∧ (s.floorWindow a).tlm = s.tlm ∧ (s.floorWindow a).rfm = s.rfm
    ∧ (s.floorWindow a).dsu = s.dsu ∧ (s.floorWindow a).tpt = s.tpt ∧ (s.floorWindow a).sha = s.sha
    ∧ (s.floorWindow a).stu = s.stu ∧ (s.floorWindow a).il = s.il := by
  unfold State.floorWindow
  simp only
  (repeat' split) <;> simp

@[simp] theorem State.marginWindow_frame (s : State) :
    (s.marginWindow).pending = s.pending ∧ (s.marginWindow).pins = s.pins ∧ (s.marginWindow).spc = s.spc
    ∧ (s.marginWindow).lfr = s.lfr ∧ (s.marginWindow).tlm = s.tlm ∧ (s.marginWindow).rfm = s.rfm
    ∧ (s.marginWindow).dsu = s.dsu ∧ (s.marginWindow).tpt = s.tpt ∧ (s.marginWindow).sha = s.sha
    ∧ (s.marginWindow).stu = s.stu ∧ (s.marginWindow).il = s.il := by
  unfold State.marginWindow
  simp only
  (repeat' split) <;> simp

@[simp] theorem State.rxProfileChanged_frame (s : State) (p : Nat) :
    (s.rxProfileChanged p).pending = s.pending ∧ (s.rxProfileChanged p).pins = s.pins
    ∧ (s.rxProfileChanged p).spc = s.spc ∧ (s.rxProfileChanged p).lfr = s.lfr ∧ (s.rxProfileChanged p).tlm = s.tlm
    ∧ (s.rxProfileChanged p).rfm = s.rfm ∧ (s.rxProfileChanged p).dsu = s.dsu ∧ (s.rxProfileChanged p).tpt = s.tpt
    ∧ (s.rxProfileChanged p).sha = s.sha ∧ (s.rxProfileChanged p).stu = s.stu ∧ (s.rxProfileChanged p).il = s.il
    ∧ (s.rxProfileChanged p).work = s.work := by
  unfold State.rxProfileChanged
  split <;> simp

@[simp] theorem State.adaptDown_frame (s : State) :
    (s.adaptDown).pending = s.pending ∧ (s.adaptDown).pins = s.pins ∧ (s.adaptDown).spc = s.spc
    ∧ (s.adaptDown).lfr = s.lfr ∧ (s.adaptDown).tlm = s.tlm ∧ (s.adaptDown).rfm = s.rfm ∧ (s.adaptDown).dsu = s.dsu
    ∧ (s.adaptDown).tpt = s.tpt ∧ (s.adaptDown).sha = s.sha ∧ (s.adaptDown).stu = s.stu ∧ (s.adaptDown).il = s.il
    ∧ (s.adaptDown).work = s.work := by
  unfold State.adaptDown
  simp

@[simp] theorem State.adaptUp_frame (s : State) (b : Bool) :
    (s.adaptUp b).pending = s.pending ∧ (s.adaptUp b).pins = s.pins ∧ (s.adaptUp b).spc = s.spc
    ∧ (s.adaptUp b).lfr = s.lfr ∧ (s.adaptUp b).tlm = s.tlm ∧ (s.adaptUp b).rfm = s.rfm ∧ (s.adaptUp b).dsu = s.dsu
    ∧ (s.adaptUp b).tpt = s.tpt ∧ (s.adaptUp b).sha = s.sha ∧ (s.adaptUp b).stu = s.stu ∧ (s.adaptUp b).fmn = s.fmn
    ∧ (s.adaptUp b).il = s.il ∧ (s.adaptUp b).work = s.work := by
  unfold State.adaptUp
  simp only
  (repeat' split) <;> simp

@[simp] theorem State.setFix_frame (s : State) (v : Option Nat) :
    (s.setFix v).pending = s.pending ∧ (s.setFix v).pins = s.pins ∧ (s.setFix v).spc = s.spc
    ∧ (s.setFix v).lfr = s.lfr ∧ (s.setFix v).tlm = s.tlm ∧ (s.setFix v).rfm = s.rfm ∧ (s.setFix v).dsu = s.dsu
    ∧ (s.setFix v).tpt = s.tpt ∧ (s.setFix v).sha = s.sha ∧ (s.setFix v).stu = s.stu ∧ (s.setFix v).fmn = s.fmn
    ∧ (s.setFix v).il = s.il ∧ (s.setFix v).work = s.work := by
  unfold State.setFix
  split <;> simp

@[simp] theorem State.settleFailSafe_frame (s : State) (t : Tlm) :
    (s.settleFailSafe t).pending = s.pending ∧ (s.settleFailSafe t).pins = s.pins ∧ (s.settleFailSafe t).spc = s.spc
    ∧ (s.settleFailSafe t).lfr = s.lfr ∧ (s.settleFailSafe t).tlm = s.tlm ∧ (s.settleFailSafe t).rfm = s.rfm
    ∧ (s.settleFailSafe t).dsu = s.dsu ∧ (s.settleFailSafe t).tpt = s.tpt ∧ (s.settleFailSafe t).sha = s.sha
    ∧ (s.settleFailSafe t).stu = s.stu ∧ (s.settleFailSafe t).il = s.il := by
  unfold State.settleFailSafe
  simp only
  (repeat' split) <;> simp

@[simp] theorem State.thermalSettle_frame (s : State) (t : Tlm) :
    (s.thermalSettle t).pending = s.pending ∧ (s.thermalSettle t).pins = s.pins ∧ (s.thermalSettle t).spc = s.spc
    ∧ (s.thermalSettle t).lfr = s.lfr ∧ (s.thermalSettle t).rfm = s.rfm ∧ (s.thermalSettle t).dsu = s.dsu
    ∧ (s.thermalSettle t).tpt = s.tpt ∧ (s.thermalSettle t).sha = s.sha ∧ (s.thermalSettle t).stu = s.stu
    ∧ (s.thermalSettle t).il = s.il := by
  unfold State.thermalSettle
  simp only
  (repeat' split) <;> simp

@[simp] theorem State.gate_frame (s : State) (n : Nat) :
    (s.gate n).pending = s.pending ∧ (s.gate n).pins = s.pins ∧ (s.gate n).spc = s.spc ∧ (s.gate n).lfr = s.lfr
    ∧ (s.gate n).rfm = s.rfm ∧ (s.gate n).dsu = s.dsu ∧ (s.gate n).tpt = s.tpt ∧ (s.gate n).sha = s.sha
    ∧ (s.gate n).stu = s.stu ∧ (s.gate n).il = s.il := by
  unfold State.gate
  simp

@[simp] theorem State.hotTaken_frame (s : State) (b : Bool) :
    (s.hotTaken b).pending = s.pending ∧ (s.hotTaken b).pins = s.pins ∧ (s.hotTaken b).spc = s.spc
    ∧ (s.hotTaken b).lfr = s.lfr ∧ (s.hotTaken b).rfm = s.rfm ∧ (s.hotTaken b).dsu = s.dsu
    ∧ (s.hotTaken b).tpt = s.tpt ∧ (s.hotTaken b).sha = s.sha ∧ (s.hotTaken b).stu = s.stu
    ∧ (s.hotTaken b).il = s.il := by
  unfold State.hotTaken
  split <;> simp

@[simp] theorem State.thermalForce_frame (s : State) (t : ThermalSet) (b : Bool) :
    (s.thermalForce t b).pending = s.pending ∧ (s.thermalForce t b).pins = s.pins
    ∧ (s.thermalForce t b).spc = s.spc ∧ (s.thermalForce t b).lfr = s.lfr ∧ (s.thermalForce t b).rfm = s.rfm
    ∧ (s.thermalForce t b).dsu = s.dsu ∧ (s.thermalForce t b).tpt = s.tpt ∧ (s.thermalForce t b).sha = s.sha
    ∧ (s.thermalForce t b).stu = s.stu ∧ (s.thermalForce t b).il = s.il := by
  unfold State.thermalForce
  simp only
  split <;> simp

end Sys2Proof.Machine
end

