-- ==== Sys2Proof/Laws/SitePhase.lean ====
section
/-! SUPPORT. What the Site Phase Controller and the work of an event leave alone. -/

namespace Sys2Proof.Machine

@[simp] theorem State.leaveEffects_frame (s : State) (old p : Phase) (c : PhaseCause) :
    (s.leaveEffects old p c).pending = s.pending ∧ (s.leaveEffects old p c).pins = s.pins
    ∧ (s.leaveEffects old p c).spc = s.spc ∧ (s.leaveEffects old p c).lfr = s.lfr
    ∧ (s.leaveEffects old p c).tlm = s.tlm ∧ (s.leaveEffects old p c).rfm = s.rfm
    ∧ (s.leaveEffects old p c).dsu = s.dsu ∧ (s.leaveEffects old p c).il = s.il := by
  cases old <;> simp [State.leaveEffects, State.forTenants, tenants] <;> split <;> simp

@[simp] theorem State.movePhase_frame (s : State) (p : Phase) (c : PhaseCause) (v : ProveState) (n : Nat) :
    (s.movePhase p c v n).pending = s.pending ∧ (s.movePhase p c v n).pins = s.pins
    ∧ (s.movePhase p c v n).lfr = s.lfr ∧ (s.movePhase p c v n).tlm = s.tlm ∧ (s.movePhase p c v n).rfm = s.rfm
    ∧ (s.movePhase p c v n).dsu = s.dsu ∧ (s.movePhase p c v n).il = s.il := by
  unfold State.movePhase
  simp only
  split <;> simp

@[simp] theorem State.enterService_frame (s : State) (c : PhaseCause) (v : ProveState) (n : Nat) :
    (s.enterService c v n).pending = s.pending ∧ (s.enterService c v n).pins = s.pins
    ∧ (s.enterService c v n).lfr = s.lfr ∧ (s.enterService c v n).tlm = s.tlm ∧ (s.enterService c v n).rfm = s.rfm
    ∧ (s.enterService c v n).dsu = s.dsu ∧ (s.enterService c v n).il = s.il := by
  simp [State.enterService, State.forTenants, tenants]

@[simp] theorem State.enterProve_frame (s : State) (c : PhaseCause) :
    (s.enterProve c).pending = s.pending ∧ (s.enterProve c).pins = s.pins ∧ (s.enterProve c).lfr = s.lfr
    ∧ (s.enterProve c).tlm = s.tlm ∧ (s.enterProve c).rfm = s.rfm ∧ (s.enterProve c).dsu = s.dsu
    ∧ (s.enterProve c).il = s.il := by
  unfold State.enterProve
  split <;> simp

@[simp] theorem State.enterSeek_frame (s : State) (c : PhaseCause) :
    (s.enterSeek c).pending = s.pending ∧ (s.enterSeek c).pins = s.pins ∧ (s.enterSeek c).lfr = s.lfr
    ∧ (s.enterSeek c).tlm = s.tlm ∧ (s.enterSeek c).rfm = s.rfm ∧ (s.enterSeek c).dsu = s.dsu
    ∧ (s.enterSeek c).il = s.il := by
  unfold State.enterSeek
  simp

@[simp] theorem State.enterRecover_frame (s : State) :
    (s.enterRecover).pending = s.pending ∧ (s.enterRecover).pins = s.pins ∧ (s.enterRecover).lfr = s.lfr
    ∧ (s.enterRecover).tlm = s.tlm ∧ (s.enterRecover).rfm = s.rfm ∧ (s.enterRecover).dsu = s.dsu
    ∧ (s.enterRecover).il = s.il := by
  unfold State.enterRecover
  simp

@[simp] theorem State.stopRead_frame (s : State) :
    (s.stopRead).pending = s.pending ∧ (s.stopRead).pins = s.pins ∧ (s.stopRead).spc = s.spc
    ∧ (s.stopRead).lfr = s.lfr ∧ (s.stopRead).lau = s.lau ∧ (s.stopRead).tlm = s.tlm ∧ (s.stopRead).rfm = s.rfm
    ∧ (s.stopRead).dsu = s.dsu ∧ (s.stopRead).tpt = s.tpt ∧ (s.stopRead).sha = s.sha ∧ (s.stopRead).stu = s.stu
    ∧ (s.stopRead).fmn = s.fmn ∧ (s.stopRead).work = s.work := by
  unfold State.stopRead
  split <;> simp

@[simp] theorem State.enterHalt_frame (s : State) (c : PhaseCause) :
    (s.enterHalt c).pending = s.pending ∧ (s.enterHalt c).pins = s.pins ∧ (s.enterHalt c).tlm = s.tlm
    ∧ (s.enterHalt c).rfm = s.rfm ∧ (s.enterHalt c).dsu = s.dsu := by
  unfold State.enterHalt
  simp only
  split <;> simp

@[simp] theorem State.leaveAlign_frame (s : State) (c : PhaseCause) :
    (s.leaveAlign c).pending = s.pending ∧ (s.leaveAlign c).pins = s.pins ∧ (s.leaveAlign c).lfr = s.lfr
    ∧ (s.leaveAlign c).tlm = s.tlm ∧ (s.leaveAlign c).rfm = s.rfm ∧ (s.leaveAlign c).dsu = s.dsu
    ∧ (s.leaveAlign c).il = s.il := by
  unfold State.leaveAlign
  simp only
  split <;> simp

@[simp] theorem State.alignWindow_frame (s : State) :
    (s.alignWindow).pending = s.pending ∧ (s.alignWindow).pins = s.pins ∧ (s.alignWindow).lfr = s.lfr
    ∧ (s.alignWindow).tlm = s.tlm ∧ (s.alignWindow).rfm = s.rfm ∧ (s.alignWindow).dsu = s.dsu
    ∧ (s.alignWindow).il = s.il := by
  unfold State.alignWindow
  simp only
  (repeat' split) <;> simp

@[simp] theorem State.roundPassed_frame (s : State) :
    (s.roundPassed).pending = s.pending ∧ (s.roundPassed).pins = s.pins ∧ (s.roundPassed).lfr = s.lfr
    ∧ (s.roundPassed).tlm = s.tlm ∧ (s.roundPassed).rfm = s.rfm ∧ (s.roundPassed).dsu = s.dsu
    ∧ (s.roundPassed).il = s.il := by
  unfold State.roundPassed
  split <;> simp

@[simp] theorem State.roundFailed_frame (s : State) (i : Nat) :
    (s.roundFailed i).pending = s.pending ∧ (s.roundFailed i).pins = s.pins ∧ (s.roundFailed i).lfr = s.lfr
    ∧ (s.roundFailed i).tlm = s.tlm ∧ (s.roundFailed i).rfm = s.rfm ∧ (s.roundFailed i).dsu = s.dsu
    ∧ (s.roundFailed i).il = s.il := by
  unfold State.roundFailed
  (repeat' split) <;> simp_all

@[simp] theorem State.endRun_frame (s : State) (r : Run) (x : RunOutcome) (c : RunCause) :
    (s.endRun r x c).pending = s.pending ∧ (s.endRun r x c).pins = s.pins ∧ (s.endRun r x c).lfr = s.lfr
    ∧ (s.endRun r x c).tlm = s.tlm ∧ (s.endRun r x c).rfm = s.rfm ∧ (s.endRun r x c).dsu = s.dsu
    ∧ (s.endRun r x c).il = s.il := by
  unfold State.endRun
  simp only
  (repeat' split) <;> simp

@[simp] theorem State.abortRun_frame (s : State) (r : Run) (c : RunCause) :
    (s.abortRun r c).pending = s.pending ∧ (s.abortRun r c).pins = s.pins ∧ (s.abortRun r c).lfr = s.lfr
    ∧ (s.abortRun r c).tlm = s.tlm ∧ (s.abortRun r c).rfm = s.rfm ∧ (s.abortRun r c).dsu = s.dsu
    ∧ (s.abortRun r c).il = s.il := by
  unfold State.abortRun
  simp

@[simp] theorem State.revokeRun_frame (s : State) (r : Run) :
    (s.revokeRun r).pending = s.pending ∧ (s.revokeRun r).pins = s.pins ∧ (s.revokeRun r).lfr = s.lfr
    ∧ (s.revokeRun r).tlm = s.tlm ∧ (s.revokeRun r).rfm = s.rfm ∧ (s.revokeRun r).dsu = s.dsu
    ∧ (s.revokeRun r).il = s.il := by
  unfold State.revokeRun
  simp

@[simp] theorem State.abortGranted_frame (s : State) (c : RunCause) :
    (s.abortGranted c).pending = s.pending ∧ (s.abortGranted c).pins = s.pins ∧ (s.abortGranted c).lfr = s.lfr
    ∧ (s.abortGranted c).tlm = s.tlm ∧ (s.abortGranted c).rfm = s.rfm ∧ (s.abortGranted c).dsu = s.dsu
    ∧ (s.abortGranted c).il = s.il := by
  unfold State.abortGranted
  simp only
  (repeat' split) <;> simp

@[simp] theorem State.retryDone_frame (s : State) :
    (s.retryDone).pending = s.pending ∧ (s.retryDone).pins = s.pins ∧ (s.retryDone).lfr = s.lfr
    ∧ (s.retryDone).lau = s.lau ∧ (s.retryDone).tlm = s.tlm ∧ (s.retryDone).rfm = s.rfm ∧ (s.retryDone).dsu = s.dsu
    ∧ (s.retryDone).tpt = s.tpt ∧ (s.retryDone).sha = s.sha ∧ (s.retryDone).fmn = s.fmn ∧ (s.retryDone).il = s.il
    ∧ (s.retryDone).mp = s.mp := by
  unfold State.retryDone
  split <;> simp

@[simp] theorem State.recoverDone_frame (s : State) :
    (s.recoverDone).pending = s.pending ∧ (s.recoverDone).pins = s.pins ∧ (s.recoverDone).lfr = s.lfr
    ∧ (s.recoverDone).tlm = s.tlm ∧ (s.recoverDone).rfm = s.rfm ∧ (s.recoverDone).dsu = s.dsu
    ∧ (s.recoverDone).il = s.il := by
  unfold State.recoverDone
  split <;> simp

@[simp] theorem State.dropPeer_frame (s : State) :
    (s.dropPeer).pending = s.pending ∧ (s.dropPeer).pins = s.pins ∧ (s.dropPeer).spc = s.spc
    ∧ (s.dropPeer).lau = s.lau ∧ (s.dropPeer).tlm = s.tlm ∧ (s.dropPeer).rfm = s.rfm ∧ (s.dropPeer).dsu = s.dsu
    ∧ (s.dropPeer).sha = s.sha ∧ (s.dropPeer).stu = s.stu ∧ (s.dropPeer).fmn = s.fmn ∧ (s.dropPeer).il = s.il
    ∧ (s.dropPeer).work = s.work := by
  exact ⟨rfl, rfl, rfl, rfl, rfl, rfl, rfl, rfl, rfl, rfl, rfl, rfl⟩

@[simp] theorem State.raiseLinkLoss_frame (s : State) :
    (s.raiseLinkLoss).pending = s.pending ∧ (s.raiseLinkLoss).pins = s.pins ∧ (s.raiseLinkLoss).spc = s.spc
    ∧ (s.raiseLinkLoss).lfr = s.lfr ∧ (s.raiseLinkLoss).tlm = s.tlm ∧ (s.raiseLinkLoss).rfm = s.rfm
    ∧ (s.raiseLinkLoss).dsu = s.dsu ∧ (s.raiseLinkLoss).tpt = s.tpt ∧ (s.raiseLinkLoss).sha = s.sha
    ∧ (s.raiseLinkLoss).stu = s.stu ∧ (s.raiseLinkLoss).il = s.il := by
  unfold State.raiseLinkLoss
  split <;> simp

@[simp] theorem State.phaseDown_frame (s : State) :
    (s.phaseDown).pending = s.pending ∧ (s.phaseDown).pins = s.pins ∧ (s.phaseDown).lfr = s.lfr
    ∧ (s.phaseDown).tlm = s.tlm ∧ (s.phaseDown).rfm = s.rfm ∧ (s.phaseDown).dsu = s.dsu ∧ (s.phaseDown).il = s.il := by
  unfold State.phaseDown
  split <;> simp

@[simp] theorem State.testDown_frame (s : State) :
    (s.testDown).pending = s.pending ∧ (s.testDown).pins = s.pins ∧ (s.testDown).lfr = s.lfr
    ∧ (s.testDown).tlm = s.tlm ∧ (s.testDown).rfm = s.rfm ∧ (s.testDown).dsu = s.dsu ∧ (s.testDown).il = s.il := by
  unfold State.testDown
  simp only
  (repeat' split) <;> simp

@[simp] theorem State.rxDown_frame (s : State) :
    (s.rxDown).pending = s.pending ∧ (s.rxDown).pins = s.pins ∧ (s.rxDown).tlm = s.tlm ∧ (s.rxDown).il = s.il := by
  unfold State.rxDown
  simp only
  split <;> simp

@[simp] theorem State.restartRx_frame (s : State) :
    (s.restartRx).pending = s.pending ∧ (s.restartRx).pins = s.pins ∧ (s.restartRx).tlm = s.tlm
    ∧ (s.restartRx).il = s.il := by
  unfold State.restartRx
  split <;> simp

@[simp] theorem State.reseek_frame (s : State) (c : PhaseCause) :
    (s.reseek c).pending = s.pending ∧ (s.reseek c).pins = s.pins ∧ (s.reseek c).tlm = s.tlm
    ∧ (s.reseek c).il = s.il := by
  unfold State.reseek
  simp

@[simp] theorem State.rxUp_frame (s : State) (b : Bool) :
    (s.rxUp b).pending = s.pending ∧ (s.rxUp b).pins = s.pins ∧ (s.rxUp b).lfr = s.lfr ∧ (s.rxUp b).tlm = s.tlm
    ∧ (s.rxUp b).rfm = s.rfm ∧ (s.rxUp b).dsu = s.dsu ∧ (s.rxUp b).il = s.il := by
  unfold State.rxUp
  simp only
  split <;> simp

@[simp] theorem State.act_frame (s : State) (a : Action) :
    (s.act a).pending = s.pending ∧ (s.act a).pins = s.pins ∧ (s.act a).tlm = s.tlm := by
  unfold State.act
  (repeat' split) <;> simp_all

@[simp] theorem State.startRun_frame (s : State) :
    (s.startRun).pending = s.pending ∧ (s.startRun).pins = s.pins ∧ (s.startRun).lfr = s.lfr
    ∧ (s.startRun).tlm = s.tlm ∧ (s.startRun).rfm = s.rfm ∧ (s.startRun).dsu = s.dsu ∧ (s.startRun).il = s.il := by
  unfold State.startRun
  (repeat' split) <;> simp_all

@[simp] theorem State.compute_frame (s : State) (t : Trigger) :
    (s.compute t).pending = s.pending ∧ (s.compute t).pins = s.pins ∧ (s.compute t).tlm = s.tlm
    ∧ (s.compute t).rfm = s.rfm ∧ (s.compute t).dsu = s.dsu ∧ (s.compute t).il = s.il := by
  unfold State.compute
  simp only
  (repeat' split) <;> simp

@[simp] theorem State.actStep_frame (s : State) :
    (s.actStep).pending = s.pending ∧ (s.actStep).pins = s.pins ∧ (s.actStep).tlm = s.tlm := by
  unfold State.actStep
  (repeat' split) <;> simp_all

@[simp] theorem State.doActs_frame (s : State) (n : Nat) :
    (State.doActs n s).pending = s.pending ∧ (State.doActs n s).pins = s.pins ∧ (State.doActs n s).tlm = s.tlm := by
  induction n generalizing s with
  | zero => simp [State.doActs]
  | succ n ih => simp [State.doActs, ih]

@[simp] theorem State.workStep_frame (s : State) :
    (s.workStep).pending = s.pending ∧ (s.workStep).pins = s.pins ∧ (s.workStep).tlm = s.tlm := by
  unfold State.workStep
  (repeat' split) <;> simp_all

@[simp] theorem State.doWork_frame (s : State) (n : Nat) :
    (State.doWork n s).pending = s.pending ∧ (State.doWork n s).pins = s.pins ∧ (State.doWork n s).tlm = s.tlm := by
  induction n generalizing s with
  | zero => simp [State.doWork]
  | succ n ih => simp [State.doWork, ih]

@[simp] theorem State.finishWork_frame (s : State) :
    (s.finishWork).pending = s.pending ∧ (s.finishWork).pins = s.pins ∧ (s.finishWork).tlm = s.tlm := by
  unfold State.finishWork
  simp

end Sys2Proof.Machine
end

