-- ==== Sys2Proof/Laws/Port.lean ====
section
/-! SUPPORT. The Message Port's shared operations: what a queued notice changes, and the ends of events that have nothing
left to do. -/

namespace Sys2Proof.Machine

/-! ### The notice queue -/

theorem replaceNotice_keys (n : Notice) (l : List Notice) : (replaceNotice n l).map Notice.key = l.map Notice.key := by
  induction l with
  | nil => rfl
  | cons x xs ih =>
    simp only [replaceNotice]
    split
    · next h => simp [h]
    · simp [ih]

@[simp] theorem replaceNotice_length (n : Notice) (l : List Notice) : (replaceNotice n l).length = l.length := by
  simpa using congrArg List.length (replaceNotice_keys n l)

@[simp] theorem Mp.attnEnter_notices (m : Mp) (e : Bool) : (m.attnEnter e).notices = m.notices := by
  unfold Mp.attnEnter
  split
  · rfl
  · split <;> rfl

/-- A queued notice changes only the waiting notices, the replaced count, and the ATTN line. -/
@[simp] theorem Mp.push_frame (m : Mp) (n : Notice) :
    (m.push n).rx = m.rx ∧ (m.push n).rxIdle = m.rxIdle ∧ (m.push n).inbound = m.inbound ∧ (m.push n).store = m.store
    ∧ (m.push n).slot = m.slot ∧ (m.push n).slotBehind = m.slotBehind ∧ (m.push n).line = m.line
    ∧ (m.push n).seq = m.seq ∧ (m.push n).attnMode = m.attnMode ∧ (m.push n).baud = m.baud
    ∧ (m.push n).restart = m.restart ∧ (m.push n).restartDue = m.restartDue := by
  unfold Mp.push
  split
  · simp
  · unfold Mp.attnEnter
    split
    · simp
    · split <;> simp

/-- A queued notice waits. -/
theorem Mp.push_mem (m : Mp) (n : Notice) : n ∈ (m.push n).notices := by
  unfold Mp.push
  split
  · next h =>
    obtain ⟨x, hx, hk⟩ := List.any_eq_true.1 h
    simp only [decide_eq_true_eq] at hk
    have : ∀ l : List Notice, x ∈ l → n ∈ replaceNotice n l := by
      intro l hl
      induction l with
      | nil => cases hl
      | cons y ys ih =>
        simp only [replaceNotice]
        split
        · simp
        · next hy =>
          rcases List.mem_cons.1 hl with rfl | hm
          · exact absurd hk hy
          · exact List.mem_cons_of_mem _ (ih hm)
    exact this m.notices hx
  · simp

@[simp] theorem State.notify_mp (s : State) (k : NoticeKind) (n : Nat) (c : Bytes) :
    (s.notify k n c).mp = s.mp.push ⟨k, n, c⟩ := rfl

/-! ### Ends of events -/

theorem State.actStep_idle {s : State} (h : s.work = {}) : s.actStep = s := by
  simp [State.actStep, h]

theorem State.doActs_idle {s : State} (h : s.work = {}) (n : Nat) : State.doActs n s = s := by
  induction n with
  | zero => rfl
  | succ n ih => rw [State.doActs, State.actStep_idle h, ih]

theorem State.workStep_idle {s : State} (h : s.work = {}) : s.workStep = s := by
  simp [State.workStep, h]

theorem State.doWork_idle {s : State} (h : s.work = {}) (n : Nat) : State.doWork n s = s := by
  induction n with
  | zero => rfl
  | succ n ih => rw [State.doWork, State.workStep_idle h, ih]

/-- An event that left no work ends as it is. -/
theorem State.finishWork_idle {s : State} (hw : s.work = {}) (hr : s.stu.removed = []) : s.finishWork = s := by
  rw [State.finishWork, State.doWork_idle hw, ← hr]
  simp only [← show s.work.phase = none from by rw [hw]]

/-- A busy line begins no frame. -/
theorem Mp.startLine_busy {m : Mp} (h : m.line.isSome = true) : m.startLine = m := by simp [Mp.startLine, h]

theorem State.serveNext_empty {s : State} (h : s.mp.inbound = []) : s.serveNext = s := by
  unfold State.serveNext
  split
  · next h' => rw [h] at h'; cases h'
  · rfl

/-- A full slot hands nothing over. -/
theorem State.serveNext_full {s : State} (h : s.mp.slot.isSome = true) : s.serveNext = s := by
  unfold State.serveNext
  split
  · next h' _ _ => rw [h'] at h; cases h
  · rfl

/-- The port has nothing to do while the line is busy and no request waits, or the slot is full. -/
theorem State.settlePort_busy {s : State} (hl : s.mp.line.isSome = true)
    (h : s.mp.inbound = [] ∨ s.mp.slot.isSome = true) : s.settlePort = s := by
  have hs : s.serveNext = s := h.elim State.serveNext_empty State.serveNext_full
  simp only [State.settlePort, hs, Mp.startLine_busy hl]

/-- An event that leaves no work, while the line is busy and nothing can be handed over, ends as it is. -/
theorem State.close_idle {s : State} (hw : s.work = {}) (hr : s.stu.removed = []) (hl : s.mp.line.isSome = true)
    (h : s.mp.inbound = [] ∨ s.mp.slot.isSome = true) : s.close = s := by
  rw [State.close, State.finishWork_idle hw hr, State.settlePort_busy hl h]

theorem State.close_lineBusy {s : State} (h : s.lineBusy) : s.close = s :=
  State.close_idle h.1.1 h.1.2.1 h.2 (.inl h.1.2.2)

@[simp] theorem State.reply_mp_slot (s : State) (r : Request) (a : Answer) :
    (s.reply r a).mp.slot =
      some ⟨r.kind + 0x80, r.tag, e1 a.status.code ++ a.body s, r.body.isRestart && decide (a.status = .ok)⟩ := rfl

/-- An owner's answer changes only the port's slot and counts. -/
theorem State.reply_frame (s : State) (r : Request) (a : Answer) : { s.reply r a with mp := s.mp } = s := rfl

@[simp] theorem Mp.arrive_line (m : Mp) (r : Request) : (m.arrive r).line = m.line := by
  unfold Mp.arrive
  simp only
  split
  · rfl
  · split <;> rfl

/-- With room in the inbound queue a request is queued behind those there. -/
theorem Mp.arrive_room {m : Mp} (r : Request) (h : m.inbound.length < 4) :
    m.arrive r = { m with counts.received := m.counts.received + 1, inbound := m.inbound ++ [r] } := by
  simp [Mp.arrive, h]

end Sys2Proof.Machine
end

