-- ==== Sys2Proof/Tests/Slice0.lean ====
section
/-! SUPPORT. Tests on small states: the ill-formed commands that WellFormed refuses, worked examples of spec/, and for each
statement with hypotheses a state and operands that meet them, with what the command then gives. -/

namespace Sys2Proof.Machine.Tests

-- One theorem is elaborated at a time, since each is checked on a stack of its own.
set_option Elab.async false

/-! ### Helpers -/

/-- The next state of an outcome passes. -/
def gives (o : Host.Outcome State Fault Refusal) (p : State → Bool) : Bool :=
  match o with
  | .next t => p t
  | _ => false

/-- The next state of an outcome is this one. -/
def isNext (o : Host.Outcome State Fault Refusal) (t : State) : Bool := gives o (fun u => decide (u = t))

/-- The outcome is this fault. -/
def faults (o : Host.Outcome State Fault Refusal) (f : Fault) : Bool :=
  match o with
  | .fault g => decide (g = f)
  | _ => false

/-- The tests of `State.calm`. -/
def calmB (s : State) : Bool := decide (s.work = {} ∧ s.stu.removed = [] ∧ s.mp.inbound = [])

theorem calm_of {s : State} (h : calmB s = true) : s.calm := by
  unfold State.calm
  exact of_decide_eq_true h

theorem busy_of {s : State} (h : (calmB s && s.mp.line.isSome) = true) : s.lineBusy := by
  simp only [Bool.and_eq_true] at h
  exact ⟨calm_of h.1, h.2⟩

theorem ready_of {s : State}
    (h : (calmB s && s.mp.line.isSome && decide (s.mp.slot = none ∧ s.mp.restart = none)) = true) : s.ready := by
  rw [Bool.and_eq_true, decide_eq_true_eq] at h
  exact ⟨busy_of h.1, h.2⟩

/-- The part after reset with a frame on the line, in a phase. -/
def inPhase (p : Phase) : State :=
  { State.reset with mp.line := some ⟨[], false⟩, spc.phase := p, il.state := .empty }

/-- The reply in the slot has this status and body. -/
def replied (t : State) (kind tag : Byte) (st : Status) (body : Bytes) : Bool :=
  decide (t.mp.slot = some ⟨kind + 0x80, tag, e1 st.code ++ body, false⟩)

/-! ### WellFormed refuses ill-formed commands -/

def block (label data : Nat) : RxBlock := ⟨false, List.replicate label 0, List.replicate data 0⟩

def shape (header service blocks label data ns : Nat) : RxFrame :=
  ⟨List.replicate header 0, false, List.replicate service 0, List.replicate blocks (block label data), 0, 0, ⟨0, ns⟩⟩

theorem test_frame_well_formed : (shape 48 48 62 4 256 999999999).wellFormed = true := by decide +kernel
theorem test_ill_formed_header : (Instr.rxFrameReceived (shape 47 48 62 4 32 0)).wellFormed = false := by decide +kernel
theorem test_ill_formed_service : (Instr.rxFrameReceived (shape 48 49 62 4 32 0)).wellFormed = false := by decide +kernel
theorem test_ill_formed_blocks : (Instr.rxFrameReceived (shape 48 48 61 4 32 0)).wellFormed = false := by decide +kernel
theorem test_ill_formed_label : (Instr.rxFrameReceived (shape 48 48 62 3 32 0)).wellFormed = false := by decide +kernel
theorem test_ill_formed_data : (Instr.rxFrameReceived (shape 48 48 62 4 257 0)).wellFormed = false := by decide +kernel
theorem test_ill_formed_arrival : (Instr.rxFrameReceived (shape 48 48 62 4 32 1000000000)).wellFormed = false := by
  decide +kernel
theorem test_ill_formed_pulse : (Instr.gnssPpsPulse 1000000000 0).wellFormed = false := by decide +kernel
theorem test_pulse_well_formed : (Instr.gnssPpsPulse 999999999 0).wellFormed = true := by decide +kernel

/-! ### Worked examples of spec/ -/

/-- CRC-16 with 0x1021 and 0xFFFF: the well-known check value of the bytes '1' to '9'. -/
theorem test_crc_check_value : crc16 [0x31, 0x32, 0x33, 0x34, 0x35, 0x36, 0x37, 0x38, 0x39] = 0x29B1 := by
  decide +kernel

/-- R151: byte 0 at position 2 of frame 4016, byte 5 at position 9 of frame 4017. -/
theorem test_pattern_bytes : patternByte 4016 2 0 = 134 ∧ patternByte 4017 9 5 = 253 := by decide +kernel

/-- R133: the positions of TEST 4 and tenants 6, 30, 21 and 1. -/
theorem test_layout :
    let c : MapCounts := ⟨4, ⟨6, 30, 21, 1⟩⟩
    (positions.map (fun q => (c.owner q).code)) =
      List.replicate 4 4 ++ List.replicate 6 0 ++ List.replicate 30 1 ++ List.replicate 21 2 ++ [3] := by
  decide +kernel

/-- Chapter 6.6: the demand of one snapshot at P5 and at P1. -/
theorem test_demand :
    let t : Tenant := { snapA := 100000, snapQ := 20000 }
    t.demand (blockBytes 5) = 11 ∧ t.demand (blockBytes 1) = 30 := by decide +kernel

/-- An ACTIVE SHARED tenant with its guarantee, weight, ceiling, and a snapshot that gives a demand of `d` at `bb`. -/
def sharedTenant (g w : Nat) (ceil : Option Nat) (d bb : Nat) : Tenant :=
  { state := .active, permit := true, fit := some .fit, snapA := d * (64 * bb)
    entry := some ⟨.shared, 0, g, w, ceil, .none, 0, 0, none⟩ }

def fixedTenant (f : Nat) : Tenant :=
  { state := .active, permit := true, fit := some .fit, entry := some ⟨.fixed, f, 0, 0, none, .none, 0, 0, none⟩ }

def unfitTenant : Tenant :=
  { state := .unfit, fit := some .lost, entry := some ⟨.shared, 0, 0, 1, none, .phase, 500, 0, none⟩ }

/-- Case A of 7.8. -/
theorem test_share_case_a :
    let o := share ⟨⟨fixedTenant 6, sharedTenant 3840 4 none 30 192, sharedTenant 1920 2 (some 4800) 40 192, unfitTenant⟩,
      5, 4, none, true⟩
    o.counts = ⟨4, ⟨6, 30, 21, 1⟩⟩ ∧ o.r = 55 ∧ o.s = 30 ∧ o.spare = 25 ∧ o.gave = true ∧ o.rExcess = 21
      ∧ o.rounds = 2 := by
  decide +kernel

/-- Case B of 7.8: the claims do not fit and are scaled. -/
theorem test_share_case_b :
    let o := share ⟨⟨fixedTenant 10, sharedTenant 3000 1 none 60 64, sharedTenant 1000 1 none 20 64,
      sharedTenant 500 1 none 5 64⟩, 1, 0, none, true⟩
    o.counts = ⟨0, ⟨10, 36, 12, 4⟩⟩ ∧ o.r = 52 ∧ o.s = 68 ∧ o.scaled = true ∧ o.spare = 0 := by
  decide +kernel

/-- Case C of 7.8: demand that has grown takes a grant of 8 back. -/
theorem test_share_case_c :
    let o := share ⟨⟨fixedTenant 20, sharedTenant 2400 3 none 30 96, sharedTenant 960 1 (some 1920) 12 96, {}⟩,
      2, 8, some 8, true⟩
    o.counts = ⟨0, ⟨20, 30, 12, 0⟩⟩ ∧ o.spare = 7 ∧ o.revoked = true ∧ o.grant = none ∧ o.tReq = 0 := by
  decide +kernel

/-- 7.8, equal weights: the remainder pass takes equal remainders in tenant order. -/
theorem test_share_equal_weights :
    let t := sharedTenant 0 1 none 62 256
    (share ⟨⟨t, t, t, {}⟩, 7, 0, none, true⟩).counts = ⟨0, ⟨21, 21, 20, 0⟩⟩ := by decide +kernel

/-- 5.4: the three loop updates, the second with a half rounded to even. -/
theorem test_loop_updates :
    let d : Dsu := { i := 12000 }
    let a := d.update 37
    let b := a.update 8
    let c := b.update (-4)
    (a.p, a.i, a.c) = (4625, 12289, -16914) ∧ (b.i, b.c) = (12351, -13351) ∧ (c.p, c.i, c.c) = (-500, 12320, -11820) := by
  decide +kernel

/-- 5.5: the mean of the ring at the entry to HOLDOVER, a half rounded to even. -/
theorem test_holdover_entry :
    let d : Dsu := { loop := .track, ring := [-16914, -16950, -16902, -16920] }
    let h := d.enterHoldover
    (h.c, h.i, h.u, h.hclock) = (-16922, 16922, 50, 0) := by decide +kernel

/-- 5.5: U at some values of the holdover clock. -/
theorem test_holdover_uncertainty :
    let at' := fun t : Nat => ({ loop := .holdover, hclock := t - 1, u := 50 } : Dsu).age.u
    (at' 1, at' 60, at' 466, at' 467, at' 600, at' 3600) = (50, 83, 500, 501, 710, 14810) := by decide +kernel

/-- 4.3: one mark, and a half of an odd round trip going to the even value. -/
theorem test_one_mark :
    markOf {} ⟨50, 200000000⟩ 60000 ⟨50, 200089500⟩ ⟨50, 200140000⟩ = ⟨40000, -10500, 10500⟩
      ∧ (markOf {} ⟨50, 200000000⟩ 59999 ⟨50, 200089500⟩ ⟨50, 200140000⟩).d = 40000
      ∧ (markOf { asym := 500 } ⟨50, 200000000⟩ 60000 ⟨50, 200089500⟩ ⟨50, 200140000⟩).e = 10000 := by decide +kernel

/-- 3.2: windows at P3 and the first at P4. -/
theorem test_margin_windows :
    let a : Lau := { wish := 3 }
    a.window 3 205 = (3, 1) ∧ ({ a with upStreak := 2 }).window 3 198 = (3, 0)
      ∧ ({ a with upStreak := 7 }).window 3 203 = (4, 0) ∧ ({ a with wish := 4 }).window 4 130 = (2, 0) := by decide +kernel

/-- 1.5: windows 3, 4 and 5 of the sweep. -/
theorem test_pointing :
    let at3 : AlignRecord := { avg := some (-587), peak := some (-587), peakTime := some ⟨1, 0⟩ }
    let r3 := at3.window (-590) ⟨2, 0⟩ (-450)
    let r4 := r3.window (-601) ⟨2, 0⟩ (-450)
    let r5 := r4.window (-498) ⟨3, 0⟩ (-450)
    (r3.peak, r3.settle) = (some (-587), 1) ∧ (r4.peak, r4.settle) = (some (-587), 0)
      ∧ (r5.peak, r5.peakTime, r5.settle) = (some (-498), some ⟨3, 0⟩, 0) := by decide +kernel

/-- 4.2: the phase error of a pulse near either end of the second. -/
theorem test_phase_error : intoSecond (310 - 120) = 190 ∧ intoSecond (999999900 - 120) = -220 := by decide +kernel

/-! ### Steps, and the two malformed commands -/

theorem test_step_takes_the_front :
    isNext (step { inPhase .load with pending := [.hotNChange true, .phaseGet 1] })
      { inPhase .load with pending := [.phaseGet 1] } = true := by decide +kernel

theorem test_malformed_frame : faults (exec (.rxFrameReceived (shape 47 48 62 4 32 0)) State.reset) .malformedFrame = true := by
  decide +kernel

theorem test_malformed_stamp : faults (exec (.gnssPpsPulse 1000000000 0) State.reset) .malformedStamp = true := by
  decide +kernel

theorem witness_completes :
    (Instr.rxFrameReceived (shape 48 48 62 4 32 999999999)).wellFormed = true
      ∧ gives (exec (.rxFrameReceived (shape 48 48 62 4 32 999999999)) State.reset) (fun _ => true) = true := by
  decide +kernel

/-- Just below a second, with the largest correction and residue. -/
theorem witness_site_time :
    let d : Dsu := { time := ⟨5, 999999999⟩, residue := 7999999, c := 20000000 }
    (d.time.ns < 1000000000 ∧ d.residue < partsPerNs ∧ -Config.ppmLimit ≤ d.c ∧ d.c ≤ Config.ppmLimit)
      ∧ d.advance.time = ⟨6, 125002⟩ ∧ d.advance.residue = 3999999 := by decide +kernel

/-! ### The Message Port -/

theorem witness_frame_received :
    let s := { inPhase .seek with mp.line := none }
    s.mp.rx = .hunt ∧ gives (exec (.frameReceived (frameBytes 0x02 7 [])) s)
      (fun t => decide (t.mp.line = some ⟨frameBytes 0x82 7 (0 :: s.phaseBody), false⟩ ∧ t.mp.counts.received = 1)) = true := by
  decide +kernel

theorem witness_frame_bad_crc :
    let s := inPhase .seek
    ([0, 0] : Bytes) ≠ crcBytes (frameInner 0x02 7 [])
      ∧ isNext (exec (.frameReceived (0xC5 :: frameInner 0x02 7 [] ++ [0, 0])) s) { s with mp.counts.crc := 1 } = true := by
  decide +kernel

theorem witness_hunt :
    let s := inPhase .load
    0xC5 ∉ ([0xFF, 0, 0xC4] : Bytes)
      ∧ isNext (exec (.frameReceived [0xFF, 0, 0xC4]) s) { s with mp.counts.hunt := 3 } = true := by decide +kernel

/-- A length of 1 and of 1,023, and a start byte among the two length bytes. -/
theorem witness_bad_length :
    let s := inPhase .load
    let after := fun bs => exec (.frameReceived bs) s
    (readLe [1, 0] < 2 ∧ 1022 < readLe [0xFF, 3])
      ∧ gives (after [0xC5, 1, 0]) (fun t => decide (t.mp.rx = .hunt ∧ t.mp.counts.length = 1)) = true
      ∧ gives (after [0xC5, 0xFF, 3]) (fun t => decide (t.mp.rx = .hunt)) = true
      ∧ gives (after [0xC5, 0xC5, 9]) (fun t => decide (t.mp.rx = .length [9])) = true
      ∧ gives (after [0xC5, 9, 0xC5]) (fun t => decide (t.mp.rx = .length [])) = true := by decide +kernel

theorem witness_frame_errors :
    let s : State := { inPhase .load with mp.rx := .length [4] }
    s.lineBusy ∧ s.mp.rx ≠ .hunt
      ∧ isNext (exec .byteError s) { s with mp.rx := .hunt, mp.counts.byteError := 1 } = true
      ∧ isNext (exec .frameTimeout s) { s with mp.rx := .hunt, mp.counts.timeout := 1 } = true
      ∧ isNext (exec .byteError (inPhase .load)) (inPhase .load) = true :=
  ⟨busy_of (by decide +kernel), by decide +kernel⟩

/-- The longest request body, at the 1,000 bytes it may carry. -/
theorem witness_round_trip :
    let r : ReqBody := .imageWrite 24 (List.replicate 1000 7)
    r.shaped = true ∧ (requestWire r).map (fun x => (x.1, x.2.length)) = some (0x10, 1002)
      ∧ ((requestWire r).map (fun x => parseBody x.1.toNat x.2)) = some r := by decide +kernel

theorem witness_port_takes : (inPhase .seek).ready ∧
    gives (exec (.phaseGet 9) (inPhase .seek)) (fun t => replied t 0x02 9 .ok (inPhase .seek).phaseBody) = true :=
  ⟨ready_of (by decide +kernel), by decide +kernel⟩

/-- The slot full: a fourth request is queued, a fifth refused from the store, and with 8 refused the next overruns. -/
theorem witness_port_queues :
    let r : Request := ⟨0x02, 1, .phaseGet⟩
    let base : State := { inPhase .seek with mp.slot := some ⟨0x82, 0, [], false⟩ }
    let three : State := { base with mp.inbound := [r, r, r] }
    let four : State := { base with mp.inbound := [r, r, r, r] }
    let full : State := { four with mp.store := List.replicate 8 (2, 0) }
    (base.work = {} ∧ base.mp.line.isSome = true ∧ base.mp.slot.isSome = true)
      ∧ isNext (exec (.phaseGet 1) three) { four with mp.counts.received := 1 } = true
      ∧ isNext (exec (.phaseGet 1) four)
        { four with mp.store := [(2, 1)], mp.counts.received := 1, mp.counts.busy := 1 } = true
      ∧ isNext (exec (.phaseGet 1) full) { full with mp.counts.received := 1, mp.counts.overrun := 1 } = true := by
  decide +kernel

theorem witness_refused : ((inPhase .load).serve .alignEnd).status = .wrongPhase
    ∧ ((inPhase .load).serve .alignEnd).state = inPhase .load := by decide +kernel

theorem witness_line_order :
    let s := inPhase .seek
    let slot : State := { s with mp.slot := some ⟨0x82, 4, [0], false⟩ }
    let store : State := { s with mp.store := [(2, 6)], mp.slot := some ⟨0x82, 4, [0], false⟩, mp.slotBehind := 1 }
    let note : State := { s with mp.notices := [⟨.link, 0, [9]⟩], mp.attn := true, mp.seq := 255 }
    let restart : State := { note with mp.line := some ⟨[1], true⟩, mp.restart := some ⟨false, false⟩ }
    s.calm
      ∧ isNext (exec .lineFrameSent restart) { restart with mp.line := none, mp.restartDue := true } = true
      ∧ isNext (exec .lineFrameSent slot) { slot with mp.slot := none, mp.line := some ⟨[0xC5, 3, 0, 0x82, 4, 0] ++ crcBytes [3, 0, 0x82, 4, 0], false⟩ } = true
      ∧ gives (exec .lineFrameSent store)
        (fun t => decide (t.mp.line = some ⟨frameBytes 0x82 6 [5], false⟩ ∧ t.mp.slot = store.mp.slot)) = true
      ∧ gives (exec .lineFrameSent note) (fun t => decide (t.mp.line = some ⟨frameBytes 0x42 255 [0, 9], false⟩
        ∧ t.mp.seq = 0 ∧ t.mp.attn = false)) = true
      ∧ isNext (exec .lineFrameSent s) { s with mp.line := none } = true :=
  ⟨calm_of (by decide +kernel), by decide +kernel⟩

theorem witness_distinct_notices :
    let s : State := { inPhase .seek with mp.notices := [⟨.link, 0, []⟩, ⟨.ref, 0, []⟩, ⟨.ref, 1, []⟩] }
    (s.mp.notices.map Notice.key).Nodup ∧ gives (exec (.profileCap 1 0) s) (fun t => decide (t.mp.notices.length = 4)) = true := by
  decide +kernel

/-! ### Requests -/

theorem witness_reports :
    let s := inPhase .seek
    s.ready ∧ s.il.state ≠ .reading
      ∧ isNext (exec (.linkGet 1) s) (s.answer 0x18 1 .ok s.linkBody) = true
      ∧ isNext (exec (.tenantGet 1 3) s) (s.answer 0x28 1 .ok (s.tenantBody 3)) = true
      ∧ isNext (exec (.imageRead 1 1023 1) s) (s.answer 0x12 1 .ok (s.imageReadBody 1023 1)) = true
      ∧ isNext (exec (.imageRead 1 24 1000) s) (s.answer 0x12 1 .ok (s.imageReadBody 24 1000)) = true :=
  ⟨ready_of (by decide +kernel), by decide +kernel⟩

theorem test_reports_change_nothing :
    let s := inPhase .seek
    isNext (exec (.phaseGet 1) s) (s.answer 0x02 1 .ok s.phaseBody) = true
      ∧ isNext (exec (.thermalGet 1) s) (s.answer 0x20 1 .ok s.thermalBody) = true
      ∧ isNext (exec (.refGet 1) s) (s.answer 0x24 1 .ok s.refBody) = true
      ∧ isNext (exec (.timeGet 1) s) (s.answer 0x25 1 .ok s.timeBody) = true
      ∧ isNext (exec (.mapGet 1) s) (s.answer 0x2C 1 .ok s.mapBody) = true
      ∧ isNext (exec (.testLog 1) s) (s.answer 0x32 1 .ok s.testLogBody) = true
      ∧ isNext (exec (.faultGet 1) s) (s.answer 0x38 1 .ok s.faultBody) = true
      ∧ gives (exec (.ident 1) s) (fun t => decide (t.mp.counts.answered = 1)) = true := by decide +kernel

theorem witness_refusals_by_phase :
    (inPhase .seek).ready ∧ (inPhase .load).ready ∧ (inPhase .halt).ready
      ∧ isNext (exec (.alignEnd 1) (inPhase .seek)) ((inPhase .seek).answer 0x03 1 .wrongPhase []) = true
      ∧ isNext (exec (.proveForce 1) (inPhase .seek)) ((inPhase .seek).answer 0x05 1 .wrongPhase []) = true
      ∧ isNext (exec (.siteReseek 1) (inPhase .seek)) ((inPhase .seek).answer 0x06 1 .wrongPhase []) = true
      ∧ isNext (exec (.siteStop 1) (inPhase .halt)) ((inPhase .halt).answer 0x07 1 .wrongPhase []) = true
      ∧ isNext (exec (.imageCommit 1) (inPhase .seek)) ((inPhase .seek).answer 0x11 1 .wrongPhase []) = true
      ∧ isNext (exec (.imageWrite 1 0 [1]) (inPhase .seek)) ((inPhase .seek).answer 0x10 1 .wrongPhase []) = true
      ∧ isNext (exec (.imageSave 1) (inPhase .seek)) ((inPhase .seek).answer 0x13 1 .wrongPhase []) = true
      ∧ isNext (exec (.testRun 1 0) (inPhase .seek)) ((inPhase .seek).answer 0x30 1 .wrongPhase []) = true :=
  ⟨ready_of (by decide +kernel), ready_of (by decide +kernel), ready_of (by decide +kernel), by decide +kernel⟩

theorem witness_refusals_in_load :
    let s := inPhase .load
    isNext (exec (.profileFix 1 0) s) (s.answer 0x1A 1 .wrongPhase []) = true
      ∧ isNext (exec (.noteSend 1 [0]) s) (s.answer 0x1B 1 .wrongPhase []) = true
      ∧ isNext (exec (.noteSend 1 (List.replicate 32 0)) s) (s.answer 0x1B 1 .wrongPhase []) = true
      ∧ isNext (exec (.thermalEnable 1 none) s) (s.answer 0x21 1 .wrongPhase []) = true
      ∧ isNext (exec (.tenantSet 1 9 9 none) s) (s.answer 0x29 1 .wrongPhase []) = true
      ∧ isNext (exec (.tenantBar 1 9) s) (s.answer 0x2A 1 .wrongPhase []) = true
      ∧ isNext (exec (.testAbort 1 9) s) (s.answer 0x31 1 .wrongPhase []) = true
      ∧ isNext (exec (.faultSet 1 (List.replicate 24 9) 9) s) (s.answer 0x3B 1 .wrongPhase []) = true
      ∧ isNext (exec (.unknownKindRequest 0x40 1) s) (s.answer 0x40 1 .unknownKind []) = true
      ∧ isNext (exec (.unknownKindRequest 0x7F 1) s) (s.answer 0x7F 1 .unknownKind []) = true
      ∧ (0x3C : Byte).toNat ∉ assignedKinds
      ∧ isNext (exec (.unknownKindRequest 0x3C 1) s) (s.answer 0x3C 1 .unknownKind []) = true
      ∧ isNext (exec (.unknownKindRequest 0x80 1) s)
        { s with mp.counts.received := 1, mp.counts.replyKind := 1 } = true := by decide +kernel

theorem witness_peak_reset :
    let s : State := { inPhase .align with spc.record := { avg := some (-450), peak := some (-400), settle := 9 } }
    s.ready ∧ s.spc.record.avg = some (-450)
      ∧ isNext (exec (.alignPeakReset 1) s)
        ({ s with spc.record := ⟨some (-450), some (-450), some ⟨0, 0⟩, 0, false⟩ }.answer 0x04 1 .ok []) = true
      ∧ isNext (exec (.alignPeakReset 1) (inPhase .align)) ((inPhase .align).answer 0x04 1 .ok []) = true
      ∧ isNext (exec (.alignPeakReset 1) (inPhase .seek)) ((inPhase .seek).answer 0x04 1 .wrongPhase []) = true :=
  ⟨ready_of (by decide +kernel), by decide +kernel⟩

/-- A state in a phase that a link carries. -/
def linked (p : Phase) (r : RxFramer) : State := { inPhase p with il.state := .accepted, lfr.rx.framer := r }

theorem witness_phase_requests :
    (linked .align .hunt).ready ∧ (linked .service .hunt).ready ∧ (linked .prove .up).ready
      ∧ gives (exec (.alignEnd 1) (linked .align .hunt)) (fun t => decide (t.spc.phase = .seek ∧ t.spc.cause = .alignEnd)) = true
      ∧ gives (exec (.siteReseek 1) (linked .service .hunt)) (fun t => decide (t.spc.phase = .seek)) = true
      ∧ gives (exec (.siteReseek 1) { linked .recover .hunt with spc.recover := some 5 })
        (fun t => decide (t.spc.phase = .seek ∧ t.spc.recover = none)) = true
      ∧ gives (exec (.proveForce 1) { linked .prove .up with spc.prove := .failed })
        (fun t => decide (t.spc.phase = .service ∧ t.spc.cause = .proveForce ∧ t.spc.prove = .idle)) = true
      ∧ gives (exec (.siteStop 1) (linked .service .up)) (fun t => decide (t.spc.phase = .halt ∧ t.lfr.tx.framer = .halted
        ∧ t.spc.left = .service)) = true
      ∧ gives (exec (.siteStop 1) (inPhase .load)) (fun t => decide (t.spc.phase = .halt ∧ t.lfr.tx.framer = .off)) = true :=
  ⟨ready_of (by decide +kernel), ready_of (by decide +kernel), ready_of (by decide +kernel), by decide +kernel⟩

/-- R7, R13: the restart of a framer in UP and in CONFIRM, and ALIGN left with the framer UP. -/
theorem witness_restarted_framer :
    let s := fun f : RxFramer => ({ linked .service f with
      lfr.rx.prof := 3, lfr.rx.run := 5, lfr.rx.peer := some ⟨2, false, false, some 0⟩ } : State)
    let align : State := { linked .align .up with stu.plan := [] }
    (s .up).ready ∧ (s .up).fmn.answersNever .halt ∧ align.ready ∧ align.stu.entriesOf .bringup = []
      ∧ gives (exec (.siteReseek 1) (s .up)) (fun t => decide (t.spc.phase = .seek ∧ t.lfr.rx.framer = .hunt
        ∧ t.lfr.counts.down = 1 ∧ t.lfr.rx.peer = none ∧ t.lfr.rx.prof = 0)) = true
      ∧ gives (exec (.siteReseek 1) (s .confirm)) (fun t => decide (t.spc.phase = .seek ∧ t.lfr.rx.framer = .hunt
        ∧ t.lfr.counts.down = 0 ∧ t.lfr.rx.run = 0 ∧ t.lfr.rx.peer = none)) = true
      ∧ gives (exec (.alignEnd 1) align) (fun t => decide (t.spc.phase = .service ∧ t.spc.cause = .proveEmpty)) = true :=
  ⟨ready_of (by decide +kernel), by unfold Fmn.answersNever; decide +kernel, ready_of (by decide +kernel), by decide +kernel⟩

/-- A HELD tenant that may become ACTIVE, and one whose port is down. -/
def heldTenant (link : Bool) : Tenant :=
  { state := .held, fit := some .fit, link := link, entry := some ⟨.shared, 0, 0, 1, none, .none, 0, 0, none⟩ }

theorem witness_service_entry :
    let s : State := { linked .prove .up with tpt := ⟨heldTenant true, heldTenant false, {}, {}⟩ }
    s.ready ∧ s.stu.queue = [] ∧ gives (exec (.proveForce 1) s)
      (fun t => decide (t.tpt.t0.state = .active ∧ t.tpt.t0.permit = true ∧ t.tpt.t1.state = .held)) = true :=
  ⟨ready_of (by decide +kernel), by decide +kernel⟩

/-! ### The image -/

/-- An image with a LINK section alone: a FIELD end with alignment on and no auto-exit. -/
def smallImage : Bytes := (renderImage [(1, (⟨false, 0x1234, true, false, -450, .level⟩ : LinkSet).bytes)]).1

theorem witness_image_write :
    let s : State := { inPhase .load with il.buffer := [(3, 9)] }
    s.ready ∧ s.bufferWf
      ∧ gives (exec (.imageWrite 1 2 [7, 0]) s) (fun t => decide (t.il.buffer = [(2, 7)] ∧ t.il.state = .staging)) = true
      ∧ gives (exec (.imageWrite 1 1023 [7]) s) (fun t => decide (t.il.buffer = [(3, 9), (1023, 7)])) = true
      ∧ isNext (exec (.imageWrite 1 1023 [7, 7]) s) (s.answer 0x10 1 .badLength []) = true
      ∧ isNext (exec (.imageWrite 1 0 [7]) { s with il.saving := true })
        ({ s with il.saving := true }.answer 0x10 1 .busy []) = true :=
  ⟨ready_of (by decide +kernel), by unfold State.bufferWf; decide +kernel, by decide +kernel⟩

theorem witness_image_commit :
    let s : State := { inPhase .load with il.state := .staging, il.buffer := Memory.ofBytes smallImage }
    s.ready ∧ s.fmn.rows.length = 21 ∧ validate s.il.bytes = none
      ∧ gives (exec (.imageCommit 1) s) (fun t => decide (t.il.state = .accepted ∧ t.spc.phase = .align
        ∧ t.il.link = some ⟨false, 0x1234, true, false, -450, .level⟩)) = true
      ∧ validate (inPhase .load).il.bytes = some (.signature, 0)
      ∧ gives (exec (.imageCommit 1) (inPhase .load)) (fun t => replied t 0x11 1 .badValue [0, 0, 0]
        && decide (t.il.state = .rejected ∧ (t.fmn.row 0).active = true)) = true :=
  ⟨ready_of (by decide +kernel), by decide +kernel⟩

/-- R177 and R179: the fields of a small image, and the checks that a changed byte fails. -/
theorem test_small_image :
    smallImage.length = 38 ∧ smallImage.take 8 = [0x6B, 1, 38, 0, 1, 1, 8, 7]
      ∧ validate (padTo 1024 (smallImage.set 0 0)) = some (.signature, 0)
      ∧ validate (padTo 1024 (smallImage.set 29 0)) = some (.crc, 36)
      ∧ validate (padTo 1024 (smallImage.set 4 8)) = some (.length, 4) := by decide +kernel

/-- A site with an accepted image. -/
def imaged (p : Phase) : State :=
  { inPhase p with il.state := .accepted, il.link := some ⟨false, 0x1234, true, false, -450, .level⟩ }

theorem witness_image_save :
    let s := imaged .seek
    s.ready ∧ s.il.state = .accepted ∧ s.il.saving = false
      ∧ gives (exec (.imageSave 1) s) (fun t => decide (t.il.saving = true ∧ t.il.state = .accepted ∧ t.il.dir.length = 5)) = true
      ∧ isNext (exec (.imageSave 1) { s with il.saving := true }) ({ s with il.saving := true }.answer 0x13 1 .busy []) = true :=
  ⟨ready_of (by decide +kernel), by decide +kernel⟩

/-- The whole image written and read back equal, with and without bytes after it; one byte short of it; a byte read back
wrong; the last byte not read back. -/
theorem witness_save_ends :
    let s : State := { imaged .seek with il.saving := true, il.buffer := Memory.ofBytes smallImage }
    let ends := fun (written : Nat) (back : Bytes) (x : SaveOutcome × Nat) =>
      gives (exec (.saveDone written back) s) (fun t => decide (t.il = { s.il with saving := false, lastSave := some x }))
    s.calm ∧ s.il.saving = true ∧ s.il.afterSave = none ∧ readLe (s.il.buffer.readBytes 2 2) = 38
      ∧ ends 38 smallImage (.done, 38) = true ∧ ends 1024 (padTo 1024 smallImage) (.done, 38) = true
      ∧ ends 37 smallImage (.failed, 37) = true ∧ ends 38 (smallImage.set 37 0xAA) (.failed, 38) = true
      ∧ ends 38 (smallImage.take 37) (.failed, 38) = true :=
  ⟨calm_of (by decide +kernel), by decide +kernel⟩

theorem witness_eeprom :
    let s : State := { inPhase .load with il.state := .reading }
    s.calm ∧ s.fmn.rows.length = 21 ∧ field smallImage 0 1 = 0x6B ∧ 38 ≤ field smallImage 2 2
      ∧ field smallImage 2 2 ≤ 1024
      ∧ gives (exec (.eepromReadDone false []) s) (fun t => decide (t.il.state = .empty ∧ t.fmn = s.fmn)) = true
      ∧ gives (exec (.eepromReadDone true [0xFF]) s) (fun t => decide (t.il.state = .empty ∧ t.il.buffer = [(0, 0xFF)])) = true
      ∧ gives (exec (.eepromReadDone true smallImage) s)
        (fun t => decide (t.il.state = .accepted ∧ t.spc.phase = .align ∧ t.lfr.rx.framer = .hunt)) = true
      ∧ gives (exec (.eepromReadDone true (smallImage.set 30 1)) s)
        (fun t => decide (t.il.state = .rejected ∧ t.il.reject = some (.crc, 36))) = true
      ∧ gives (exec (.eepromReadDone true (smallImage.set 2 37)) s) (fun t => decide (t.il.state = .rejected
        ∧ t.il.reject = some (.length, 2) ∧ t.il.buffer = Memory.ofBytes [0x6B, 1, 37, 0, smallImage.getD 4 0]
        ∧ (t.fmn.row 0).active = true)) = true :=
  ⟨calm_of (by decide +kernel), by decide +kernel⟩

/-! ### Requests on the link, the cabinet and time -/

theorem witness_profile_cap :
    (inPhase .load).ready ∧ gives (exec (.profileCap 1 5) (inPhase .load))
      (fun t => replied t 0x19 1 .ok [5, 7, 7, 5] && decide (t.lau.ceiling = 5)) = true
      ∧ gives (exec (.profileCap 1 255) (inPhase .load)) (fun t => replied t 0x19 1 .ok [7, 7, 7, 7]) = true :=
  ⟨ready_of (by decide +kernel), by decide +kernel⟩

theorem witness_profile_fix :
    let up : State := { linked .seek .up with lfr.rx.prof := 3 }
    up.ready ∧ up.spc.phase ≠ .load
      ∧ gives (exec (.profileFix 1 7) up) (fun t => decide (t.lau.fix = some 7 ∧ t.lau.wish = 7)) = true
      ∧ gives (exec (.profileFix 1 255) { up with lau.fix := some 7, lau.wish := 7 })
        (fun t => decide (t.lau.fix = none ∧ t.lau.wish = 3)) = true
      ∧ isNext (exec (.profileFix 1 255) up) (up.answer 0x1A 1 .ok []) = true
      ∧ isNext (exec (.profileFix 1 8) up) (up.answer 0x1A 1 .badValue []) = true
      ∧ isNext (exec (.profileFix 1 254) up) (up.answer 0x1A 1 .badValue []) = true :=
  ⟨ready_of (by decide +kernel), by decide +kernel⟩

theorem witness_notes :
    let s := inPhase .seek
    let full : State := { s with lfr.tx.svc := List.replicate 8 (SvcMsg.note [1]) }
    let relay : State := { s with lfr.rx.relay := [⟨[5, 6], ⟨2, 3⟩⟩], lfr.rx.relayLost := 4 }
    s.ready
      ∧ isNext (exec (.noteSend 1 [8]) s) ({ s with lfr.tx.svc := [SvcMsg.note [8]] }.answer 0x1B 1 .ok []) = true
      ∧ isNext (exec (.noteSend 1 [8]) full) (full.answer 0x1B 1 .noRoom []) = true
      ∧ gives (exec (.noteRead 1) relay) (fun t => decide (t.lfr.rx.relay = [] ∧ t.lfr.rx.relayLost = 0)) = true
      ∧ gives (exec (.noteRead 1) s) (fun t => decide (t.mp.slot.isSome = true)) = true :=
  ⟨ready_of (by decide +kernel), by decide +kernel⟩

theorem witness_thermal_enable :
    let s := inPhase .seek
    let b : ThermalBody := ⟨100, 20000, 1, 7, 7, 0⟩
    let locked : State := { s with tlm.locked := true, tlm.enabled := true }
    s.ready ∧ (thermalFlagsOk b = true ∧ (thermalSetOf b).valid = true)
      ∧ gives (exec (.thermalEnable 1 (some b)) s)
        (fun t => decide (t.tlm.set = ⟨100, 20000, true, 7, 7, false⟩ ∧ t.tlm.locked = true)) = true
      ∧ isNext (exec (.thermalEnable 1 (some { b with low := 99 })) s) (s.answer 0x21 1 .badValue []) = true
      ∧ isNext (exec (.thermalEnable 1 (some b)) locked) (locked.answer 0x21 1 .locked []) = true
      ∧ isNext (exec (.thermalEnable 1 (some ⟨4000, 6000, 0, 5, 2, 0⟩)) locked) (locked.answer 0x21 1 .ok []) = true :=
  ⟨ready_of (by decide +kernel), by decide +kernel⟩

theorem witness_time_set :
    let s := inPhase .seek
    let b : TimeSetBody := ⟨0xC5, 77, 0, 1000000, 10, 0, 1, 99, 21⟩
    s.ready ∧ timeHas b 1 = false ∧ timeSetValid b s.hubInForce = true
      ∧ gives (exec (.timeSet 1 b) s) (fun t => decide (t.dsu.pendSec = some 77 ∧ t.rfm.set.cable = 1000000
        ∧ t.dsu.set.pShift = 15 ∧ t.dsu.set.iShift = 20 ∧ t.rfm.set.ppsTol = 1000 ∧ t.dsu.time = ⟨0, 0⟩)) = true
      ∧ timeSetValid { b with cableDelay := 1000001 } s.hubInForce = false
      ∧ isNext (exec (.timeSet 1 { b with cableDelay := 1000001 }) s) (s.answer 0x26 1 .badValue []) = true :=
  ⟨ready_of (by decide +kernel), by decide +kernel⟩

/-- R76: L, UP under G_ONLY's end, is named and DOWN; G, left out, is DISABLED; of two UP references the first is selected. -/
theorem witness_priority :
    let b : TimeSetBody := ⟨2, 0, 3, 0, 0, 0, 0, 0, 0⟩
    let x : RefState := { mode := .up, streak := 1, wait := some 9 }
    let s : State := { imaged .seek with rfm.g := x, rfm.l := { mode := .disabled }, rfm.sel := some .g, rfm.set.priority := .gOnly }
    let both : State := { imaged .seek with rfm.g := x, rfm.l := x, rfm.sel := some .g }
    s.ready ∧ s.fmn.answersNever .reseek
      ∧ gives (exec (.timeSet 1 b) s) (fun t => decide (t.rfm.g = { mode := .disabled } ∧ t.rfm.l = { mode := .down }
        ∧ t.rfm.sel = none ∧ t.rfm.set.priority = .lOnly ∧ (t.fmn.row 7).active = true)) = true
      ∧ gives (exec (.timeSet 1 { b with priority := 1 }) both) (fun t => decide (t.rfm.g = { x with wait := none }
        ∧ t.rfm.l = { x with wait := none } ∧ t.rfm.sel = some .l)) = true
      ∧ gives (exec (.timeSet 1 { b with priority := 0 }) both) (fun t => decide (t.rfm = both.rfm)) = true :=
  ⟨ready_of (by decide +kernel), by unfold Fmn.answersNever; decide +kernel, by decide +kernel⟩

/-! ### Tenants -/

def withTenant2 (s : State) (t : Tenant) : State := { s with tpt := ⟨{}, {}, t, {}⟩ }

theorem witness_tenant_bar :
    let s := withTenant2 (imaged .service) { heldTenant true with state := .active, permit := true, queue := [[1, 2]] }
    let barred := withTenant2 (imaged .service) { heldTenant true with state := .barred }
    s.ready ∧ s.stu.queue = []
      ∧ gives (exec (.tenantBar 1 2) s) (fun t => decide (t.tpt.t2.state = .barred ∧ t.tpt.t2.permit = false
        ∧ t.tpt.t2.queue = [] ∧ t.tpt.t2.counts.flushed = 1 ∧ t.tpt.t2.fit = some .fit)) = true
      ∧ isNext (exec (.tenantBar 1 3) s) (s.answer 0x2A 1 .badValue []) = true
      ∧ isNext (exec (.tenantBar 1 2) barred) (barred.answer 0x2A 1 .ok []) = true
      ∧ gives (exec (.tenantUnbar 1 2) barred) (fun t => decide (t.tpt.t2.state = .active)) = true
      ∧ isNext (exec (.tenantUnbar 1 2) s) (s.answer 0x2B 1 .ok []) = true :=
  ⟨ready_of (by decide +kernel), by decide +kernel⟩

/-- A SHARED entry for tenant 2: guarantee 16, weight 3, no ceiling. -/
def rawEntry : Bytes := [2, 1, 0, 16, 0, 3] ++ List.replicate 18 0

/-- R103, R108: an entry for a VACANT tenant in SERVICE, its port up and down, and in HALT. -/
theorem witness_tenant_new :
    let s := fun p l => withTenant2 (imaged p) { link := l }
    let set := fun s => exec (.tenantSet 1 2 0 (some rawEntry)) s
    (s .service false).ready ∧ (s .service false).fmn.phaseStays (17 + 2)
      ∧ (checkEntry ((s .service false).otherFixed 2) rawEntry).all (·.2) = true
      ∧ gives (set (s .service true)) (fun t => decide (t.tpt.t2.state = .active ∧ t.tpt.t2.permit = true)) = true
      ∧ gives (set (s .service false)) (fun t => decide (t.tpt.t2.state = .held ∧ (t.fmn.row 19).active = true)) = true
      ∧ gives (set (s .halt true)) (fun t => decide (t.tpt.t2.state = .held ∧ t.tpt.t2.fit = some .fit)) = true :=
  ⟨ready_of (by decide +kernel), by unfold Fmn.phaseStays; decide +kernel, by decide +kernel⟩

theorem witness_tenant_set :
    let s := imaged .seek
    let vacant := withTenant2 s { link := true }
    rawEntry.length = 24 ∧ s.ready ∧ (checkEntry (vacant.otherFixed 2) rawEntry).all (·.2) = true
      ∧ gives (exec (.tenantSet 1 2 0 (some rawEntry)) vacant) (fun t => decide (t.tpt.t2.state = .held
        ∧ t.tpt.t2.entry = some (readEntry rawEntry) ∧ t.tpt.t2.fit = some .fit)) = true
      ∧ gives (exec (.tenantSet 1 2 1 none) (withTenant2 s (heldTenant true)))
        (fun t => decide (t.tpt.t2.state = .vacant ∧ t.tpt.t2.entry = none)) = true
      ∧ (let a := withTenant2 s { heldTenant true with state := .unfit }
        isNext (exec (.tenantSet 1 2 1 none) a) (a.answer 0x29 1 .wrongPhase []) = true)
      ∧ isNext (exec (.tenantSet 1 1 0 (some rawEntry)) s) (s.answer 0x29 1 .badValue []) = true
      ∧ (checkEntry (s.otherFixed 2) (rawEntry.set 5 0)).any (fun c => !c.2) = true
      ∧ isNext (exec (.tenantSet 1 2 0 (some (rawEntry.set 5 0))) s) (s.answer 0x29 1 .badValue []) = true :=
  ⟨rfl, ready_of (by decide +kernel), by decide +kernel⟩

/-- R101: a present entry replaced for an ACTIVE tenant, with a class change refused, and the vacate instruction. -/
theorem witness_tenant_replaced :
    let a : Tenant := { heldTenant true with state := .active, permit := true, queue := [[1, 2]], thr := 7 }
    let s := withTenant2 (imaged .service) a
    let class' := { a with entry := some ⟨.fixed, 3, 0, 0, none, .none, 0, 0, none⟩ }
    let barred := withTenant2 (imaged .service) { a with state := .barred, permit := false }
    s.ready ∧ rawEntry.length = 24 ∧ (checkEntry (s.otherFixed 2) rawEntry).all (·.2) = true
      ∧ gives (exec (.tenantSet 1 2 0 (some rawEntry)) s)
        (fun t => decide (t.tpt.t2 = { a with entry := some (readEntry rawEntry), cause := .tenantSet })) = true
      ∧ isNext (exec (.tenantSet 1 2 0 (some rawEntry)) (withTenant2 s class'))
        ((withTenant2 s class').answer 0x29 1 .wrongPhase []) = true
      ∧ gives (exec (.tenantSet 1 2 0 (some (rawEntry.set 9 1))) { s with dsu.loop := .free })
        (fun t => decide (t.tpt.t2.permit = false ∧ t.tpt.t2.fit = some .lost)) = true
      ∧ gives (exec (.tenantSet 1 2 1 none) barred) (fun t => decide (t.tpt.t2.state = .vacant
        ∧ t.tpt.t2.counts.flushed = 1)) = true
      ∧ gives (exec (.tenantSet 1 3 1 none) s) (fun t => decide (t.tpt.t3 = { cause := .tenantSet } ∧ t.tpt.t2 = a)
        && replied t 0x29 1 .ok (t.tenantSetBody 3)) = true :=
  ⟨ready_of (by decide +kernel), by decide +kernel⟩

/-! ### Self-test and faults -/

def patternEntry : PlanEntry :=
  { kind := .linkPattern, schedule := .bringup, period := 0, raises := true, blocks := 4, duration := 800
    mask := List.replicate 16 0xFF, errors := 0, limit := 0 }

/-- A run of entry 0. -/
def patternRun (st : RunState) : Run := { idx := 0, entry := patternEntry, id := 7, round := false, state := st }

theorem witness_test_run :
    let s : State := { imaged .service with stu.plan := [patternEntry, patternEntry], stu.queue := [patternRun .running],
                                            stu.runId := 255 }
    let two : State := { s with stu.queue := [patternRun .running, { patternRun .queued with idx := 1, id := 8 }] }
    s.ready
      ∧ gives (exec (.testRun 1 1) s) (fun t => replied t 0x30 1 .ok [1, 0]
        && decide (t.stu.queue = [patternRun .running, { patternRun .queued with idx := 1, id := 1 }])) = true
      ∧ gives (exec (.testAbort 1 1) two) (fun t => replied t 0x31 1 .ok [1]
        && decide (t.stu.queue = [patternRun .running])) = true
      ∧ isNext (exec (.testRun 1 2) s) (s.answer 0x30 1 .badValue []) = true
      ∧ isNext (exec (.testAbort 1 8) s) (s.answer 0x31 1 .badValue []) = true
      ∧ (let e := imaged .service
        isNext (exec (.testAbort 1 7) e) (e.answer 0x31 1 .ok [2]) = true) :=
  ⟨ready_of (by decide +kernel), by decide +kernel⟩

/-- In a phase, tenants ACTIVE and UNFIT, and a run of pattern blocks active with another queued behind it. -/
def testing (p : Phase) (r : RxFramer) (st : RunState) : State :=
  { linked p r with
    tpt := ⟨{ heldTenant true with state := .active, permit := true }, { unfitTenant with link := true }, heldTenant false, {}⟩
    stu.queue := [patternRun st, { patternRun .queued with idx := 1, id := 8 }], sha.grant := some 4, sha.tReq := 4 }

/-- The runs of `testing` are gone, the active one ended with this cause, and its grant given back. -/
def stoppedB (t : State) (c : RunCause) : Bool :=
  decide (t.stu.queue = [] ∧ t.stu.log.map (fun x => (x.id, x.outcome, x.cause)) = [(7, .aborted, c)]
    ∧ t.sha.grant = none ∧ t.sha.tReq = 0)

/-- The tenants of `testing` are HELD, the fourth vacant as it was. -/
def heldB (t : State) : Bool :=
  decide (t.tpt.toList.map (fun x => (x.state, x.permit)) =
    [(.held, false), (.held, false), (.held, false), (.vacant, false)])

theorem testing_active (p : Phase) (r : RxFramer) : (testing p r .running).runActive (patternRun .running) :=
  ⟨by decide, _, rfl, by decide⟩

/-- R8, R19, R159: SITE_STOP and SITE_RESEEK with a run active. -/
theorem witness_runs_stopped :
    let s := fun p r => testing p r .running
    (s .service .hunt).ready ∧ (s .service .hunt).runActive (patternRun .running) ∧ (s .prove .up).fmn.answersNever .halt
      ∧ (s .service .up).fmn.answersNever .bar
      ∧ gives (exec (.siteStop 1) (s .service .hunt)) (fun t => stoppedB t .phase && heldB t && decide (t.spc.phase = .halt)) = true
      ∧ gives (exec (.siteStop 1) (s .prove .up)) (fun t => stoppedB t .phase) = true
      ∧ gives (exec (.siteReseek 1) (s .service .up)) (fun t => stoppedB t .phase && heldB t && decide (t.spc.phase = .seek)) = true
      ∧ gives (exec (.siteReseek 1) (s .prove .hunt)) (fun t => stoppedB t .phase) = true :=
  ⟨ready_of (by decide +kernel), testing_active _ _, by unfold Fmn.answersNever; decide +kernel,
    by unfold Fmn.answersNever; decide +kernel, by decide +kernel⟩

/-- R4, R5, R153: a DOWN in SERVICE and in PROVE, with a run active and with none. -/
theorem witness_down_phase :
    let s := fun p => testing p .down .running
    let quiet := fun p => ({ s p with stu.queue := [], sha.grant := none, sha.tReq := 0, spc.retry := some 9, spc.roundNo := 2 } : State)
    (s .service).calm ∧ (s .service).runActive (patternRun .running)
      ∧ (∀ r ∈ [1, 7, 9, 10, 11, 12], (quiet .service).fmn.phaseStays r)
      ∧ gives (exec .rxFramerDown (s .service)) (fun t => stoppedB t .linkDown) = true
      ∧ gives (exec .rxFramerDown (s .prove)) (fun t => stoppedB t .linkDown) = true
      ∧ gives (exec .rxFramerDown (quiet .service)) (fun t => heldB t && decide (t.spc.phase = .recover
        ∧ t.spc.left = .service ∧ t.spc.cause = .linkDown ∧ t.spc.recover = some 160000)) = true
      ∧ gives (exec .rxFramerDown (quiet .prove)) (fun t => decide (t.spc.phase = .seek ∧ t.spc.left = .prove
        ∧ t.spc.cause = .linkDown ∧ t.spc.prove = .idle ∧ t.spc.roundNo = 0 ∧ t.spc.retry = none)) = true
      ∧ gives (exec .rxFramerDown (quiet .align)) (fun t => decide (t.spc = (quiet .align).spc)) = true :=
  ⟨calm_of (by decide +kernel), testing_active _ _, by unfold Fmn.phaseStays; decide +kernel, by decide +kernel⟩

/-- R147, R153, R160: a run on an empty queue, a coalesced request, and the active run of a round aborted by the host. -/
theorem witness_test_run_alone :
    let cross : PlanEntry := { patternEntry with kind := .refCross, limit := 100, duration := 10 }
    let s : State := { imaged .prove with
      stu.plan := [patternEntry, cross, { patternEntry with kind := .sensorCheck }], stu.runId := 255, spc.prove := .round, spc.roundNo := 2 }
    let r : Run := { patternRun .running with round := true }
    let active : State := { s with stu.queue := [r], sha.grant := some 4, sha.tReq := 4 }
    s.ready ∧ s.stu.queue = [] ∧ s.sha.grant = none
      ∧ gives (exec (.testRun 1 0) s) (fun t => decide (t.stu.queue.map (fun q => (q.state, q.grantLeft, q.id)) =
        [(.waiting, some 40000, 1)] ∧ t.sha.tReq = 4)) = true
      ∧ gives (exec (.testRun 1 0) { s with lfr.tx.framer := .normal }) (fun t => decide (t.stu.queue.map (·.state) = [.starting]
        ∧ t.sha.grant = some 4)) = true
      ∧ gives (exec (.testRun 1 1) s) (fun t => decide (t.stu.queue.map (·.state) = [.running])) = true
      ∧ gives (exec (.testRun 1 2) s) (fun t => decide (t.stu.queue = []
        ∧ t.stu.log.map (fun x => (x.outcome, x.cause)) = [(.fail, .invalidGate)])) = true
      ∧ isNext (exec (.testRun 1 0) active) (active.answer 0x30 1 .ok [7, 1]) = true
      ∧ gives (exec (.testAbort 1 0) active) (fun t => replied t 0x31 1 .ok [0] && decide (t.stu.queue = []
        ∧ t.stu.log.map (fun x => (x.outcome, x.cause)) = [(.aborted, .host)] ∧ t.sha.grant = none
        ∧ t.spc.roundNo = 3 ∧ t.spc.retry = some 16000)) = true :=
  ⟨ready_of (by decide +kernel), by decide +kernel⟩

theorem witness_fault_ack :
    let s : State := { imaged .service with fmn.out := some ⟨20, .cap, 2, ⟨1, 2⟩, .service⟩, fmn.capOn := true, lau.ceiling := 3 }
    s.ready
      ∧ gives (exec (.faultAck 1 20) s) (fun t => decide (t.fmn.out = none ∧ t.lau.ceiling = 7)) = true
      ∧ isNext (exec (.faultAck 1 0) s) (s.answer 0x39 1 .badValue [1, 20]) = true
      ∧ isNext (exec (.faultAck 1 0) (imaged .service)) ((imaged .service).answer 0x39 1 .badValue [0, 0]) = true
      ∧ isNext (exec (.faultAck 1 21) s) (s.answer 0x39 1 .badValue []) = true :=
  ⟨ready_of (by decide +kernel), by decide +kernel⟩

/-- A raise of PROFILE_FLOOR under a table with this pair for its class. -/
def raising (pair : ResponsePair) : State :=
  { imaged .service with fmn.table := defaultTable.set 3 pair, lau.ceiling := 7, dsu.time := ⟨5, 6⟩ }

/-- A response latches, is masked, or is taken; a rank equal to the record's is masked, one above it replaces the record. -/
theorem witness_raise :
    let s := raising ⟨.reseek, .cap⟩
    let at' := fun (s : State) (p : Phase) => s.raise ⟨3, 9, p⟩
    let out := fun (k : Nat) (s : State) => ({ s with fmn.out := some ⟨20, .note, k, ⟨1, 2⟩, .prove⟩ } : State)
    s.fmn.rows.length = 21 ∧ s.fmn.table[rowClass 3]? = some ⟨.reseek, .cap⟩
      ∧ (at' (at' s .service) .service) = at' s .service
      ∧ (at' s .halt).fmn.row 3 = { active := true, latched := true, time := some ⟨5, 6⟩, detail := 9, count := 1
                                    done := some .latched }
      ∧ (at' s .halt).fmn.out = none ∧ ((at' (raising ⟨.note, .none⟩) .service).fmn.row 3).latched = true
      ∧ ((at' (out 2 s) .service).fmn.row 3).masked = true ∧ (at' (out 2 s) .service).lau.ceiling = 7
      ∧ (at' (out 1 s) .service).fmn.out = some ⟨3, .cap, 2, ⟨5, 6⟩, .service⟩
      ∧ ((at' (out 1 s) .service).fmn.row 20).latched = true ∧ (at' (out 1 s) .service).lau.ceiling = 3
      ∧ ((at' { s with fmn.out := some ⟨3, .note, 1, ⟨1, 2⟩, .prove⟩ } .service).fmn.row 3).latched = true
      ∧ (at' s .prove).work.acts = [.reseek] ∧ (at' s .seek).work.acts = []
      ∧ (at' s .seek).fmn.out = some ⟨3, .note, 1, ⟨5, 6⟩, .seek⟩ ∧ ((at' s .seek).fmn.row 3).done = some .takenAsNote
      ∧ (at' (raising ⟨.note, .halt⟩) .recover).work.acts = [.halt]
      ∧ ({ s with fmn.table := defaultTable.set 11 ⟨.note, .bar⟩ }.raise ⟨20, 0, .service⟩).work.acts = [.bar 3] := by
  decide +kernel

/-- R166: a SENSOR_CHECK that fails in the event which moves PROVE to SERVICE raises TEST_FAIL with PROVE. -/
theorem test_raise_takes_the_phase_left :
    let s : State := { imaged .service with work.phase := some .prove }
    (s.raiseNow 8 0).fmn.out.map (·.phase) = some .prove ∧ s.finishWork.work.phase = none := by decide +kernel

theorem witness_fault_set :
    let s := imaged .service
    let b : Bytes := (List.replicate 24 0xFF).set 17 5
    s.ready ∧ faultSetOk b 0 = true
      ∧ gives (exec (.faultSet 1 b 0) s) (fun t => decide (t.fmn.capSet = 0 ∧ t.fmn.table[8]? = some ⟨.note, .halt⟩
        ∧ t.fmn.table[7]? = some ⟨.note, .note⟩)) = true
      ∧ faultSetOk (b.set 0 3) 0 = false
      ∧ isNext (exec (.faultSet 1 (b.set 0 3) 0) s) (s.answer 0x3B 1 .badValue []) = true :=
  ⟨ready_of (by decide +kernel), by decide +kernel⟩

theorem witness_fault_clear :
    let s : State := { imaged .load with fmn.rows := freshRows.set 20 { active := true, latched := true, masked := true } }
    s.ready
      ∧ gives (exec (.faultClear 1 0x100000) s) (fun t => decide (t.fmn.rows[20]? = some { active := true })
        && replied t 0x3A 1 .ok t.faultRowsBytes) = true
      ∧ isNext (exec (.faultClear 1 0) s) (s.answer 0x3A 1 .badValue s.faultRowsBytes) = true
      ∧ isNext (exec (.faultClear 1 0x200000) s) (s.answer 0x3A 1 .badValue s.faultRowsBytes) = true :=
  ⟨ready_of (by decide +kernel), by decide +kernel⟩

/-! ### Reset, restart -/

theorem witness_reset :
    isNext (exec (.reset true false) (imaged .service))
        { State.reset with pins.baudSel1 := true, mp.baud := (true, false) } = true
      ∧ gives (exec (.reset false false) { imaged .service with pins.hotN := false })
        (fun t => decide (t.tlm.hotHold = 2 ∧ t.lau.ceiling = 2 ∧ (t.fmn.row 5).active = true)) = true := by decide +kernel

theorem witness_restart :
    let s := imaged .halt
    let due : State := { s with mp.restartDue := true, mp.restart := some ⟨false, true⟩, mp.baud := (true, true) }
    s.ready
      ∧ isNext (exec (.siteRestart 1 3) s) { s with mp := { s.mp.answered 0x08 1 .ok [] true with restart := some ⟨true, true⟩ } }
        = true
      ∧ isNext (exec (.siteRestart 1 4) s) (s.answer 0x08 1 .badValue []) = true
      ∧ isNext (exec .restart due) { State.reset with mp.baud := (true, true), il.state := .empty } = true :=
  ⟨ready_of (by decide +kernel), by decide +kernel⟩

theorem witness_restart_keeps_time :
    let s : State := { imaged .halt with
      mp.restartDue := true, mp.restart := some ⟨true, false⟩
      dsu.time := ⟨9, 5⟩, dsu.loop := .track, dsu.ring := [10, 21], dsu.steps := 3, dsu.c := 4, dsu.u := 50 }
    s.mp.restartDue = true
      ∧ gives (exec .restart s) (fun t => decide (t.dsu.time = ⟨9, 5⟩ ∧ t.dsu.loop = .holdover ∧ t.dsu.c = 16
        ∧ t.dsu.i = -16 ∧ t.dsu.u = 50 ∧ t.dsu.steps = 3)) = true
      ∧ gives (exec .restart { s with dsu.ring := [] })
        (fun t => decide (t.dsu.loop = .free ∧ t.dsu.c = 4 ∧ t.dsu.u = Config.uSat)) = true := by decide +kernel

/-! ### The link -/

theorem witness_frame_off :
    let s := inPhase .load
    s.lineBusy ∧ isNext (exec (.txFrameBuild true) s) { s with pins.carriageHold := true } = true :=
  ⟨busy_of (by decide +kernel), by decide +kernel⟩

/-- A part that transmits in NORMAL at P0 by a map with one TEST block and one of tenant 2. -/
def sending : State :=
  { imaged .seek with
    lfr.tx.framer := .normal, lfr.tx.map := ⟨1, ⟨1, ⟨0, 0, 1, 0⟩⟩, some 0⟩, lfr.rx.framer := .up, lfr.rx.upDue := none
    lfr.rx.peer := some ⟨2, false, false, some 0⟩ }

theorem witness_frame_build :
    sending.calm ∧ sending.runsBounded
      ∧ gives (exec (.txFrameBuild false) sending) (fun t => match t.lfr.tx.out with
        | some f => decide (f.blocks.length = 62 ∧ (f.blocks.map (fun b => bits (field b.label 0 1) 0 4)).take 4 = [4, 2, 5, 5]
          ∧ t.lfr.tx.frameNo = 1 ∧ (field f.header 2 2, field f.header 10 1) = (0x1234, 1))
        | none => false) = true
      ∧ gives (exec (.txFrameBuild true) sending) (fun t => match t.lfr.tx.out with
        | some f => f.blocks.all (fun b => decide (b = idleBlock 32)) && decide (t.lfr.tx.hold = true)
        | none => false) = true :=
  ⟨calm_of (by decide +kernel), by unfold State.runsBounded; decide +kernel, by decide +kernel⟩

/-- R29, R30, R50: the framer's moves in a frame, and the scheduling check with the wish, the ceiling and one step up. -/
theorem witness_frame_moves :
    let s := fun (f : TxFramer) (peer : Nat) (w : Option TxSwitch) => ({ sending with
      lfr.tx.framer := f, lfr.tx.prof := 2, lfr.tx.fallback := true, lau.ceiling := 7, lfr.tx.pend := w
      lfr.rx.peer := some ⟨peer, false, false, some 6⟩ } : State)
    let tx := fun (s : State) (p : LfrTx → Bool) => gives (exec (.txFrameBuild false) s) (fun t => p t.lfr.tx)
    (s .normal 1 none).calm ∧ (s .normal 1 none).stu.queue = [] ∧ (s .normal 1 none).fallbackCond = true
      ∧ (s .normal 3 none).fallbackCond = false
      ∧ tx (s .normal 1 none) (fun x => decide (x.framer = .fallback ∧ x.prof = 0 ∧ x.map = {} ∧ x.pend = none)) = true
      ∧ tx (s .fallback 3 none) (fun x => decide (x.framer = .normal ∧ x.fallback = false ∧ x.prof = 2 ∧ x.pend = none)) = true
      ∧ tx (s .normal 3 none) (fun x => decide (x.prof = 2 ∧ x.pend = some ⟨3, 8, true⟩)) = true
      ∧ tx { s .normal 3 none with lau.ceiling := 2 } (fun x => decide (x.prof = 2 ∧ x.pend = none)) = true
      ∧ tx (s .normal 3 (some ⟨5, 8, false⟩)) (fun x => decide (x.prof = 2 ∧ x.pend = some ⟨5, 8, true⟩)) = true
      ∧ tx (s .normal 3 (some ⟨5, 2, true⟩)) (fun x => decide (x.prof = 2 ∧ x.pend = some ⟨5, 1, true⟩)) = true
      ∧ tx (s .normal 3 (some ⟨5, 1, true⟩)) (fun x => decide (x.prof = 5 ∧ x.pend = none)) = true :=
  ⟨calm_of (by decide +kernel), by decide +kernel⟩

theorem witness_profile_switch :
    let s : State := { sending with lfr.tx.pend := some ⟨3, 1, true⟩ }
    s.calm ∧ s.lfr.tx.framer = .normal ∧ s.fallbackCond = false ∧ gives (exec .profileSwitchFrame s)
      (fun t => decide (t.lfr.tx.prof = 3 ∧ t.lfr.tx.pend = none ∧ t.lfr.tx.map = s.lfr.tx.map)) = true :=
  ⟨calm_of (by decide +kernel), rfl, by decide +kernel, by decide +kernel⟩

theorem witness_map_switch :
    let s : State := { sending with lfr.tx.mpend := some ⟨2, ⟨4, ⟨0, 0, 0, 0⟩⟩, 0, 1, true, false⟩, sha.grant := some 4,
                                    stu.queue := [patternRun .starting] }
    s.calm ∧ s.lfr.tx.framer = .normal ∧ s.fallbackCond = false ∧ gives (exec .mapSwitchFrame s) (fun t => decide (t.lfr.tx.map = ⟨2, ⟨4, ⟨0, 0, 0, 0⟩⟩, some 0⟩
      ∧ t.stu.queue = [patternRun .running])) = true :=
  ⟨calm_of (by decide +kernel), rfl, by decide +kernel, by decide +kernel⟩

/-- A frame that another part sends with frame number 77, and 62 empty blocks. -/
def goodFrame : RxFrame :=
  { header := { sending with lfr.tx.frameNo := 77 }.header, serviceBad := false, service := serviceBytes none
    blocks := List.replicate 62 (block 4 32), margin := 350, level := -600, arrival := ⟨3, 999999999⟩ }

/-- The same with a byte of its header changed. -/
def badFrame : RxFrame := { goodFrame with header := goodFrame.header.set 9 0xFF }

theorem witness_header_lost :
    let hunt := linked .seek .hunt
    hunt.calm ∧ hunt.rxQuiet ∧ badFrame.wellFormed = true ∧ crcOk badFrame.header = false
      ∧ gives (exec (.rxFrameReceived badFrame) { hunt with lfr.rx.framer := .confirm })
        (fun t => decide (t.lfr.rx.framer = .hunt ∧ t.lfr.counts.bad = 1 ∧ t.lfr.counts.good = 0)) = true
      ∧ gives (exec .rxHeaderMissing { hunt with lfr.rx.framer := .confirm, lfr.rx.run := 15, lfr.rx.frameNo := 65535 })
        (fun t => decide (t.lfr.rx.framer = .hunt ∧ t.lfr.rx.run = 0 ∧ t.lfr.rx.frameNo = 0)) = true
      ∧ gives (exec .rxHeaderMissing { hunt with lfr.rx.framer := .up })
        (fun t => decide (t.lfr.rx.framer = .flywheel ∧ t.lfr.rx.run = 1)) = true
      ∧ gives (exec .rxHeaderMissing { hunt with lfr.rx.framer := .flywheel, lfr.rx.run := 6 })
        (fun t => decide (t.lfr.rx.framer = .flywheel ∧ t.lfr.rx.run = 7)) = true
      ∧ gives (exec .rxHeaderMissing { hunt with lfr.rx.framer := .flywheel, lfr.rx.run := 7 })
        (fun t => decide (t.lfr.rx.framer = .down)) = true :=
  ⟨calm_of (by decide +kernel), by unfold State.rxQuiet; decide +kernel, by decide +kernel⟩

/-- R23, R28, R141: a bad header in UP, by its CRC and by its link id, and the records at countdown 1, 2 and none. -/
theorem witness_records_counted_down :
    let at_ := fun (n : Nat) => ({ linked .seek .up with
      lfr.rx.upDue := none, lfr.rx.pend := some ⟨3, n⟩, lfr.rx.mpend := some ⟨9, ⟨0, ⟨5, 0, 0, 0⟩⟩, n⟩ } : State)
    let x := fun (i : Instr) (n : Nat) (p : LfrRx → Bool) => gives (exec i (at_ n)) (fun t => p t.lfr.rx)
    let other : RxFrame := { goodFrame with header := { sending with
      il.link := sending.il.link.map (fun (l : LinkSet) => ({ l with linkId := 0x4321 } : LinkSet)) }.header }
    (at_ 1).calm ∧ (at_ 1).rxQuiet ∧ badFrame.wellFormed = true ∧ crcOk badFrame.header = false
      ∧ crcOk other.header = true ∧ (parseHeader other.header).linkId = 0x4321
      ∧ (at_ 1).fmn.table[4]? = some ⟨.note, .note⟩
      ∧ (badFrame :: other :: []).all (fun f =>
        x (.rxFrameReceived f) 1 (fun r => decide (r.framer = .flywheel ∧ r.run = 1 ∧ r.prof = 3 ∧ r.pend = none
          ∧ r.map = ⟨9, ⟨0, ⟨5, 0, 0, 0⟩⟩⟩ ∧ r.mpend = none))) = true
      ∧ x .rxHeaderMissing 2 (fun r => decide (r.prof = 0 ∧ r.pend = some ⟨3, 1⟩
        ∧ r.mpend = some ⟨9, ⟨0, ⟨5, 0, 0, 0⟩⟩, 1⟩)) = true
      ∧ gives (exec .rxHeaderMissing { at_ 1 with lfr.rx.pend := none, lfr.rx.mpend := none })
        (fun t => decide (t.lfr.rx.prof = 0 ∧ t.lfr.rx.map = (at_ 1).lfr.rx.map)) = true :=
  ⟨calm_of (by decide +kernel), by unfold State.rxQuiet; decide +kernel, by decide +kernel⟩

theorem witness_header_good :
    let s : State := { imaged .seek with lfr.rx.framer := .confirm, lfr.rx.run := 14 }
    s.calm ∧ s.rxQuiet ∧ goodFrame.wellFormed = true ∧ s.classify goodFrame = .good (parseHeader goodFrame.header)
      ∧ (parseHeader goodFrame.header).fieldsOk = true
      ∧ gives (exec (.rxFrameReceived goodFrame) s) (fun t => decide (t.lfr.rx.framer = .confirm ∧ t.lfr.rx.run = 15
        ∧ t.lfr.rx.frameNo = 77 ∧ t.lfr.rx.map = ⟨1, ⟨1, ⟨0, 0, 1, 0⟩⟩⟩ ∧ t.lfr.rx.peer.map (·.state) = some 2)) = true
      ∧ gives (exec (.rxFrameReceived goodFrame) { s with lfr.rx.framer := .hunt, lfr.rx.run := 0 })
        (fun t => decide (t.lfr.rx.framer = .confirm ∧ t.lfr.rx.run = 1)) = true :=
  ⟨calm_of (by decide +kernel), by unfold State.rxQuiet; decide +kernel, by decide +kernel⟩

/-- The same, sent under carriage hold. -/
def heldFrame : RxFrame := { goodFrame with header := { sending with lfr.tx.frameNo := 77, lfr.tx.hold := true }.header }

/-- The sixteenth good header and one in FLYWHEEL enter UP and its blocks are read; none are under the peer's hold. -/
theorem witness_header_up :
    let s : State := { imaged .seek with lfr.rx.framer := .confirm, lfr.rx.run := 15, tpt := ⟨{}, {}, heldTenant true, {}⟩ }
    let fly : State := { s with lfr.rx.framer := .flywheel, lfr.rx.run := 7 }
    let up : State := { s with lfr.rx.framer := .up, lfr.rx.run := 0 }
    let after := fun (f : RxFrame) (s : State) (p : Lfr → Bool) => gives (exec (.rxFrameReceived f) s) (fun t => p t.lfr)
    s.calm ∧ s.rxQuiet ∧ goodFrame.wellFormed = true ∧ s.classify goodFrame = .good (parseHeader goodFrame.header)
      ∧ (parseHeader goodFrame.header).hold = false ∧ s.fmn.table[4]? = some ⟨.note, .note⟩
      ∧ after goodFrame s (fun l => decide (l.rx.framer = .up ∧ l.rx.upDue = some true ∧ l.rx.run = 0
        ∧ l.counts.blocksRead = 62 ∧ l.counts.good = 1 ∧ l.rx.prof = 0 ∧ l.rx.map.counts.test = 1)) = true
      ∧ after goodFrame fly (fun l => decide (l.rx.framer = .up ∧ l.rx.upDue = some false ∧ l.rx.run = 0)) = true
      ∧ after goodFrame up (fun l => decide (l.rx.framer = .up ∧ l.rx.upDue = none ∧ l.counts.blocksRead = 62)) = true
      ∧ heldFrame.wellFormed = true ∧ (parseHeader heldFrame.header).hold = true
      ∧ gives (exec (.rxFrameReceived heldFrame) up) (fun t => decide (t.lfr.rx.framer = .up
        ∧ t.lfr.counts.blocksRead = 0 ∧ t.lfr.counts.mismatch = 0 ∧ t.tpt = up.tpt)) = true :=
  ⟨calm_of (by decide +kernel), by unfold State.rxQuiet; decide +kernel, by decide +kernel⟩

/-- Service blocks in CONFIRM: each kind at the lengths where it is taken and discarded, and the relay buffer full. -/
theorem witness_service_block :
    let s : State := { imaged .seek with lfr.rx.framer := .hunt, dsu.time := ⟨0, 8⟩ }
    let run : Run := { patternRun .running with entry := patternEntry }
    let after := fun (s : State) (bad : Bool) (b : Bytes) (p : State → Bool) =>
      let b := padTo 46 b
      gives (exec (.rxFrameReceived { goodFrame with serviceBad := bad, service := b ++ crcBytes b }) s) p
    let discards := fun t : State => decide (t.lfr.counts.discardedService = 1 ∧ t.lfr.rx.relay = [] ∧ t.stu = s.stu)
    (after s false [0, 0] (fun t => decide (t.lfr.counts.discardedService = 0 ∧ t.stu = s.stu))
      && after s false [0, 1] discards && after s true [0, 0] discards && after s false [1, 17] discards
      && after s false [2, 8] discards && after s false [3, 0] discards && after s false [3, 33] discards
      && after s false [4, 0] discards
      && after s false ([1, 18, 9] ++ List.replicate 16 0x5A ++ [4]) (fun t => decide (t.stu.chk =
        { armed := true, id := 9, mask := List.replicate 16 0x5A, blocks := 4, starts := 1 }))
      && after s false [2, 7, 7, 5, 0, 1] (fun t => decide (t.stu.stale = 1))
      && after { s with stu.queue := [run] } false [2, 7, 7, 5, 0, 1] (fun t => decide (t.stu.stale = 0
        ∧ t.stu.queue = [{ run with fig.checked := 5, fig.bad := 1, fig.reports := 1 }]))
      && after s false [3, 1, 6] (fun t => decide (t.lfr.rx.relay = [⟨[6], ⟨0, 8⟩⟩]))
      && after { s with lfr.rx.relay := List.replicate 3 ⟨[1], ⟨0, 0⟩⟩ } false ([3, 32] ++ List.replicate 32 6)
        (fun t => decide (t.lfr.rx.relay.length = 4 ∧ t.lfr.rx.relayLost = 0))
      && after { s with lfr.rx.relay := List.replicate 4 ⟨[1], ⟨0, 0⟩⟩, lfr.rx.relayLost := 255 } false [3, 1, 6]
        (fun t => decide (t.lfr.rx.relay.length = 4 ∧ t.lfr.rx.relayLost = 255))) = true := by decide +kernel

/-- Blocks at position 2, which tenant 2 owns by this map, position 3, which TEST owns by the other, and IDLE. -/
theorem witness_block :
    let a : Tenant := { heldTenant true with reasm := .inStream [66, 0] }
    let s : State := { withTenant2 (imaged .seek) a with lfr.rx.map := ⟨1, ⟨0, ⟨0, 0, 62, 0⟩⟩⟩, stu.chk.armed := true }
    let test : State := { s with lfr.rx.map := ⟨1, ⟨62, ⟨0, 0, 0, 0⟩⟩⟩ }
    let b := fun (owner fill offset : Byte) => (⟨false, [owner, fill, 0, offset], List.replicate 32 7⟩ : RxBlock)
    let take := fun (s : State) (b : RxBlock) => s.takeBlock 32 3 b
    s.fmn.rows.length = 21 ∧ s.lfr.rx.map.counts.owner 3 = .tenant 2 ∧ test.lfr.rx.map.counts.owner 3 = .test
      ∧ (take s { b 2 32 0 with uncorrectable := true }).lfr.counts.uncorrectable = 1
      ∧ (take s { b 2 32 0 with uncorrectable := true }).tpt.t2.reasm = .waitStart
      ∧ (take s (b 5 0 0)).lfr.counts.mismatch = 1 ∧ (take s (b 5 0 0)).tpt.t2.reasm = .waitStart
      ∧ ((take { s with lfr.rx.secMismatch := 15 } (b 5 0 0)).fmn.row 4).active = true
      ∧ ((take { s with lfr.rx.secMismatch := 14 } (b 5 0 0)).fmn.row 4).active = false
      ∧ (take s (b 2 33 0)).lfr.counts.malformedLabel = 1 ∧ (take s (b 0x12 32 32)).lfr.counts.malformedLabel = 1
      ∧ (take s (b 0x12 32 31)).lfr.counts.malformedLabel = 0
      ∧ (take s (b 2 32 0)).tpt.t2.reasm = .inStream ([66, 0] ++ List.replicate 32 7)
      ∧ (take test (b 4 32 0)).stu.chk = test.stu.chk.take 32 0 3 (some (32, List.replicate 32 7))
      ∧ take { s with lfr.rx.map := {} } (b 5 32 0) = { s with lfr.rx.map := {}, lfr.counts.blocksRead := 1 } := by
  decide +kernel

/-- R139: the first frame built in HALTED queues the MAP notice and discards, and the second does neither. -/
theorem test_halted_discards_once :
    let s : State := { sending with lfr.tx.framer := .halted, lfr.tx.haltDue := true }
    let maps := fun t : State => (t.mp.notices.filter (fun n => decide (n.kind = .map))).length
    gives (exec (.txFrameBuild false) s) (fun t => decide (maps t = 1 ∧ t.lfr.tx.map = {} ∧ t.lfr.tx.haltDue = false)) = true
      ∧ gives (exec (.txFrameBuild false) { s with lfr.tx.haltDue := false }) (fun t => decide (maps t = 0)) = true := by
  decide +kernel

/-- A frame in SERVICE whose carriage hold ends a LINK_PATTERN run, so that a SENSOR_CHECK starts and fails with this
response. -/
def responding (r : Response) : State :=
  { sending with
    spc.phase := .service, lfr.tx.prof := 3, fmn.table := defaultTable.set (rowClass 8) ⟨r, r⟩, sha.grant := some 4
    stu.plan := [patternEntry, { patternEntry with kind := .sensorCheck }]
    stu.queue := [patternRun .running, { patternRun .queued with idx := 1, entry.kind := .sensorCheck }] }

/-- R8, R21, R29: the frame in whose building a HALT or a RESEEK comes is at P0 and all IDLE, with its flag set. -/
theorem test_response_reaches_its_frame :
    let sent := fun (flag : Nat) (t : State) => match t.lfr.tx.out with
      | some f => decide (f.profile = 0 ∧ f.blocks.all (fun b => decide (b = idleBlock 32)) = true
          ∧ (field f.header 4 1 / flag) % 2 = 1 ∧ field f.header 8 1 = 0)
      | none => false
    gives (exec (.txFrameBuild true) (responding .halt)) (fun t => sent 16 t && decide (t.spc.phase = .halt
        ∧ t.lfr.tx.framer = .halted ∧ t.lfr.tx.haltDue = false ∧ t.lfr.tx.map = {})) = true
      ∧ gives (exec (.txFrameBuild true) (responding .reseek)) (fun t => sent 8 t && decide (t.spc.phase = .seek
        ∧ t.lfr.tx.framer = .fallback ∧ t.lfr.tx.map = {})) = true := by
  decide +kernel

/-- R166: the DOWN of a RESEEK finds the phase already SEEK. -/
theorem test_reseek_raises_with_seek :
    let s : State := { linked .service .up with rfm.l.mode := .up, rfm.sel := some .l }
    gives (exec (.siteReseek 1) s) (fun t => decide (t.fmn.out.map (·.phase) = some .seek)) = true := by
  decide +kernel

theorem witness_entry_to_up :
    let s : State := { linked .recover .up with lfr.rx.upDue := some true, spc.recover := some 4 }
    let seek : State := { linked .seek .up with lfr.rx.upDue := some true }
    s.calm ∧ s.stu.queue = [] ∧ s.fmn.rows.length = 21
      ∧ gives (exec .rxFramerUp s) (fun t => decide (t.spc.phase = .service ∧ t.spc.cause = .linkUp ∧ t.spc.recover = none)) = true
      ∧ seek.calm ∧ seek.stu.entriesOf .bringup = []
      ∧ gives (exec .rxFramerUp seek) (fun t => decide (t.spc.phase = .service ∧ t.spc.cause = .proveEmpty
        ∧ t.spc.left = .prove)) = true :=
  ⟨calm_of (by decide +kernel), rfl, rfl, by decide +kernel, calm_of (by decide +kernel), by decide +kernel⟩

/-- R4, R16: an entry to UP in SEEK with a BRINGUP entry brings PROVE and round 1; one in SERVICE moves nothing. -/
theorem witness_round_begins :
    let s : State := { linked .seek .up with
      lfr.rx.upDue := some true, stu.plan := [{ patternEntry with schedule := .periodic }, patternEntry] }
    let service : State := { linked .service .up with lfr.rx.upDue := some false }
    s.calm ∧ s.runsStay ∧ s.stu.entriesOf .bringup = [1]
      ∧ gives (exec .rxFramerUp s) (fun t => decide (t.spc.phase = .prove ∧ t.spc.cause = .linkUp ∧ t.spc.prove = .round
        ∧ t.spc.roundNo = 1 ∧ t.stu.queue.map (fun r => (r.idx, r.round)) = [(1, true)])) = true
      ∧ gives (exec .rxFramerUp service) (fun t => decide (t.spc = service.spc ∧ t.lfr.rx.upDue = none)) = true :=
  ⟨calm_of (by decide +kernel), by unfold State.runsStay; decide +kernel, by decide +kernel⟩

theorem witness_down :
    let s : State := { linked .service .down with lfr.rx.prof := 3, lau.wish := 4, lfr.counts.down := 8 }
    s.calm ∧ s.fmn.rows.length = 21 ∧ (s.fmn.row 1).active = false
      ∧ gives (exec .rxFramerDown s) (fun t => decide (t.lfr.rx.framer = .hunt ∧ t.lfr.rx.prof = 0 ∧ t.lau.wish = 0
        ∧ t.spc.phase = .recover ∧ (t.fmn.row 1).active = true ∧ (t.fmn.row 1).detail = 9)) = true :=
  ⟨calm_of (by decide +kernel), by decide +kernel⟩

theorem witness_margin_window :
    let s := fun sum streak : Nat => ({ linked .seek .up with
      lfr.rx.prof := 3, lau.winOn := true, lau.winSlots := 32, lau.winSum := sum, lau.upStreak := streak, lau.wish := 3 } : State)
    (s 0 0).lineBusy ∧ (s 0 0).lau.windowDone = true ∧ (s 0 0).lau.fix = none
      ∧ gives (exec .marginWindowEnd (s 4799 0)) (fun t => decide (t.lau.wish = 2)) = true
      ∧ gives (exec .marginWindowEnd (s 0 0)) (fun t => decide (t.lau.wish = 0)) = true
      ∧ gives (exec .marginWindowEnd (s 6400 7)) (fun t => decide (t.lau.wish = 4 ∧ t.lau.upStreak = 0)) = true
      ∧ gives (exec .marginWindowEnd (s 6400 6)) (fun t => decide (t.lau.wish = 3 ∧ t.lau.upStreak = 7)) = true
      ∧ gives (exec .marginWindowEnd (s 6399 6)) (fun t => decide (t.lau.wish = 3 ∧ t.lau.upStreak = 0)) = true :=
  ⟨busy_of (by decide +kernel), by decide +kernel⟩

/-- R47, R48: the floor streak at P0, and a window under a fix. -/
theorem witness_floor_streak :
    let s := fun (sum floor : Nat) (fix : Option Nat) => ({ linked .seek .up with
      lau.winOn := true, lau.winSlots := 32, lau.winSum := sum, lau.floorStreak := floor, lau.upStreak := 7, lau.fix := fix
      lau.wish := 5 } : State)
    let after := fun (s : State) (p : Lau → Bool) => gives (exec .marginWindowEnd s) (fun t => p t.lau)
    let floor := 32 * (s 0 0 none).lau.downOf 0
    (s 0 31 none).lineBusy ∧ (s 0 31 none).fmn.answersNever .reseek ∧ (s 0 31 none).lau.windowDone = true
      ∧ (s 0 31 none).fmn.rows.length = 21 ∧ 0 < floor
      ∧ gives (exec .marginWindowEnd (s (floor - 1) 31 none)) (fun t => decide (t.lau.floorStreak = 32 ∧ t.lau.wish = 0
        ∧ (t.fmn.row 3).active = true)) = true
      ∧ after (s 0 30 none) (fun a => decide (a.floorStreak = 31)) = true
      ∧ after (s 0 255 none) (fun a => decide (a.floorStreak = 255)) = true
      ∧ after (s floor 40 none) (fun a => decide (a.floorStreak = 0)) = true
      ∧ after (s 12800 0 (some 5)) (fun a => decide (a.wish = 5 ∧ a.upStreak = 0)) = true
      ∧ after (s 12800 0 none) (fun a => decide (a.wish = 1 ∧ a.upStreak = 0)) = true :=
  ⟨busy_of (by decide +kernel), by unfold Fmn.answersNever; decide +kernel, by decide +kernel⟩

theorem witness_align_window :
    let s := fun (r : AlignRecord) => ({ imaged .align with spc.record := r, spc.winSlots := 64, spc.winSum := -30001 } : State)
    let peak : Int → AlignRecord := fun p => { avg := some p, peak := some p, peakTime := some ⟨1, 1⟩, settle := 65535 }
    (s {}).lineBusy ∧ (s {}).spc.windowDone = true
      ∧ gives (exec .alignWindowEnd (s {})) (fun t => decide (t.spc.record.avg = some (-469)
        ∧ t.spc.record.peak = some (-469) ∧ t.spc.led = true)) = true
      ∧ gives (exec .alignWindowEnd (s (peak (-470)))) (fun t => decide (t.spc.record.peak = some (-469)
        ∧ t.spc.record.settle = 0)) = true
      ∧ gives (exec .alignWindowEnd (s (peak (-459)))) (fun t => decide (t.spc.record.peak = some (-459)
        ∧ t.spc.record.settle = 65535 ∧ t.spc.record.settled = true)) = true
      ∧ gives (exec .alignWindowEnd (s (peak (-458)))) (fun t => decide (t.spc.record.settle = 0 ∧ t.spc.led = false)) = true :=
  ⟨busy_of (by decide +kernel), by decide +kernel⟩

/-- R13: the settled window with auto-exit on, at 1249 and at 1250 windows, with the framer low and UP. -/
theorem witness_align_settled :
    let s := fun (f : RxFramer) (settle : Nat) => ({ imaged .align with
      il.link := (imaged .align).il.link.map (fun l => { l with autoExit := true }), lfr.rx.framer := f
      spc.record := ⟨some (-460), some (-460), some ⟨1, 1⟩, settle, false⟩, spc.winSlots := 64, spc.winSum := -30001 } : State)
    let plan := fun s : State => ({ s with stu.plan := [patternEntry] } : State)
    (s .up 1249).lineBusy ∧ (s .up 1249).spc.windowDone = true ∧ (plan (s .up 1249)).runsStay
      ∧ (s .up 1249).stu.entriesOf .bringup = [] ∧ (plan (s .up 1249)).stu.entriesOf .bringup = [0]
      ∧ gives (exec .alignWindowEnd (s .hunt 1248)) (fun t => decide (t.spc.phase = .align ∧ t.spc.record.settled = false)) = true
      ∧ gives (exec .alignWindowEnd (s .flywheel 1249)) (fun t => decide (t.spc.phase = .seek ∧ t.spc.cause = .alignSettled
        ∧ t.spc.led = false ∧ t.spc.record.settle = 1250)) = true
      ∧ gives (exec .alignWindowEnd (s .up 1249)) (fun t => decide (t.spc.phase = .service ∧ t.spc.cause = .proveEmpty)) = true
      ∧ gives (exec .alignWindowEnd (plan (s .up 1249))) (fun t => decide (t.spc.phase = .prove ∧ t.spc.cause = .alignSettled
        ∧ t.spc.roundNo = 1 ∧ t.stu.queue.map (·.round) = [true])) = true :=
  ⟨busy_of (by decide +kernel), by decide +kernel, by unfold State.runsStay; decide +kernel, by decide +kernel⟩

/-! ### Self-test and shares -/

theorem witness_checker_window :
    let s := fun (checked empty : Nat) (seen : Bool) => ({ imaged .service with stu.chk := {
      armed := true, id := 7, slots := 800, checked := checked, bad := 1, window := 2, seen := seen, empty := empty } } : State)
    (s 0 0 false).lineBusy ∧ (s 1 0 false).stu.chk.windowDone = true
      ∧ gives (exec .checkerWindowEnd (s 1 0 false)) (fun t => decide (t.lfr.tx.svc = [SvcMsg.testReport 7 1 1 2]
        ∧ t.stu.chk.seen = true ∧ t.stu.chk.window = 3)) = true
      ∧ gives (exec .checkerWindowEnd (s 0 2 false)) (fun t => decide (t.stu.chk.armed = true ∧ t.stu.chk.empty = 3)) = true
      ∧ gives (exec .checkerWindowEnd (s 0 3 false)) (fun t => decide (t.stu.chk.armed = false)) = true
      ∧ gives (exec .checkerWindowEnd (s 0 0 true)) (fun t => decide (t.stu.chk.armed = false)) = true :=
  ⟨busy_of (by decide +kernel), by decide +kernel⟩

/-- A report counts as sent when the frame that carries it is built, and a note does not. -/
theorem witness_report_sent :
    let s := fun m : SvcMsg => ({ sending with lfr.tx.svc := [m, .note [1]] } : State)
    (s (.note [2])).calm ∧ gives (exec (.txFrameBuild true) (s (.testReport 7 1 2 3))) (fun t => decide (t.stu.chk.sent = 1)) = true
      ∧ gives (exec (.txFrameBuild false) (s (.note [2]))) (fun t => decide (t.stu.chk.sent = 0)) = true :=
  ⟨calm_of (by decide +kernel), by decide +kernel⟩

theorem witness_pattern_end :
    let r : Run := { patternRun .running with fig.frames := 800 }
    let s : State := { imaged .service with stu.queue := [r], sha.grant := some 4, sha.tReq := 4 }
    s.calm ∧ gives (exec .patternDurationEnd s) (fun t =>
      decide (t.stu.queue = [{ r with state := .draining, drainLeft := some 1600 }] ∧ t.sha.grant = none)) = true :=
  ⟨calm_of (by decide +kernel), by decide +kernel⟩

/-- R126: a revocation at the period's end, its release due with it or not, and the release that follows. -/
theorem witness_revoked_with_release :
    let tenant : Tenant := { heldTenant true with
      state := .active, permit := true, entry := some ⟨.fixed, 29, 0, 0, none, .none, 0, 0, none⟩ }
    let s := fun (frames : Nat) => ({ sending with
      spc.phase := .service, lfr.tx.periodDue := true, sha.grant := some 8, sha.tReq := 8
      lfr.rx.peer := some ⟨3, false, false, some 0⟩
      stu.queue := [{ patternRun .running with fig.frames := frames }], tpt := ⟨tenant, tenant, {}, {}⟩ } : State)
    let late : State := { s 0 with stu.lateRelease := true, stu.queue := [], sha.grant := none, sha.tReq := 0 }
    (s 800).calm ∧ (share (s 800).periodEnd.shareIn).revoked = true ∧ (s 800).fallbackCond = false
      ∧ gives (exec .allocationPeriodEnd (s 800)) (fun t => decide (t.stu.queue = [] ∧ t.sha.grant = none
        ∧ t.sha.newest.counts = ⟨0, ⟨29, 29, 0, 0⟩⟩ ∧ t.stu.lateRelease = true
        ∧ t.stu.log.map (fun x => (x.outcome, x.cause)) = [(.aborted, .revoked)])) = true
      ∧ gives (exec .allocationPeriodEnd (s 799)) (fun t => decide (t.stu.queue = [] ∧ t.stu.lateRelease = false)) = true
      ∧ late.stu.durationDone = false
      ∧ gives (exec .patternDurationEnd late) (fun t => decide (t.stu.lateRelease = false
        ∧ t.sha.record.map (·.trigger) = some .test ∧ t.sha.newest.kind = some .event)) = true :=
  ⟨calm_of (by decide +kernel), by decide +kernel⟩

theorem witness_period_end :
    let s : State := { withTenant2 (imaged .service) { accSince := 100, queue := [[1, 2, 3]] } with lfr.tx.periodDue := true }
    s.calm ∧ s.sha.grant = none ∧ gives (exec .allocationPeriodEnd s) (fun t => decide (t.tpt.t2.snapA = 100
      ∧ t.tpt.t2.snapQ = 5 ∧ t.tpt.t2.accSince = 0 ∧ t.sha.record.isSome = true)) = true :=
  ⟨calm_of (by decide +kernel), by decide +kernel⟩

/-- R135 to R137: each fate, the next version after 255, and the countdown of a map announced beside a pending switch. -/
theorem witness_map_fates :
    let c : MapCounts := ⟨0, ⟨5, 0, 0, 0⟩⟩
    let s : State := { sending with lfr.tx.lastVer := 255 }
    let held : State := { s with lfr.tx.mpend := some ⟨9, ⟨0, ⟨4, 0, 0, 0⟩⟩, 0, 7, true, false⟩ }
    let beside := fun w : TxSwitch => ({ held with lfr.tx.pend := some w } : State)
    let fate := fun (s : State) (k : TriggerKind) => (s.handNewest c 0 k).lfr.fate
    let pend := fun (s : State) (k : TriggerKind) => (s.handNewest c 0 k).lfr.tx.mpend
    s.lfr.tx.framer = .normal
      ∧ fate { s with lfr.tx.framer := .fallback } .event = some .setAside
      ∧ fate { s with lfr.tx.map := ⟨3, c, some 0⟩ } .event = some .equal
      ∧ fate { s with lfr.tx.map := ⟨3, c, some 1⟩ } .event = some .announced
      ∧ (s.handNewest {} 4 .event).lfr.fate = some .announced
      ∧ ({ s with lfr.tx.map := {} }.handNewest {} 4 .event).lfr.fate = some .equal
      ∧ fate held .periodic = some .withheld ∧ pend held .periodic = held.lfr.tx.mpend
      ∧ pend s .periodic = some ⟨1, c, 0, 16, false, false⟩ ∧ pend held .event = some ⟨1, c, 0, 16, false, false⟩
      ∧ pend (beside ⟨3, 8, false⟩) .event = some ⟨1, c, 0, 8, false, true⟩
      ∧ pend (beside ⟨3, 3, true⟩) .event = some ⟨1, c, 0, 2, false, true⟩
      ∧ pend (beside ⟨3, 2, true⟩) .event = some ⟨1, c, 0, 16, false, false⟩ := by decide +kernel

/-- The claims just fit: 25 and 10 blocks of 35. -/
theorem witness_guarantees :
    let x : ShareIn := ⟨⟨fixedTenant 27, sharedTenant 2400 3 none 30 96, sharedTenant 960 1 none 12 96, {}⟩, 2, 8, none, true⟩
    (share x).s ≤ (share x).r ∧ (share x).s = 35 ∧ (share x).spare = 0 ∧ (share x).counts = ⟨0, ⟨27, 25, 10, 0⟩⟩
      ∧ ((x.tenants.get 1).shared).isSome = true := by decide +kernel

theorem witness_shares_fit :
    let t := sharedTenant 15625 1 none 62 32
    let x : ShareIn := ⟨⟨fixedTenant 54, t, t, t⟩, 0, 0, none, true⟩
    (Four.of (fun i => (x.tenants.get i).owed)).total ≤ 62 ∧ (share x).counts.used = 62 := by decide +kernel

/-- Two packets of 64 bytes and one of 66 in blocks of 32 bytes. -/
theorem witness_packets_cross :
    let a : Tenant := { heldTenant true with queue := [List.replicate 64 1, List.replicate 64 2, List.replicate 66 3] }
    let b := heldTenant true
    (a.queue.all (fun p => decide (64 ≤ p.length ∧ p.length ≤ 2000)) ∧ a.sendOff = 0 ∧ b.entry.isSome = true
        ∧ b.egress = [] ∧ b.reasm = .waitStart ∧ (a.queue.map (fun p => p.length + 2)).sum = 200)
      ∧ (crossBlocks 32 7 a b).1.queue = [] ∧ (crossBlocks 32 7 a b).2.egress = a.queue := by decide +kernel

/-! ### Site time and the references -/

theorem witness_crossing :
    let s := imaged .seek
    let due : State := { s with dsu.time := ⟨1, 0⟩, dsu.pendStep := some 1500 }
    s.calm ∧ s.dsu.pendStep = none
      ∧ gives (exec (.siteSecondCrossing false) { s with fmn.secRaises := 3 }) (fun t => decide (t.dsu.pps = some 800
        ∧ t.dsu.nextCross = 2 ∧ t.fmn.lastRaises = 3)) = true
      ∧ due.dsu.time = ⟨due.dsu.nextCross, 0⟩
      ∧ gives (exec (.siteSecondCrossing true) due) (fun t => decide (t.dsu.time = ⟨0, 999998500⟩ ∧ t.dsu.pps = none
        ∧ t.dsu.steps = 1 ∧ t.dsu.nextCross = 2)) = true :=
  ⟨calm_of (by decide +kernel), by decide +kernel⟩

/-- R146: the crossing whose REF_CROSS run passes the round is not one in SERVICE, and the next one is. -/
theorem test_due_counters_keep_at_entry :
    let e : PlanEntry := { patternEntry with kind := .refCross, limit := 100, duration := 10 }
    let r : Run := { patternRun .running with entry := e, round := true, fig.seconds := 9, fig.compared := 1 }
    let s : State := { imaged .prove with
      spc.prove := .round, rfm.g.mode := .up, rfm.l.mode := .up
      stu.plan := [e, { e with schedule := .periodic, period := 60 }], stu.due := [0, 7], stu.queue := [r] }
    gives (exec (.siteSecondCrossing false) s) (fun t => decide (t.spc.phase = .service
        ∧ t.stu.due = [0, 7])) = true
      ∧ gives (exec (.siteSecondCrossing false) { s with spc.phase := .service })
        (fun t => decide (t.stu.due = [0, 8])) = true := by
  decide +kernel

theorem witness_pulses :
    let w : PulseWindow := { covered := true, cable := 0, ppsTol := 1000 }
    let s : State := { imaged .seek with rfm.win := some w, dsu.pps := some 1 }
    s.lineBusy ∧ isNext (exec .ppsPulseEnd s) { s with dsu.pps := none } = true
      ∧ isNext (exec .attnPulseEnd { s with mp.pulse := some 0, mp.attn := true }) s = true
      ∧ s.pastClose 499999999 = false
      ∧ isNext (exec (.gnssPpsPulse 499999999 9) s)
        { s with rfm.win := some { w with pulses := 1, ns := 499999999, osc := 9 } } = true
      ∧ isNext (exec (.gnssOkChange true) { s with pins.gnssOk := false }) s = true :=
  ⟨busy_of (by decide +kernel), by decide +kernel⟩

theorem witness_gnss_loss :
    let w : PulseWindow := { covered := true, cable := 0, ppsTol := 1000 }
    let s : State := { imaged .seek with rfm.g := { mode := .up, streak := 1 }, rfm.sel := some .g, rfm.win := some w }
    let closed : State := { s with rfm.winClosed := true, rfm.nextWin := some w }
    let down : State := { imaged .seek with rfm.win := some w }
    s.calm ∧ s.stu.queue = [] ∧ down.pastClose down.dsu.time.ns = false
      ∧ gives (exec (.gnssOkChange false) s) (fun t => decide (t.rfm.g = { mode := .down } ∧ t.rfm.sel = none
        ∧ t.rfm.win = some { w with covered := false })) = true
      ∧ gives (exec (.gnssOkChange false) { s with rfm.g := { mode := .probation, k := 9 } })
        (fun t => decide (t.rfm.g = { mode := .down } ∧ t.rfm.win.map (·.covered) = some false)) = true
      ∧ gives (exec (.gnssOkChange false) closed) (fun t => decide (t.rfm.win = some w
        ∧ t.rfm.nextWin = some { w with covered := false })) = true
      ∧ gives (exec (.gnssOkChange false) down)
        (fun t => decide (t.rfm.g = down.rfm.g ∧ t.rfm.win.map (·.covered) = some false)) = true :=
  ⟨calm_of (by decide +kernel), by decide +kernel⟩

/-- R65 at the ends of the interval and of the second. -/
theorem witness_window_judged :
    let w : PulseWindow := { pulses := 1, osc := 3000001000, ns := 5, covered := true, cable := 1, ppsTol := 1000 }
    let judged := fun (w : PulseWindow) (v : Verdict) (r : Option BadReason) (e : Option Int) =>
      gives (exec (.siteSecondCrossing false) { imaged .seek with rfm.win := some w, rfm.prevPulse := some 2000000000 })
        (fun t => decide (t.rfm.lastG = some ⟨v, r, w.pulses, e⟩))
    (imaged .seek).calm ∧ judged w .good none (some 4) = true
      ∧ judged { w with osc := 3000001001 } .bad (some .interval) none = true
      ∧ judged { w with osc := 2999999000 } .good none (some 4) = true
      ∧ judged { w with osc := 2999998999 } .bad (some .interval) none = true
      ∧ judged { w with ns := 500000001 } .good none (some (-500000000)) = true
      ∧ judged { w with ns := 500000000 } .good none (some 499999999) = true
      ∧ judged { w with ns := 0, cable := 500000001 } .good none (some 499999999) = true
      ∧ judged { w with covered := false } .bad (some .qualifier) none = true
      ∧ judged { w with pulses := 2 } .bad (some .extraPulse) none = true
      ∧ judged { w with pulses := 0 } .bad (some .noPulse) none = true
      ∧ judged { w with stepped := true } .neutral none none = true :=
  ⟨calm_of (by decide +kernel), by decide +kernel⟩

/-- R69 at 999 and 1,000 marks. -/
theorem witness_second_judged :
    let x : LSecond := { judged := true, framerOk := true, headers := 8000, accepted := 1000, refDelay := 2 }
    let judged := fun (x : LSecond) (v : Verdict) (r : Option BadReason) =>
      gives (exec (.siteSecondCrossing true) { imaged .seek with rfm.sec := x })
        (fun t => decide (t.rfm.lastL.map (fun j => (j.verdict, j.reason, j.refDelay)) = some (v, r, 2)
          ∧ t.rfm.sec.accepted = 0))
    (imaged .seek).calm ∧ (imaged .seek).rfm.l.mode ≠ .disabled ∧ judged x .good none = true
      ∧ judged { x with accepted := 999 } .bad (some .fewMarks) = true
      ∧ judged { x with allTrack := false } .bad (some .peerQuality) = true
      ∧ judged { x with headers := 0 } .bad (some .peerQuality) = true
      ∧ judged { x with framerOk := false } .bad (some .framer) = true :=
  ⟨calm_of (by decide +kernel), by decide +kernel⟩

/-- The mark of chapter 4.3 counts in the second of its arrival: at the boundary in the coming one, before the start in
none; it is refused for its delay, and for a step it spans. -/
theorem witness_mark_second :
    let h : Header := { parseHeader (List.replicate 48 0) with
      loop := 2, echo := true, echoTime := ⟨50, 200000000⟩, held := 60000, sent := ⟨50, 200089500⟩ }
    let t4 : SiteTime := ⟨50, 200140000⟩
    let s : State := { imaged .seek with dsu.nextCross := 51, rfm.sec.start := ⟨50, 0⟩ }
    s.takesMarks = true
      ∧ s.markHeader h t4 = { s with rfm.sec := { s.rfm.sec with
        headers := 1, accepted := 1, best := some ⟨40000, -10500, 10500⟩ } }
      ∧ ({ s with dsu.nextCross := 50 }.markHeader h ⟨50, 0⟩).rfm.nextSec.headers = 1
      ∧ { s with rfm.sec.start := ⟨50, 200140001⟩ }.markHeader h t4 = { s with rfm.sec.start := ⟨50, 200140001⟩ }
      ∧ ({ s with rfm.set.delayMax := 39999 }.markHeader h t4).rfm.sec.refDelay = 1
      ∧ ({ s with rfm.set.delayMax := 40000 }.markHeader h t4).rfm.sec.accepted = 1
      ∧ ({ s with rfm.disturb := [⟨50, 200000000⟩] }.markHeader h t4).rfm.sec.refStep = 1
      ∧ ({ s with rfm.disturb := [⟨50, 199999999⟩] }.markHeader h t4).rfm.sec.refStep = 0
      ∧ (s.markHeader { h with loop := 1 } t4).rfm.sec.refQuality = 1
      ∧ (s.markHeader { h with loop := 1 } t4).rfm.sec.allTrack = false := by decide +kernel

/-- R68: set from 100 back to 50 and disturbed again at 51, a header from before both is refused, one since is not. -/
theorem test_mark_spans_two_settings :
    let m := (({} : Rfm).disturbAt ⟨100, 0⟩).disturbAt ⟨51, 0⟩
    m.spans ⟨99, 999900000⟩ = true ∧ m.spans ⟨50, 5⟩ = true ∧ m.spans ⟨100, 1⟩ = false
      ∧ (m.logSend ⟨99, 999900000⟩).spans ⟨99, 999900000⟩ = false := by decide +kernel

/-- R71's table: the tenth good second gives UP, a second bad one in a row takes it. -/
theorem witness_reference_judged :
    let p : RefState := { mode := .probation, k := 9 }
    let u : RefState := { mode := .up, streak := 1 }
    p.judged .good = { mode := .up } ∧ ({ p with k := 8 }.judged .good) = p ∧ p.judged .bad = { mode := .down }
      ∧ ({ mode := .down } : RefState).judged .good = { mode := .probation, k := 1 }
      ∧ ({ u with streak := 0 }.judged .bad) = u ∧ u.judged .bad = { mode := .down } ∧ u.judged .neutral = u
      ∧ u.judged .good = { mode := .up } := by decide +kernel

/-- R72, R73, R75: selected at once with no other, replaced when it goes DOWN, restored by its thirtieth second. -/
theorem witness_selection :
    let s : State := { imaged .seek with rfm.g := { mode := .probation, k := 9 } }
    let onL : State := { s with rfm.sel := some .l, rfm.l := { mode := .up } }
    let wait := fun n : Nat => ({ onL with rfm.g := { mode := .up, wait := some n } } : State)
    let onG : State := { s with rfm.sel := some .g, rfm.g := { mode := .up, streak := 1 } }
    s.fmn.rows.length = 21 ∧ (s.judgeRef .g .good).rfm.sel = some .g
      ∧ (onL.judgeRef .g .good).rfm.sel = some .l ∧ (onL.judgeRef .g .good).rfm.g.wait = some 0
      ∧ ((wait 28).judgeRef .g .good).rfm.sel = some .l ∧ ((wait 28).judgeRef .g .good).rfm.g.wait = some 29
      ∧ ((wait 29).judgeRef .g .good).rfm.sel = some .g ∧ ((wait 29).judgeRef .g .good).rfm.g.wait = none
      ∧ (onL.judgeRef .g .bad).rfm.sel = some .l
      ∧ (onG.judgeRef .g .bad).rfm.sel = none ∧ ((onG.judgeRef .g .bad).fmn.row 7).active = true
      ∧ ({ onG with rfm.l := { mode := .up } }.judgeRef .g .bad).rfm.sel = some .l := by decide +kernel

/-- G is selected and UP; the window brings the phase error `e` (with a cable delay of 2,000 ns). -/
def locked (loop : LoopState) (e : Int) : State :=
  { imaged .seek with
    rfm.sel := some .g, rfm.g := { mode := .up }, dsu.loop := loop, dsu.acq := 4, dsu.trk := 2, dsu.ring := [5]
    rfm.win := some { pulses := 1, ns := (e + 2000).toNat, covered := true, cable := 2000, ppsTol := 1000 } }

/-- R82, R83 at the bound of 1,000 ns. -/
theorem witness_loop_reports :
    let after := fun (s : State) (p : Dsu → Bool) => gives (exec (.siteSecondCrossing false) s) (fun t => p t.dsu)
    (locked .track 0).calm
      ∧ after (locked .acquire 1001) (fun d => decide (d.loop = .acquire ∧ d.pendStep = some 1001 ∧ d.acq = 0 ∧ d.c = 0)) = true
      ∧ after (locked .acquire (-1000)) (fun d => decide (d.loop = .track ∧ d.acq = 0 ∧ d.u = 50 ∧ d.p = -125000
        ∧ d.i = -7812 ∧ d.ring = [5])) = true
      ∧ after { locked .acquire 1000 with dsu.acq := 3 } (fun d => decide (d.loop = .acquire ∧ d.acq = 4)) = true
      ∧ after (locked .track 1000) (fun d => decide (d.trk = 0 ∧ d.p = 125000 ∧ d.ring = [5, d.c])) = true
      ∧ after { locked .track 1001 with dsu.trk := 1 } (fun d => decide (d.trk = 2 ∧ d.p = 125000 ∧ d.ring = [5, d.c])) = true
      ∧ after (locked .track (-1001)) (fun d => decide (d.loop = .acquire ∧ d.pendStep = some (-1001) ∧ d.u = Config.uSat
        ∧ d.ring = [5])) = true
      ∧ after { locked .track 0 with rfm.win := some { covered := true, cable := 0, ppsTol := 1000 } }
        (fun d => decide (d.report = some .skipBad ∧ d.loop = .track ∧ d.trk = 2)) = true
      ∧ after { imaged .seek with dsu.loop := .holdover, dsu.u := 50, dsu.hclock := 465 }
        (fun d => decide (d.report = some .noReference ∧ d.hclock = 466 ∧ d.u = 500)) = true :=
  ⟨calm_of (by decide +kernel), by decide +kernel⟩

/-- R77: REF_GET past the closing point gives the window that has opened, though no event has come since. -/
theorem test_ref_get_rolls_the_window :
    let w : PulseWindow := { pulses := 3, covered := false, cable := 0, ppsTol := 1000 }
    let s : State := { imaged .seek with rfm.win := some w, dsu.time := ⟨0, 500000000⟩ }
    slice s.refBody s.refG.length 6 = [1, 0, 0, 0, 0, 1]
      ∧ slice { s with dsu.time := ⟨0, 499999999⟩ }.refBody s.refG.length 6 = [1, 3, 0, 0, 0, 0] := by decide +kernel

theorem witness_loop_bounded :
    let s : State := { imaged .seek with dsu.time := ⟨1, 0⟩, dsu.loop := .track, dsu.i := 20000000, dsu.c := -20000000,
                                         dsu.ring := List.replicate 64 (-20000000) }
    s.loopBounded ∧ gives (step { s with pending := [.siteSecondCrossing false] }) (fun t => decide (t.dsu.ring.length = 64)) = true :=
  ⟨by unfold State.loopBounded pptOk; decide +kernel, by decide +kernel⟩

/-! ### The cabinet, tenant ports, timers -/

theorem witness_gate :
    let s := inPhase .seek
    let falling : State := { s with tlm.set.falling := true }
    let range := fun (s : State) (n : Nat) (r : Option Nat) => gives (exec (.gateEnd n) s) (fun t => decide (t.tlm.range = r))
    s.calm ∧ range s 99 none = true ∧ range s 100 (some 0) = true ∧ range s 3999 (some 0) = true
      ∧ range s 4000 (some 1) = true ∧ range s 5999 (some 1) = true ∧ range s 6000 (some 2) = true
      ∧ range s 20000 (some 2) = true ∧ range s 20001 none = true ∧ range falling 6000 (some 0) = true
      ∧ range falling 5999 (some 1) = true ∧ range falling 3999 (some 2) = true
      ∧ gives (exec (.gateEnd 70000) s) (fun t => decide (t.tlm.gateCount = 65535)) = true :=
  ⟨calm_of (by decide +kernel), by decide +kernel⟩

/-- R56 to R58 at a gate end: a rise, the fifth cooler gate, the third invalid and valid gates, the fifth free of HOT_N. -/
theorem witness_gate_moves_level :
    let s : State := { inPhase .seek with tlm.enabled := true }
    let after := fun (s : State) (n : Nat) (p : Tlm → Bool) => gives (exec (.gateEnd n) s) (fun t => p t.tlm)
    let warm := fun n : Nat => ({ s with tlm.sensor := 2, tlm.level := 2, tlm.cool := n, tlm.coolHigh := 1 } : State)
    let hot := fun n : Nat => ({ s with tlm.hotHold := 2, tlm.level := 2, tlm.hotRelease := n } : State)
    let safe : State := { warm 4 with tlm.failSafe := true, tlm.valid := 1, fmn.rows := freshRows.set 6 { active := true } }
    s.calm ∧ after s 4000 (fun a => decide (a.sensor = 1 ∧ a.level = 1 ∧ a.valid = 1)) = true
      ∧ after (warm 4) 6000 (fun a => decide (a.sensor = 2 ∧ a.cool = 0)) = true
      ∧ after (warm 3) 3999 (fun a => decide (a.sensor = 2 ∧ a.cool = 4 ∧ a.coolHigh = 1)) = true
      ∧ after (warm 4) 3999 (fun a => decide (a.sensor = 1 ∧ a.cool = 0 ∧ a.level = 1)) = true
      ∧ after safe 3999 (fun a => decide (a.sensor = 2 ∧ a.cool = 5 ∧ a.failSafe = true)) = true
      ∧ gives (exec (.gateEnd 3999) { safe with tlm.valid := 2 })
        (fun t => decide (t.tlm.failSafe = false ∧ (t.fmn.row 6).active = false)) = true
      ∧ after { s with tlm.invalid := 1 } 99 (fun a => decide (a.failSafe = false ∧ a.invalid = 2)) = true
      ∧ gives (exec (.gateEnd 99) { s with tlm.invalid := 2 })
        (fun t => decide (t.tlm.failSafe = true ∧ t.tlm.sensor = 2 ∧ (t.fmn.row 6).active = true)) = true
      ∧ after (hot 3) 100 (fun a => decide (a.hotHold = 2 ∧ a.hotRelease = 4)) = true
      ∧ after (hot 4) 100 (fun a => decide (a.hotHold = 0 ∧ a.hotRelease = 0 ∧ a.level = 0)) = true
      ∧ after { hot 4 with tlm.gateHot := true } 100 (fun a => decide (a.hotHold = 2 ∧ a.hotRelease = 0)) = true :=
  ⟨calm_of (by decide +kernel), by decide +kernel⟩

/-- R53: SENSOR_LOST comes before THERMAL, whose PROFILE notice then shows the fault cap in force. -/
theorem test_sensor_lost_before_thermal :
    gives (exec (.gateEnd 0) { inPhase .service with tlm.enabled := true, tlm.invalid := 2
                                                     fmn.table := defaultTable.set 6 ⟨.cap, .cap⟩ })
      (fun t => decide (t.fmn.out.map (·.row) = some 6 ∧ (t.fmn.row 5).masked = true ∧ t.lau.ceiling = 2)) = true := by
  decide +kernel

theorem witness_hot :
    let s := inPhase .seek
    s.calm ∧ s.tlm.set.hotHigh = false ∧ s.fmn.rows.length = 21 ∧ s.tlm.level ≠ 2 ∧ s.tlm.sensor ≤ 2
      ∧ gives (exec (.hotNChange false) s) (fun t => decide (t.tlm.hotHold = 2 ∧ t.tlm.level = 2 ∧ t.lau.ceiling = 2
        ∧ (t.fmn.row 5).active = true)) = true
      ∧ isNext (exec (.hotNChange true) { s with pins.hotN := false }) s = true :=
  ⟨calm_of (by decide +kernel), by decide +kernel⟩

theorem witness_port_link :
    let s := withTenant2 (imaged .service) { heldTenant true with state := .active, permit := true, egress := [[1], [2]] }
    s.calm ∧ s.stu.queue = [] ∧ s.fmn.rows.length = 21
      ∧ gives (exec (.portLinkChange 2 false) s) (fun t => decide (t.tpt.t2.link = false ∧ t.tpt.t2.egress = []
        ∧ t.tpt.t2.state = .held ∧ (t.fmn.row 19).active = true ∧ t.tpt.t2.counts.egressDown = 2)) = true
      ∧ gives (exec (.portLinkChange 2 true) (withTenant2 (imaged .service) (heldTenant false)))
        (fun t => decide (t.tpt.t2.state = .active ∧ t.tpt.t2.permit = true)) = true
      ∧ s.fmn.table[11]? = some ⟨.none, .note⟩
      ∧ gives (exec (.portLinkChange 2 false) (withTenant2 s { heldTenant true with state := .barred }))
        (fun t => decide (t.tpt.t2.state = .barred ∧ (t.fmn.row 19).active = true)) = true :=
  ⟨calm_of (by decide +kernel), by decide +kernel⟩

theorem witness_packets :
    let a : Tenant := heldTenant true
    let s := withTenant2 (imaged .service) a
    let full : Tenant := { a with queue := List.replicate 32 (List.replicate 2000 0) ++ [List.replicate 1473 0] }
    let p : Bytes := List.replicate 64 7
    s.lineBusy
      ∧ isNext (exec (.packetArrival 2 (p.take 63)) s) (withTenant2 s { a with counts.badLength := 1 }) = true
      ∧ isNext (exec (.packetArrival 2 (List.replicate 2001 0)) s) (withTenant2 s { a with counts.badLength := 1 }) = true
      ∧ isNext (exec (.packetArrival 2 p) s) (withTenant2 s { a with
        queue := [p], accSince := 66, counts.accepted := 1, counts.acceptedBytes := 66 }) = true
      ∧ gives (exec (.packetArrival 2 p) (withTenant2 s { a with state := .barred }))
        (fun t => decide (t.tpt.t2.counts.barred = 1 ∧ t.tpt.t2.queue = [])) = true
      ∧ gives (exec (.packetArrival 2 p) (withTenant2 s full))
        (fun t => decide (t.tpt.t2.counts.noRoom = 1 ∧ t.tpt.t2.secDrops = 1)) = true
      ∧ gives (exec (.packetArrival 2 p) (withTenant2 s { full with thr := 3, secDrops := 2 }))
        (fun t => decide ((t.fmn.row 15).active = true ∧ (t.fmn.row 15).detail = 2 ∧ t.tpt.t2.secDrops = 3
          ∧ t.tpt.t2.queue = full.queue)) = true
      ∧ gives (exec (.packetArrival 2 p) (withTenant2 s { full with thr := 3, secDrops := 1 }))
        (fun t => decide ((t.fmn.row 15).active = false ∧ t.tpt.t2.secDrops = 2)) = true
      ∧ isNext (exec (.egressPacketTaken 2) (withTenant2 s { a with egress := [[1], [2]] }))
        (withTenant2 s { a with egress := [[2]], counts.delivered := 1 }) = true :=
  ⟨busy_of (by decide +kernel), by decide +kernel⟩

theorem witness_timers :
    let refit := withTenant2 (imaged .service) { heldTenant true with state := .unfit, fit := some .refit, refit := some 0 }
    let recover : State := { imaged .recover with spc.recover := some 0 }
    let waiting : State := { imaged .service with stu.queue := [{ patternRun .waiting with grantLeft := some 0 }], sha.tReq := 4 }
    refit.calm ∧ recover.calm ∧ waiting.calm
      ∧ gives (exec (.refitTimerExpiry 2) refit) (fun t => decide (t.tpt.t2.state = .active ∧ t.tpt.t2.fit = some .fit)) = true
      ∧ gives (exec .recoverTimerExpiry recover) (fun t => decide (t.spc.phase = .seek ∧ t.spc.cause = .recoverExpiry)) = true
      ∧ gives (exec .grantTimerExpiry waiting) (fun t => decide (t.stu.queue = [] ∧ t.sha.tReq = 0
        ∧ t.stu.log.map (fun x => (x.outcome, x.cause)) = [(.aborted, .noCapacity)])) = true :=
  ⟨calm_of (by decide +kernel), calm_of (by decide +kernel), calm_of (by decide +kernel), by decide +kernel⟩

/-- R152: 800 frames of 4 blocks need 2,800 checked. -/
theorem witness_drain :
    let s := fun (checked bad : Nat) => ({ imaged .service with stu.queue :=
      [{ patternRun .draining with drainLeft := some 0, fig.frames := 800, fig.checked := checked, fig.bad := bad }] } : State)
    let ends := fun (s : State) (x : RunOutcome × RunCause) =>
      gives (exec .drainWaitExpiry s) (fun t => decide (t.stu.queue = [] ∧ t.stu.log.map (fun r => (r.outcome, r.cause)) = [x]))
    (s 0 0).calm ∧ ends (s 2800 0) (.pass, .none) = true ∧ ends (s 2799 0) (.fail, .lowCoverage) = true
      ∧ ends (s 2800 1) (.fail, .errors) = true :=
  ⟨calm_of (by decide +kernel), by decide +kernel⟩

theorem witness_retry :
    let s : State := { imaged .prove with stu.plan := [patternEntry, { patternEntry with schedule := .onRequest }, patternEntry],
                                          spc.retry := some 0, spc.prove := .failed }
    s.calm ∧ s.sha.grant = none ∧ (∀ e ∈ s.stu.plan, e.kind ≠ .sensorCheck)
      ∧ gives (exec .retryTimerExpiry s) (fun t => decide (t.spc.retry = none ∧ t.stu.queue.map (·.idx) = [0, 2])
        && t.stu.queue.all (·.round)) = true :=
  ⟨calm_of (by decide +kernel), by decide +kernel⟩

/-- R17, R159: the last run of a round passes, another is left, and a run fails in round 2 and in round 3. -/
theorem witness_round_ends :
    let r := fun bad : Nat => ({ patternRun .draining with round := true, drainLeft := some 0, fig.bad := bad } : Run)
    let q : Run := { patternRun .queued with idx := 1, id := 8, round := true }
    let s := fun (n : Nat) (l : List Run) => ({ imaged .prove with
      spc.prove := .round, spc.roundNo := n, stu.plan := [patternEntry, patternEntry], stu.queue := l } : State)
    (s 2 [r 0]).calm ∧ (s 2 [r 0]).fmn.answersNever .reseek ∧ (s 2 [r 0]).fmn.answersNever .halt
      ∧ gives (exec .drainWaitExpiry (s 2 [r 0])) (fun t => decide (t.spc.phase = .service ∧ t.spc.cause = .provePassed
        ∧ t.spc.prove = .idle ∧ t.spc.roundNo = 0)) = true
      ∧ gives (exec .drainWaitExpiry (s 2 [r 0, q])) (fun t => decide (t.spc = (s 2 []).spc
        ∧ t.stu.queue.map (fun x => (x.id, x.state)) = [(8, .waiting)])) = true
      ∧ gives (exec .drainWaitExpiry (s 2 [r 1, q])) (fun t => decide (t.spc.phase = .prove ∧ t.spc.prove = .round
        ∧ t.spc.roundNo = 3 ∧ t.spc.retry = some 16000 ∧ t.stu.queue = [])) = true
      ∧ gives (exec .drainWaitExpiry (s 3 [r 1, q])) (fun t => decide (t.spc.prove = .failed ∧ t.spc.roundNo = 3
        ∧ t.spc.retry = none ∧ (t.fmn.row 2).active = true ∧ t.stu.queue = [])) = true :=
  ⟨calm_of (by decide +kernel), by unfold Fmn.answersNever; decide +kernel, by unfold Fmn.answersNever; decide +kernel,
    by decide +kernel⟩

/-- A PHASE tenant in HOLDOVER with U at its budget keeps its permit; the next crossing takes it. -/
theorem witness_tenants_consistent :
    let e : Entry := ⟨.shared, 0, 0, 1, none, .phase, 500, 0, none⟩
    let s : State := { withTenant2 (imaged .service) { heldTenant true with entry := some e, state := .active, permit := true } with
      dsu.loop := .holdover, dsu.u := 500, dsu.hclock := 466 }
    s.tenantsConsistent ∧ gives (step { s with pending := [.siteSecondCrossing false] })
      (fun t => decide (t.tpt.t2.state = .unfit ∧ t.tpt.t2.permit = false ∧ t.dsu.u = 501 ∧ (t.fmn.row 11).active = true)) = true :=
  ⟨by unfold State.tenantsConsistent Tenant.consistent; decide +kernel, by decide +kernel⟩

theorem witness_queues_bounded :
    State.reset.queuesBounded ∧ State.reset.portsBounded
      ∧ gives (step { inPhase .seek with pending := [.noteSend 1 [0]] }) (fun t => decide (t.lfr.tx.svc.length = 1)) = true := by
  refine ⟨?_, ?_, by decide +kernel⟩
  · unfold State.queuesBounded State.noticesBounded State.noticesDistinct State.runsBounded
    exact ⟨by decide, by decide, by decide, by decide, by decide,
      ⟨by decide, by decide, by decide, fun o h => nomatch h⟩, by decide⟩
  · unfold State.portsBounded
    decide +kernel

theorem witness_buffer_canonical :
    (inPhase .load).bufferWf ∧ gives (step { inPhase .load with pending := [.imageWrite 1 0 [0, 5]] })
      (fun t => decide (t.il.buffer = [(1, 5)])) = true :=
  ⟨by unfold State.bufferWf; decide +kernel, by decide +kernel⟩

end Sys2Proof.Machine.Tests
end

section
/-! A request at a ready port, whatever its kind (R192, R193), and ALIGN_PEAK_RESET (R14). -/

namespace Sys2Proof.Machine

/-! ### A request at a ready port -/

/-- The state in which a ready part's owner acts on a request: one more counted as received, none waiting. -/
def State.received (s : State) : State := { s with mp.counts.received := s.mp.counts.received + 1 }

/-- Once a request is handed over and answered, a busy line and a full slot leave the port nothing more to do. -/
theorem State.settlePort_served {s t : State} (h : s.serveNext = t) (hline : t.mp.line.isSome = true)
    (hslot : t.mp.slot.isSome = true) : s.settlePort = t := by
  simp only [State.settlePort, h, Mp.startLine_busy hline, State.serveNext_full hslot]

/-- With the slot free and none waiting, a request that arrives is handed over at once. -/
theorem State.serveNext_ready {s : State} (h : s.ready) (r : Request) :
    ({ s with mp := s.mp.arrive r } : State).serveNext = s.received.act1 r := by
  obtain ⟨⟨⟨-, -, hinbound⟩, -⟩, hslot, hrestart⟩ := h
  have hreceived : s.received =
      { s with mp := { s.mp with counts.received := s.mp.counts.received + 1, inbound := [] } } := by
    rw [State.received, ← hinbound]
  rw [Mp.arrive_room r (by simp [hinbound]), hreceived]
  simp only [State.serveNext, hslot, hrestart, hinbound, List.nil_append]

/-- A ready part hands a request over within the event that receives it, and that is the whole event where the owner's act
leaves the line busy. -/
theorem State.submit_ready {s : State} (h : s.ready) {r : Request} (hline : (s.received.act1 r).mp.line.isSome = true) :
    s.submit r = s.received.act1 r := by
  have ⟨⟨⟨hwork, hremoved, _⟩, _⟩, _⟩ := h
  have hidle : ({ s with mp := s.mp.arrive r } : State).finishWork = { s with mp := s.mp.arrive r } :=
    State.finishWork_idle hwork hremoved
  have hfull : (s.received.act1 r).mp.slot.isSome = true := by
    rw [State.act1, State.reply_mp_slot, Option.isSome_some]
  rw [State.submit, State.close, hidle]
  exact State.settlePort_served (State.serveNext_ready h r) hline hfull

/-- An owner that leaves no work of its own, and the line as it was, is followed by its reply and by nothing else. -/
theorem State.submit_answered {s : State} (h : s.ready) {r : Request} {a : Answer} (ha : s.received.serve r.body = a)
    (hwork : a.state.work = s.work) (hremoved : a.state.stu.removed = s.stu.removed)
    (hline : a.state.mp.line = s.mp.line) : s.submit r = a.state.reply r a := by
  have ⟨⟨⟨hw, hr, _⟩, hl⟩, _⟩ := h
  have hact : s.received.act1 r = a.state.reply r a := by
    rw [State.act1, ha, State.finishWork_idle (hwork.trans hw) (hremoved.trans hr)]
  have hbusy : (a.state.reply r a).mp.line.isSome = true := (congrArg Option.isSome hline).trans hl
  rw [State.submit_ready h (by rwa [hact]), hact]

/-- A ready part's refusal changes nothing but the port's counts and slot (R191). -/
theorem State.submit_refused {s : State} (h : s.ready) {kind tag : Byte} {body : ReqBody} {st : Status}
    (ha : s.received.serve body = refuse s.received st) (hbody : body.isRestart = false) :
    s.submit ⟨kind, tag, body⟩ = s.answer kind tag st [] := by
  rw [State.submit_answered h ha rfl rfl rfl]
  simp [State.reply, refuse, hbody, State.answer, Mp.answered, State.received]

/-! ### ALIGN_PEAK_RESET -/

theorem exec_alignPeakReset (tag : Byte) (s : State) :
    exec (.alignPeakReset tag) s = .next (s.submit ⟨0x04, tag, .alignPeakReset⟩) := rfl

theorem AlignRecord.resetPeak_some {r : AlignRecord} {a : Int} (h : r.avg = some a) (now : SiteTime) :
    r.resetPeak now = ⟨some a, some a, some now, 0, false⟩ := by
  simp [AlignRecord.resetPeak, h]

theorem AlignRecord.resetPeak_none {r : AlignRecord} (h : r.avg = none) (now : SiteTime) : r.resetPeak now = r := by
  simp [AlignRecord.resetPeak, h]

/-- In ALIGN the request moves the peak of the record, and nothing else but the port's counts and slot. -/
theorem submit_alignPeakReset_align {s : State} (h : s.ready) (hp : s.spc.phase = .align) (tag : Byte) :
    s.submit ⟨0x04, tag, .alignPeakReset⟩ =
      { s with spc.record := s.spc.record.resetPeak s.dsu.time }.answer 0x04 tag .ok [] := by
  have hserve : s.received.serve .alignPeakReset =
      okOnly { s.received with spc.record := s.spc.record.resetPeak s.dsu.time } :=
    if_pos hp
  rw [State.submit_answered h hserve rfl rfl rfl]
  rfl

theorem submit_alignPeakReset_refused {s : State} (h : s.ready) (hp : s.spc.phase ≠ .align) (tag : Byte) :
    s.submit ⟨0x04, tag, .alignPeakReset⟩ = s.answer 0x04 tag .wrongPhase [] :=
  State.submit_refused h (if_neg hp) rfl

/-- Settles O14: a ready port hands the request over at once, and the owner's act is the record's `resetPeak` by its
average. -/
theorem alignPeakReset : Obligations.AlignPeakReset := by
  intro s tag hready
  simp only [exec_alignPeakReset]
  refine ⟨fun halign => ?_, fun hother => congrArg _ (submit_alignPeakReset_refused hready hother tag)⟩
  rw [submit_alignPeakReset_align hready halign]
  refine ⟨fun a havg => ?_, fun hnone => ?_⟩
  · rw [AlignRecord.resetPeak_some havg]
  · rw [AlignRecord.resetPeak_none hnone]

end Sys2Proof.Machine
end

section
/-! PROOFS. The share's base when the claims fit, its test step, and what each tenant keeps (R121 to R127). -/

namespace Sys2Proof.Machine

/-! ### Rules of the computation -/

theorem Tenant.claim_of_shared {t : Tenant} {e : Entry} (h : t.shared = some e) (bb : Nat) :
    t.claim bb = min (e.guarantee bb) (t.demand bb) := by
  simp [Tenant.claim, h]

/-- The claims are scaled only when they do not fit (R124). -/
theorem share_not_scaled_of_fit {x : ShareIn} (h : (share x).s ≤ (share x).r) : ¬ (share x).scaled = true := by
  have hscaled : (share x).scaled = decide ((share x).r < (share x).s) := rfl
  simpa [hscaled] using h

/-- The guarantee step when the claims fit (R123). -/
theorem share_base_of_fit {x : ShareIn} (h : (share x).s ≤ (share x).r) :
    (share x).base = Four.of (fun i => (x.tenants.get i).claim (blockBytes x.prof)) :=
  if_neg (share_not_scaled_of_fit h)

theorem share_spare_of_fit {x : ShareIn} (h : (share x).s ≤ (share x).r) :
    (share x).spare = (share x).r - (share x).s :=
  if_neg (share_not_scaled_of_fit h)

/-- The excess step starts from what the test step leaves of spare (R125, R127). -/
theorem share_rExcess (x : ShareIn) : (share x).rExcess = (share x).spare - (share x).counts.test := rfl

/-- The test step (R125, R126): the tests have T_req while a grant stands after it, and 0 without one. -/
theorem share_test (x : ShareIn) :
    (share x).counts.test = if (share x).grant.isSome then x.tReq else 0 := rfl

/-- The grant after the test step: a revoked one is gone, and one given is of T_req (R125, R126). -/
theorem share_grant (x : ShareIn) :
    (share x).grant = if (share x).revoked then none else if (share x).gave then some x.tReq else x.grant := rfl

theorem share_revoked (x : ShareIn) :
    (share x).revoked = (x.grant.isSome && decide ((share x).spare < x.tReq)) := rfl

theorem share_gave (x : ShareIn) : (share x).gave =
    (decide (0 < x.tReq) && x.grant.isNone && decide (x.tReq ≤ (share x).spare) && x.canGrant) := rfl

theorem share_gave_fits {x : ShareIn} (h : (share x).gave = true) : x.tReq ≤ (share x).spare := by
  simp only [share_gave, Bool.and_eq_true, decide_eq_true_eq] at h
  obtain ⟨⟨-, hfits⟩, -⟩ := h
  exact hfits

theorem share_fits_of_not_revoked {x : ShareIn} (h : ¬ (share x).revoked = true) (hgrant : x.grant.isSome = true) :
    x.tReq ≤ (share x).spare := by
  simpa [share_revoked, hgrant] using h

/-- A grant stands after the test step only where spare holds it: one that did not fit was revoked, and one is given
only where it fits (R125, R126). -/
theorem share_grant_fits {x : ShareIn} (h : (share x).grant.isSome = true) : x.tReq ≤ (share x).spare := by
  rw [share_grant] at h
  split at h
  case isTrue => simp at h
  case isFalse hkept =>
    split at h
    case isTrue hgave => exact share_gave_fits hgave
    case isFalse => exact share_fits_of_not_revoked hkept h

/-- The test step takes from spare only, whether or not the claims fit. -/
theorem share_test_le_spare (x : ShareIn) : (share x).counts.test ≤ (share x).spare := by
  rw [share_test]
  split
  case isTrue hgrant => exact share_grant_fits hgrant
  case isFalse => exact Nat.zero_le _

/-- What a tenant is given is what it is owed, its base and its part of the excess, so never less than its base. -/
theorem share_base_le_given (x : ShareIn) (i : Fin 4) : (share x).base.get i ≤ (share x).counts.ten.get i := by
  simp only [share, Four.get_of]
  omega

/-! ### The guarantees -/

/-- Settles O46: the base is the claims, and the test step and the excess step do not touch it. -/
theorem guaranteesThatFitAreGiven : Obligations.GuaranteesThatFitAreGiven := by
  intro x hfit
  refine ⟨share_spare_of_fit hfit, share_test_le_spare x, share_rExcess x, fun i e hshared => ?_⟩
  have hbase : (share x).base.get i =
      min (e.guarantee (blockBytes x.prof)) ((x.tenants.get i).demand (blockBytes x.prof)) := by
    rw [share_base_of_fit hfit, Four.get_of, Tenant.claim_of_shared hshared]
  exact ⟨hbase, hbase ▸ share_base_le_given x i⟩

end Sys2Proof.Machine
end

section
/-! PROOFS. The relation between a state and one that work inside the blocks has led to: every invariant of the part is
carried over, and the Message Port keeps all but its notices. One lemma for each operation, built up from the shared ones. -/

namespace Sys2Proof.Machine

/-! ### The relation -/

/-- What the tenants' invariant reads of a state. -/
structure View where
  tpt : Four Tenant
  phase : Phase
  loop : LoopState
  u : Nat

/-- What the tenants' invariant reads of a tenant; the rest is as reset leaves it. -/
def Tenant.core (t : Tenant) : Tenant :=
  { entry := t.entry, state := t.state, fit := t.fit, refit := t.refit, link := t.link, permit := t.permit }

/-- The tenants, the phase and the loop as they stand. -/
def State.view (s : State) : View :=
  ⟨Four.of (fun i => (s.tpt.get i).core), s.spc.phase, s.dsu.loop, s.dsu.u⟩

/-- The tenants' invariant, of what it reads. -/
def View.consistent (v : View) : Prop := ∀ i : Fin 4, (v.tpt.get i).consistent v.phase v.loop v.u

/-- Nothing is asked of the tenants: the relation through states in which they do not agree with the phase yet. -/
def View.any (_ : View) : Prop := True

/-- The port but for its notices and ATTN. -/
def Mp.still (m : Mp) : Mp :=
  { m with notices := [], attn := false, pulse := none, attnMode := .level, counts.replaced := 0 }

/-- A tenant's queue and buffer are within their bounds (R111, R114). -/
def Tenant.bounded (t : Tenant) : Prop := occupancy t.queue ≤ 65536 ∧ occupancy t.egress ≤ 16384

/-- Every row that the outstanding record can name is one of the 21. -/
def Fmn.outOk (f : Fmn) : Prop := ∀ o, f.out = some o → o.row < 21

/-- The waiting notices each have a subject of their kind. -/
def Mp.subjectsOk (m : Mp) : Prop := ∀ n ∈ m.notices, n.subject < n.kind.subjects

/-- Every invariant of the part that holds of `s` holds of `t`, with `Q` for the tenants', and the waiting commands are the
same. -/
structure State.KeepsOf (Q : View → Prop) (s t : State) : Prop where
  pending : t.pending = s.pending
  notices : s.noticesDistinct → t.noticesDistinct
  buffer : s.bufferWf → t.bufferWf
  loop : s.loopBounded → t.loopBounded
  tenants : Q s.view → Q t.view
  queues : s.queuesBounded → t.queuesBounded
  ports : s.portsBounded → t.portsBounded

/-- `t` comes from `s` by work inside the blocks: the invariants are carried over, the port keeps all but its notices, and
the fault table its length. -/
structure State.InnerOf (Q : View → Prop) (s t : State) : Prop extends State.KeepsOf Q s t where
  port : t.mp.still = s.mp.still
  rows : t.fmn.rows.length = s.fmn.rows.length

/-- Every invariant of the part is carried over. -/
abbrev State.Keeps (s t : State) : Prop := State.KeepsOf View.consistent s t

/-- Work inside the blocks, with the tenants' invariant carried over. -/
abbrev State.Inner (s t : State) : Prop := State.InnerOf View.consistent s t

theorem State.tenantsConsistent_iff (s : State) : s.view.consistent ↔ s.tenantsConsistent :=
  forall_congr' fun i => by simp only [State.view, Four.get_of]; rfl

/-! ### Counting notices and runs -/

/-- The keys that waiting notices can have. -/
def noticeKeys : List (NoticeKind × Nat) :=
  [NoticeKind.phase, .align, .link, .profile, .thermal, .ref, .time, .tenant, .map, .test, .fault, .note, .image].flatMap
    (fun k => (List.range k.subjects).map (fun n => (k, n)))

theorem mem_noticeKeys {k : NoticeKind} {n : Nat} (h : n < k.subjects) : (k, n) ∈ noticeKeys := by
  cases k <;> simpa [noticeKeys] using h

/-- Distinct notices with subjects of their kinds are no more than the keys there are. -/
theorem Mp.notices_length_le {m : Mp} (hd : (m.notices.map Notice.key).Nodup) (hs : m.subjectsOk) :
    m.notices.length ≤ 40 := by
  have hsub : m.notices.map Notice.key ⊆ noticeKeys := by
    intro k hk
    obtain ⟨n, hn, rfl⟩ := List.mem_map.1 hk
    exact mem_noticeKeys (hs n hn)
  have hlen : noticeKeys.length ≤ 40 := by decide
  have hle := (hd.subperm hsub).length_le
  rw [List.length_map] at hle
  omega

theorem State.noticesBounded_iff (s : State) :
    s.noticesBounded ↔ s.noticesDistinct ∧ s.mp.subjectsOk ∧ s.fmn.outOk :=
  ⟨fun ⟨_, hd, hs, ho⟩ => ⟨hd, hs, ho⟩, fun ⟨hd, hs, ho⟩ => ⟨Mp.notices_length_le hd hs, hd, hs, ho⟩⟩

/-- Distinct indices below 8 are at most 8. -/
theorem nodup_below_length {l : List Nat} (hd : l.Nodup) (hb : ∀ n ∈ l, n < 8) : l.length ≤ 8 := by
  have hsub : l ⊆ List.range 8 := fun n hn => List.mem_range.2 (hb n hn)
  simpa using (hd.subperm hsub).length_le

theorem State.runsBounded_iff (s : State) : s.runsBounded ↔
    (s.stu.queue.map (·.idx)).Nodup ∧ (∀ n ∈ s.stu.queue.map (·.idx), n < 8) ∧ s.stu.plan.length ≤ 8 := by
  refine ⟨fun ⟨_, hd, hb, hp⟩ => ⟨hd, by simpa using hb, hp⟩, fun ⟨hd, hb, hp⟩ => ⟨?_, hd, by simpa using hb, hp⟩⟩
  simpa using nodup_below_length hd hb

/-- Runs whose indices are among those there before, in their order, are within the bound. -/
theorem State.runsBounded_of_sublist {s t : State} (hq : (t.stu.queue.map (·.idx)).Sublist (s.stu.queue.map (·.idx)))
    (hp : t.stu.plan = s.stu.plan) (h : s.runsBounded) : t.runsBounded := by
  rw [State.runsBounded_iff] at h ⊢
  obtain ⟨hd, hb, hl⟩ := h
  exact ⟨hq.nodup hd, fun n hn => hb n (hq.subset hn), hp ▸ hl⟩

/-! ### A notice at the port -/

theorem Mp.push_still (m : Mp) (n : Notice) : (m.push n).still = m.still := by
  unfold Mp.push
  split
  · rfl
  · unfold Mp.attnEnter
    split
    · rfl
    · split <;> rfl

theorem Mp.push_keys (m : Mp) (n : Notice) : (m.push n).notices.map Notice.key =
    if n.key ∈ m.notices.map Notice.key then m.notices.map Notice.key else m.notices.map Notice.key ++ [n.key] := by
  have hany : (m.notices.any fun x => decide (x.key = n.key)) = true ↔ n.key ∈ m.notices.map Notice.key := by
    simp [List.any_eq_true, List.mem_map]
  unfold Mp.push
  by_cases h : n.key ∈ m.notices.map Notice.key
  · rw [if_pos (hany.2 h), if_pos h, replaceNotice_keys]
  · rw [if_neg (fun hc => h (hany.1 hc)), if_neg h]
    simp

theorem Mp.push_distinct {m : Mp} (n : Notice) (h : (m.notices.map Notice.key).Nodup) :
    ((m.push n).notices.map Notice.key).Nodup := by
  rw [Mp.push_keys]
  split
  · exact h
  · next hn => exact h.append (List.nodup_singleton _) (List.disjoint_singleton.2 hn)

/-- Whether the notices' subjects are of their kinds is a matter of their keys. -/
theorem Mp.subjectsOk_iff (m : Mp) : m.subjectsOk ↔ ∀ k ∈ m.notices.map Notice.key, k.2 < k.1.subjects := by
  simp [Mp.subjectsOk, Notice.key]

theorem Mp.push_subjectsOk {m : Mp} {n : Notice} (h : m.subjectsOk) (hn : n.subject < n.kind.subjects) :
    (m.push n).subjectsOk := by
  rw [Mp.subjectsOk_iff] at h ⊢
  rw [Mp.push_keys]
  split
  · exact h
  · intro k hk
    rcases List.mem_append.1 hk with hk | hk
    · exact h k hk
    · rw [List.mem_singleton.1 hk]
      exact hn

theorem Fmn.respond_length (f : Fmn) (x : Raise) (r : Response) (now : SiteTime) :
    (f.respond x r now).rows.length = f.rows.length := by
  unfold Fmn.respond
  cases f.out <;> simp [Fmn.modifyRow]

/-! ### Changes of a state -/

/-- What a change of the state does to each thing that the invariants read. -/
structure Change (Q : View → Prop) (t u : State) : Prop where
  pending : u.pending = t.pending
  keys : u.mp.notices = t.mp.notices
  port : u.mp.still = t.mp.still
  rows : u.fmn.rows.length = t.fmn.rows.length
  out : t.fmn.outOk → u.fmn.outOk
  buffer : t.bufferWf → u.bufferWf
  loop : t.loopBounded → u.loopBounded
  tenants : Q t.view → Q u.view
  ports : t.portsBounded → u.portsBounded
  svc : t.lfr.tx.svc.length ≤ 8 → u.lfr.tx.svc.length ≤ 8
  relay : t.lfr.rx.relay.length ≤ 4 → u.lfr.rx.relay.length ≤ 4
  log : t.stu.log.length ≤ 16 → u.stu.log.length ≤ 16
  runs : t.runsBounded → u.runsBounded

theorem Change.refl {Q : View → Prop} (t : State) : Change Q t t := ⟨rfl, rfl, rfl, rfl, id, id, id, id, id, id, id, id, id⟩

/-- What the invariants read of a state: every other part of it is as reset leaves it. -/
def State.reads (s : State) : State :=
  { pending := s.pending
    spc.phase := s.spc.phase
    lfr.tx.svc := s.lfr.tx.svc, lfr.rx.relay := s.lfr.rx.relay
    dsu.time := s.dsu.time, dsu.residue := s.dsu.residue, dsu.c := s.dsu.c, dsu.i := s.dsu.i, dsu.ring := s.dsu.ring
    dsu.loop := s.dsu.loop, dsu.u := s.dsu.u
    tpt := s.tpt
    stu.log := s.stu.log, stu.queue := s.stu.queue, stu.plan := s.stu.plan
    fmn.rows := s.fmn.rows, fmn.out := s.fmn.out
    il.buffer := s.il.buffer
    mp := s.mp }

theorem Change.of_reads {Q : View → Prop} {t u : State} (r : u.reads = t.reads) : Change Q t u := by
  have c : Change Q t.reads u.reads := r ▸ Change.refl _
  exact { c with }

namespace State.InnerOf

variable {Q : View → Prop} {s t u : State}

/-! ### Rules of the relation -/

theorem refl (s : State) : InnerOf Q s s := ⟨⟨rfl, id, id, id, id, id, id⟩, rfl, rfl⟩

theorem trans (h : InnerOf Q s t) (g : InnerOf Q t u) : InnerOf Q s u where
  pending := g.pending.trans h.pending
  notices := g.notices ∘ h.notices
  buffer := g.buffer ∘ h.buffer
  loop := g.loop ∘ h.loop
  tenants := g.tenants ∘ h.tenants
  queues := g.queues ∘ h.queues
  ports := g.ports ∘ h.ports
  port := g.port.trans h.port
  rows := g.rows.trans h.rows

/-- A way through states in which the tenants do not agree yet, that comes to one in which they do. -/
theorem ofAny (h : InnerOf View.any s t) (hq : Q s.view → Q t.view) : InnerOf Q s t := { h with tenants := hq }

theorem toAny (h : InnerOf Q s t) : InnerOf View.any s t := { h with tenants := id }

/-- A change of the state, by what it does to each thing that the invariants read. -/
theorem changeOf (h : InnerOf Q s t) (c : Change Q t u) : InnerOf Q s u := by
  have hin : u.mp.inbound = t.mp.inbound := (congrArg Mp.inbound c.port :)
  have hst : u.mp.store = t.mp.store := (congrArg Mp.store c.port :)
  have hd : t.noticesDistinct → u.noticesDistinct := by simp only [noticesDistinct, c.keys, imp_self]
  refine h.trans ⟨⟨c.pending, hd, c.buffer, c.loop, c.tenants, ?_, c.ports⟩, c.port, c.rows⟩
  rintro ⟨h1, h2, h3, h4, h5, h6, h7⟩
  refine ⟨hin ▸ h1, hst ▸ h2, c.svc h3, c.relay h4, c.log h5, ?_, c.runs h7⟩
  rw [noticesBounded_iff] at h6 ⊢
  obtain ⟨hdist, hsub, hout⟩ := h6
  exact ⟨hd hdist, by simpa only [Mp.subjectsOk, c.keys] using hsub, c.out hout⟩

/-- A change of nothing that the invariants read. -/
theorem change (h : InnerOf Q s t) (r : u.reads = t.reads) : InnerOf Q s u := h.changeOf (Change.of_reads r)

theorem ite {c : Prop} [Decidable c] (ht : c → InnerOf Q s t) (hu : ¬ c → InnerOf Q s u) :
    InnerOf Q s (if c then t else u) := by
  split
  · next h => exact ht h
  · next h => exact hu h

theorem foldl {α : Type} {f : State → α → State} (l : List α) (hf : ∀ t x, x ∈ l → InnerOf Q s t → InnerOf Q s (f t x))
    (h : InnerOf Q s t) : InnerOf Q s (l.foldl f t) := by
  induction l generalizing t with
  | nil => exact h
  | cons x xs ih => exact ih (fun t y hy => hf t y (List.mem_cons_of_mem x hy)) (hf t x List.mem_cons_self h)

theorem forTenants {f : State → Fin 4 → State} (hf : ∀ t i, InnerOf Q s t → InnerOf Q s (f t i)) (h : InnerOf Q s t) :
    InnerOf Q s (t.forTenants f) := foldl tenants (fun t i _ => hf t i) h

/-! ### Notices -/

/-- A notice, whose subject is of its kind at least where the queues of the first state are within their bounds. -/
theorem notifyOf (h : InnerOf Q s t) {k : NoticeKind} {n : Nat} {c : Bytes}
    (hn : s.queuesBounded → n < k.subjects) : InnerOf Q s (t.notify k n c) where
  pending := h.pending
  notices hs := Mp.push_distinct _ (h.notices hs)
  buffer := h.buffer
  loop := h.loop
  tenants := h.tenants
  queues hs := by
    obtain ⟨h1, h2, h3, h4, h5, h6, h7⟩ := h.queues hs
    rw [noticesBounded_iff] at h6
    obtain ⟨hdist, hsub, hout⟩ := h6
    have hstill := Mp.push_still t.mp ⟨k, n, c⟩
    exact ⟨(congrArg (List.length ∘ Mp.inbound) hstill).trans_le h1, (congrArg (List.length ∘ Mp.store) hstill).trans_le h2,
      h3, h4, h5, (noticesBounded_iff _).2 ⟨Mp.push_distinct _ hdist, Mp.push_subjectsOk hsub (hn hs), hout⟩, h7⟩
  ports := h.ports
  port := (Mp.push_still _ _).trans h.port
  rows := h.rows

theorem notify (h : InnerOf Q s t) {k : NoticeKind} {n : Nat} {c : Bytes} (hn : n < k.subjects) :
    InnerOf Q s (t.notify k n c) := h.notifyOf fun _ => hn

theorem noteLink (h : InnerOf Q s t) : InnerOf Q s t.noteLink := h.notify (by decide)
theorem noteProfile (h : InnerOf Q s t) : InnerOf Q s t.noteProfile := h.notify (by decide)
theorem noteThermal (h : InnerOf Q s t) : InnerOf Q s t.noteThermal := h.notify (by decide)
theorem noteTime (h : InnerOf Q s t) : InnerOf Q s t.noteTime := h.notify (by decide)
theorem noteTest (h : InnerOf Q s t) : InnerOf Q s t.noteTest := h.notify (by decide)
theorem noteImage (h : InnerOf Q s t) : InnerOf Q s t.noteImage := h.notify (by decide)
theorem noteAlign (h : InnerOf Q s t) : InnerOf Q s t.noteAlign := h.notify (by decide)
theorem noteRef (h : InnerOf Q s t) (r : Ref) : InnerOf Q s (t.noteRef r) := h.notify (by cases r <;> decide)
theorem noteTenant (h : InnerOf Q s t) (i : Fin 4) : InnerOf Q s (t.noteTenant i) := h.notify i.isLt
theorem noteMap (h : InnerOf Q s t) (c : MapCause) : InnerOf Q s (t.noteMap c) :=
  notify (change h (by rfl)) (by decide)
theorem noteFault (h : InnerOf Q s t) {r : Nat} (hr : s.queuesBounded → r < 21) : InnerOf Q s (t.noteFault r) :=
  h.notifyOf hr

/-! ### The service queue and the ceiling -/

theorem offer (h : InnerOf Q s t) (m : SvcMsg) : InnerOf Q s (t.offer m) := by
  unfold State.offer
  split
  · next hroom =>
    have hlt : t.lfr.tx.svc.length < 8 := of_decide_eq_true hroom
    exact h.changeOf
        { Change.refl _ with svc := fun _ => by simp only [List.length_append, List.length_singleton]; omega }
  · exact h.change (by rfl)

theorem offerKept (h : InnerOf Q s t) : InnerOf Q s t.offerKept :=
  h.changeOf { Change.refl _ with
      svc := fun hs => by
        simp only [State.offerKept, List.length_append, List.length_take]
        omega }

theorem recomputeCeiling (h : InnerOf Q s t) : InnerOf Q s t.recomputeCeiling :=
  ite (fun _ => h) (fun _ => (h.change (by rfl)).noteProfile)

theorem wantAlloc (h : InnerOf Q s t) (a : Trigger) : InnerOf Q s (t.wantAlloc a) := by
  unfold State.wantAlloc
  split
  · exact h.change (by rfl)
  · exact h.change (by rfl)
  · exact h

/-! ### Raises and clears -/

theorem modifyRow (h : InnerOf Q s t) (r : Nat) (g : FaultRow → FaultRow) :
    InnerOf Q s { t with fmn := t.fmn.modifyRow r g } := h.changeOf { Change.refl _ with rows := by simp }

theorem recordRaise (h : InnerOf Q s t) (x : Raise) : InnerOf Q s (t.recordRaise x) :=
  h.changeOf { Change.refl _ with rows := by simp [State.recordRaise, Fmn.modifyRow] }

theorem latchRow (h : InnerOf Q s t) (r : Nat) : InnerOf Q s (t.latchRow r) := h.modifyRow r _

theorem maskRow (h : InnerOf Q s t) (r : Nat) : InnerOf Q s (t.maskRow r) := h.modifyRow r _

theorem beginAction (h : InnerOf Q s t) (r : Nat) (a : Response) : InnerOf Q s (t.beginAction r a) := by
  cases a with
  | cap => exact (h.change (by rfl)).recomputeCeiling
  | bar | reseek | halt => exact h.change (by rfl)
  | note | none => exact h

theorem noteReplaced (h : InnerOf Q s t) {old : Option Outstanding} {r : Nat}
    (ho : s.queuesBounded → ∀ o, old = some o → o.row < 21) : InnerOf Q s (t.noteReplaced old r) := by
  unfold State.noteReplaced
  split
  · next o => exact ite (fun _ => h) (fun _ => h.noteFault fun hs => ho hs o rfl)
  · exact h

theorem takeResponse (h : InnerOf Q s t) {x : Raise} (hx : x.row < 21) (r : Response) :
    InnerOf Q s (t.takeResponse x r) := by
  have hout : s.queuesBounded → t.fmn.outOk := fun hs => ((noticesBounded_iff t).1 (h.queues hs).2.2.2.2.2.1).2.2
  have hwrite : InnerOf Q s { t with fmn := t.fmn.respond x r t.dsu.time } :=
    h.changeOf { Change.refl _ with rows := Fmn.respond_length _ _ _ _, out := fun _ o ho => Option.some.inj ho ▸ hx }
  exact ((hwrite.beginAction _ _).noteFault fun _ => hx).noteReplaced hout

theorem answerRaise (h : InnerOf Q s t) {x : Raise} (hx : x.row < 21) : InnerOf Q s (t.answerRaise x) := by
  unfold State.answerRaise
  split
  · exact (h.latchRow _).noteFault fun _ => hx
  · exact h.latchRow _
  · split
    · exact ite (fun _ => (h.maskRow _).noteFault fun _ => hx) (fun _ => h.takeResponse hx _)
    · exact h.takeResponse hx _

theorem raise (h : InnerOf Q s t) {x : Raise} (hx : x.row < 21) : InnerOf Q s (t.raise x) :=
  ite (fun _ => h) (fun _ => (h.recordRaise x).answerRaise hx)

theorem raiseNow (h : InnerOf Q s t) {r : Nat} (hr : r < 21) (d : Nat) : InnerOf Q s (t.raiseNow r d) :=
  h.raise hr

theorem clear (h : InnerOf Q s t) {r : Nat} (hr : r < 21) : InnerOf Q s (t.clear r) :=
  ite (fun _ => ite (fun _ => (h.modifyRow r _).noteFault fun _ => hr) (fun _ => h.modifyRow r _)) (fun _ => h)

end State.InnerOf

end Sys2Proof.Machine
end

section
/-! PROOFS. The Tenant Ports: each operation as a change of one tenant, and within the relation of the blocks' work. -/

namespace Sys2Proof.Machine

/-! ### One tenant changed -/

theorem State.modTenant_view {s : State} {i : Fin 4} {f : Tenant → Tenant}
    (h : (f (s.tpt.get i)).core = (s.tpt.get i).core) : (s.modTenant i f).view = s.view := by
  have hcore : ∀ j, ((s.modTenant i f).tpt.get j).core = (s.tpt.get j).core := fun j => by
    rw [State.modTenant_tpt, Four.get_set]
    split
    · next hj => rw [hj, h]
    · rfl
  simp only [State.view, hcore]
  rfl

/-- A tenant changed keeps the agreement of all when the new one agrees. -/
theorem State.tenantsConsistent_set {s t : State} {i : Fin 4} {x : Tenant} (h : s.tenantsConsistent)
    (htpt : t.tpt = s.tpt.set i x) (hphase : t.spc.phase = s.spc.phase) (hloop : t.dsu.loop = s.dsu.loop)
    (hu : t.dsu.u = s.dsu.u) (hx : x.consistent s.spc.phase s.dsu.loop s.dsu.u) : t.tenantsConsistent := by
  intro j
  rw [htpt, hphase, hloop, hu, Four.get_set]
  split
  · exact hx
  · exact h j

/-- A change of each tenant in turn that leaves what it depends on is a change of all four. -/
theorem State.forTenants_tpt {f : State → Fin 4 → State} {g : Fin 4 → Tenant → Tenant} (P : State → Prop)
    (hf : ∀ s i, P s → (f s i).tpt = s.tpt.set i (g i (s.tpt.get i)) ∧ P (f s i)) {s : State} (hs : P s) :
    (s.forTenants f).tpt = Four.of (fun i => g i (s.tpt.get i)) := by
  obtain ⟨h0, hs0⟩ := hf s 0 hs
  obtain ⟨h1, hs1⟩ := hf _ 1 hs0
  obtain ⟨h2, hs2⟩ := hf _ 2 hs1
  obtain ⟨h3, -⟩ := hf _ 3 hs2
  simp only [State.forTenants, tenants, List.foldl_cons, List.foldl_nil]
  rw [h3, h2, h1, h0]
  rfl

/-! ### Each operation as a change of its tenant -/

/-- A tenant after a move between states (R107, R116). -/
def Tenant.moved (t : Tenant) (st : TenantState) (c : TenantCause) : Tenant :=
  { t with left := t.state, state := st, permit := decide (st = .active), cause := c }

theorem State.moveTenant_tpt' (s : State) (i : Fin 4) (st : TenantState) (c : TenantCause) :
    (s.moveTenant i st c).tpt = s.tpt.set i ((s.tpt.get i).moved st c) := State.moveTenant_tpt s i st c

theorem State.activate_tpt' (s : State) (i : Fin 4) (c : TenantCause) :
    (s.activate i c).tpt = s.tpt.set i ((s.tpt.get i).moved .active c) := State.activate_tpt s i c

/-- A HELD tenant that meets the conditions of R103 has become ACTIVE. -/
def Tenant.tried (t : Tenant) (phase : Phase) (c : TenantCause) : Tenant :=
  if t.state = .held ∧ phase = .service ∧ t.link = true ∧ t.fit = some .fit then t.moved .active c else t

theorem State.readyForActive_iff (s : State) (i : Fin 4) : s.readyForActive i = true ↔
    (s.tpt.get i).state = .held ∧ s.spc.phase = .service ∧ (s.tpt.get i).link = true ∧ (s.tpt.get i).fit = some .fit := by
  simp [State.readyForActive, and_assoc]

theorem State.tryActive_tpt (s : State) (c : TenantCause) (i : Fin 4) :
    (s.tryActive c i).tpt = s.tpt.set i ((s.tpt.get i).tried s.spc.phase c) := by
  unfold State.tryActive Tenant.tried
  simp only [State.readyForActive_iff]
  split
  · exact State.activate_tpt' s i c
  · simp

/-- An ACTIVE or UNFIT tenant has become HELD (R105). -/
def Tenant.held (t : Tenant) (c : TenantCause) : Tenant :=
  if t.state = .active ∨ t.state = .unfit then t.moved .held c else t

theorem State.hold_tpt (s : State) (c : TenantCause) (i : Fin 4) :
    (s.hold c i).tpt = s.tpt.set i ((s.tpt.get i).held c) := by
  unfold State.hold Tenant.held
  split <;> simp_all [State.moveTenant_tpt']

theorem Tenant.held_not_carrying (t : Tenant) (c : TenantCause) : (t.held c).state ≠ .active ∧ (t.held c).state ≠ .unfit := by
  unfold Tenant.held
  split
  · simp [Tenant.moved]
  · next h => exact ⟨fun ha => h (.inl ha), fun hu => h (.inr hu)⟩

/-- A tenant barred (R106). -/
def Tenant.bar (t : Tenant) (c : TenantCause) : Tenant :=
  if t.state = .held ∨ t.state = .active ∨ t.state = .unfit then t.flush.moved .barred c else t

theorem State.bar_tpt (s : State) (i : Fin 4) (c : TenantCause) :
    (s.bar i c).tpt = s.tpt.set i ((s.tpt.get i).bar c) := by
  unfold State.bar Tenant.bar
  split <;> simp_all [State.moveTenant_tpt', Tenant.flush, Tenant.moved]

/-- A judgement of a tenant's fitness (R102, R104). -/
def Tenant.judged (t : Tenant) (c : TenantCause) (loop : LoopState) (u : Nat) : Tenant :=
  match t.entry with
  | none => t
  | some e =>
    if timingFit e loop u then
      if t.fit = some .lost then { t with fit := some .refit, refit := some Config.refitFrames, cause := c } else t
    else if t.fit = some .lost then t
    else
      let lost := { t with fit := some .lost, refit := none, cause := c }
      if t.state = .active then lost.moved .unfit c else lost

theorem State.judgeFitness_tpt (s : State) (c : TenantCause) (i : Fin 4) :
    (s.judgeFitness c i).tpt = s.tpt.set i ((s.tpt.get i).judged c s.dsu.loop s.dsu.u) := by
  unfold State.judgeFitness Tenant.judged
  cases he : (s.tpt.get i).entry with
  | none => simp [he]
  | some e =>
    simp only [he]
    split
    · split <;> simp [he]
    · split
      · simp
      · split
        · split <;> simp [State.moveTenant_tpt', Tenant.moved, he]
        · simp [he]

theorem State.handQuality_tpt (s : State) :
    s.handQuality.tpt = Four.of (fun i => (s.tpt.get i).judged .fitness s.dsu.loop s.dsu.u) :=
  State.forTenants_tpt (f := fun t i => t.judgeFitness .fitness i)
    (g := fun _ t => t.judged .fitness s.dsu.loop s.dsu.u) (fun t => t.dsu = s.dsu)
    (fun t i ht => ⟨by rw [State.judgeFitness_tpt, ht], by simpa using ht⟩) rfl

/-! ### Agreement after each operation -/

/-- The clauses of the tenants' invariant but the one that the loop decides. -/
def Tenant.settled (t : Tenant) (phase : Phase) : Prop :=
  t.permit = decide (t.state = .active)
    ∧ (t.state = .active ∨ t.state = .unfit → phase = .service ∧ t.link = true ∧ t.entry.isSome = true)
    ∧ (t.state = .active → t.fit = some .fit)
    ∧ (t.fit.isSome = true → t.entry.isSome = true)
    ∧ (t.refit.isSome = true → t.fit = some .refit)

theorem Tenant.consistent_iff (t : Tenant) (phase : Phase) (loop : LoopState) (u : Nat) : t.consistent phase loop u ↔
    t.settled phase ∧ ∀ e, t.entry = some e → t.fit = some .fit ∨ t.fit = some .refit → timingFit e loop u = true := by
  simp only [Tenant.consistent, Tenant.settled, and_assoc]

theorem Tenant.consistent.settled {t : Tenant} {phase : Phase} {loop : LoopState} {u : Nat}
    (h : t.consistent phase loop u) : t.settled phase := ((t.consistent_iff phase loop u).1 h).1

/-- A judgement brings the record into agreement with the loop, whatever the loop was before (R92, R102). -/
theorem Tenant.judged_consistent {t : Tenant} {phase : Phase} (h : t.settled phase) (c : TenantCause) (loop : LoopState)
    (u : Nat) : (t.judged c loop u).consistent phase loop u := by
  obtain ⟨hpermit, hstate, hfit, hentry, hrefit⟩ := h
  unfold Tenant.judged
  split
  · next he =>
    have hnone : t.fit = none := by
      cases hf : t.fit with
      | none => rfl
      | some f => simp [hf, he] at hentry
    refine ⟨hpermit, hstate, hfit, hentry, hrefit, fun e h => ?_⟩
    rw [he] at h
    cases h
  · next e he =>
    have same : ∀ {e'}, t.entry = some e' → e' = e := fun h' => Option.some.inj (h'.symm.trans he)
    split
    · next hgood =>
      split
      · next hlost =>
        have hna : t.state ≠ .active := fun ha => by simp [hfit ha] at hlost
        exact ⟨hpermit, hstate, fun ha => absurd ha hna, fun _ => by simp [he], fun _ => rfl,
          fun e' h' _ => (same h').symm ▸ hgood⟩
      · exact ⟨hpermit, hstate, hfit, hentry, hrefit, fun e' h' _ => (same h').symm ▸ hgood⟩
    · split
      · next hlost => exact ⟨hpermit, hstate, hfit, hentry, hrefit, fun e' _ h' => by simp [hlost] at h'⟩
      · split
        · next ha =>
          have hs := hstate (.inl ha)
          exact ⟨rfl, fun _ => hs, by simp [Tenant.moved], fun _ => by simp [Tenant.moved, he], by simp [Tenant.moved],
            by simp [Tenant.moved]⟩
        · next hna =>
          exact ⟨hpermit, hstate, fun ha => absurd ha hna, fun _ => by simp [he], by simp, by simp⟩

/-- A tenant that is not carrying agrees with every phase that it agreed with any. -/
theorem Tenant.consistent_of_phase {t : Tenant} {p q : Phase} {loop : LoopState} {u : Nat} (h : t.consistent p loop u)
    (hs : t.state ≠ .active ∧ t.state ≠ .unfit) : t.consistent q loop u := by
  obtain ⟨hpermit, -, hrest⟩ := h
  exact ⟨hpermit, fun hc => absurd hc (by simp [hs.1, hs.2]), hrest⟩

/-- A tenant may go to a state: ACTIVE and UNFIT only in SERVICE with its port up and an entry, ACTIVE only when FIT. -/
def Tenant.mayBe (t : Tenant) (phase : Phase) (st : TenantState) : Prop :=
  (st = .active ∨ st = .unfit → phase = .service ∧ t.link = true ∧ t.entry.isSome = true)
    ∧ (st = .active → t.fit = some .fit)

theorem Tenant.mayBe_of_not_carrying (t : Tenant) (phase : Phase) {st : TenantState} (ha : st ≠ .active) (hu : st ≠ .unfit) :
    t.mayBe phase st := by simp [Tenant.mayBe, ha, hu]

theorem Tenant.moved_consistent {t : Tenant} {phase : Phase} {loop : LoopState} {u : Nat} {st : TenantState}
    (h : t.consistent phase loop u) (hm : t.mayBe phase st) (c : TenantCause) :
    (t.moved st c).consistent phase loop u := by
  obtain ⟨-, -, -, hrest⟩ := h
  exact ⟨rfl, hm.1, hm.2, hrest⟩

theorem Tenant.held_consistent {t : Tenant} {phase : Phase} {loop : LoopState} {u : Nat}
    (h : t.consistent phase loop u) (c : TenantCause) : (t.held c).consistent phase loop u := by
  unfold Tenant.held
  split
  · exact Tenant.moved_consistent h (t.mayBe_of_not_carrying phase (by simp) (by simp)) c
  · exact h

theorem Tenant.consistent.mayBe_active {t : Tenant} {phase : Phase} {loop : LoopState} {u : Nat}
    (h : t.consistent phase loop u) (hphase : phase = .service) (hlink : t.link = true) (hfit : t.fit = some .fit) :
    t.mayBe phase .active := by
  obtain ⟨-, -, -, hentry, -⟩ := h
  exact ⟨fun _ => ⟨hphase, hlink, hentry (by simp [hfit])⟩, fun _ => hfit⟩

namespace State.InnerOf

variable {Q : View → Prop} {s t u : State}

/-! ### Within the relation -/

/-- A tenant changed, within its bounds. -/
theorem modTenant (h : InnerOf Q s t) {i : Fin 4} {f : Tenant → Tenant}
    (hb : (t.tpt.get i).bounded → (f (t.tpt.get i)).bounded) (hq : Q t.view → Q (t.modTenant i f).view) :
    InnerOf Q s (t.modTenant i f) := by
  have hports : t.portsBounded → (t.modTenant i f).portsBounded := fun hp j => by
    simp only [State.modTenant_tpt, Four.get_set]
    split
    · exact hb (hp i)
    · exact hp j
  exact h.changeOf { Change.refl (Q := Q) _ with tenants := hq, ports := hports }

/-- A tenant changed in nothing that the tenants' invariant reads. -/
theorem adjustTenant (h : InnerOf Q s t) {i : Fin 4} {f : Tenant → Tenant}
    (hb : (t.tpt.get i).bounded → (f (t.tpt.get i)).bounded)
    (hc : (f (t.tpt.get i)).core = (t.tpt.get i).core) : InnerOf Q s (t.modTenant i f) :=
  h.modTenant hb fun hq => by rwa [modTenant_view hc]

theorem tellTenant (h : InnerOf Q s t) (i : Fin 4) (c : TenantCause) : InnerOf Q s (t.tellTenant i c) :=
  (h.adjustTenant id (by rfl)).noteTenant i

theorem moveTenant_any (h : InnerOf View.any s t) (i : Fin 4) (st : TenantState) (c : TenantCause) :
    InnerOf View.any s (t.moveTenant i st c) :=
  ((h.modTenant id id).tellTenant i c).wantAlloc _

/-- The tenants' invariant after a change of one tenant that leaves the phase and the loop. -/
theorem consistent_of_tpt {i : Fin 4} {x : Tenant} (htpt : u.tpt = t.tpt.set i x) (hspc : u.spc = t.spc)
    (hdsu : u.dsu = t.dsu)
    (hx : (t.tpt.get i).consistent t.spc.phase t.dsu.loop t.dsu.u → x.consistent t.spc.phase t.dsu.loop t.dsu.u) :
    t.view.consistent → u.view.consistent := fun hc =>
  (tenantsConsistent_iff u).2 (tenantsConsistent_set ((tenantsConsistent_iff t).1 hc) htpt (by rw [hspc]) (by rw [hdsu])
    (by rw [hdsu]) (hx ((tenantsConsistent_iff t).1 hc i)))

theorem moveTenant (h : Inner s t) {i : Fin 4} {st : TenantState} (c : TenantCause)
    (hm : (t.tpt.get i).consistent t.spc.phase t.dsu.loop t.dsu.u → (t.tpt.get i).mayBe t.spc.phase st) :
    Inner s (t.moveTenant i st c) :=
  h.trans (((refl t).moveTenant_any i st c).ofAny
    (consistent_of_tpt (moveTenant_tpt' t i st c) (by simp) (by simp) fun hx => Tenant.moved_consistent hx (hm hx) c))

theorem activate (h : Inner s t) {i : Fin 4} (c : TenantCause)
    (hm : (t.tpt.get i).consistent t.spc.phase t.dsu.loop t.dsu.u → (t.tpt.get i).mayBe t.spc.phase .active) :
    Inner s (t.activate i c) :=
  (h.moveTenant c hm).clear (by simp only [rowHoldover]; omega)

theorem tryActive (h : Inner s t) (c : TenantCause) (i : Fin 4) : Inner s (t.tryActive c i) :=
  ite (fun hr => by
    obtain ⟨-, hphase, hlink, hfit⟩ := (readyForActive_iff t i).1 hr
    exact h.activate c fun hx => hx.mayBe_active hphase hlink hfit) (fun _ => h)

theorem hold_any (h : InnerOf View.any s t) (c : TenantCause) (i : Fin 4) : InnerOf View.any s (t.hold c i) := by
  unfold State.hold
  split
  · exact h.moveTenant_any i _ c
  · exact h.moveTenant_any i _ c
  · exact h
  · exact h
  · exact h

theorem hold (h : Inner s t) (c : TenantCause) (i : Fin 4) : Inner s (t.hold c i) :=
  h.trans (((refl t).hold_any c i).ofAny
    (consistent_of_tpt (hold_tpt t c i) (by simp) (by simp) fun hx => Tenant.held_consistent hx c))

theorem flush_bounded {x : Tenant} (h : x.bounded) : x.flush.bounded := ⟨Nat.zero_le _, h.2⟩

theorem bar (h : Inner s t) (i : Fin 4) (c : TenantCause) : Inner s (t.bar i c) := by
  unfold State.bar
  split
  case h_1 | h_2 | h_3 =>
    exact (h.adjustTenant flush_bounded (by rfl)).moveTenant c fun _ => Tenant.mayBe_of_not_carrying _ _ (by simp) (by simp)
  all_goals exact h

theorem unbar (h : Inner s t) (i : Fin 4) : Inner s (t.unbar i) := by
  unfold State.unbar
  split
  case h_1 =>
    exact (h.moveTenant _ fun _ => Tenant.mayBe_of_not_carrying _ _ (by simp) (by simp)).tryActive _ i
  all_goals exact h

theorem judgeFitness_any (h : InnerOf View.any s t) (c : TenantCause) (i : Fin 4) :
    InnerOf View.any s (t.judgeFitness c i) := by
  unfold State.judgeFitness
  dsimp only
  split
  · exact h
  · refine ite (fun _ => ite (fun _ => ?_) (fun _ => h)) (fun _ => ite (fun _ => h) (fun _ => ?_))
    · exact (h.modTenant id id).tellTenant i c
    · have hlost := ((h.modTenant (i := i) (f := fun t => { t with fit := some .lost, refit := none }) id id).tellTenant i c)
      exact ite (fun _ => ite (fun _ => (hlost.moveTenant_any i _ c).raiseNow (by simp only [rowHoldover]; omega) _)
        (fun _ => hlost.moveTenant_any i _ c)) (fun _ => hlost)

theorem judgeFitness (h : Inner s t) (c : TenantCause) (i : Fin 4) : Inner s (t.judgeFitness c i) :=
  h.trans (((refl t).judgeFitness_any c i).ofAny
    (consistent_of_tpt (judgeFitness_tpt t c i) (by simp) (by simp) fun hx => Tenant.judged_consistent hx.settled c _ _))

/-- The hand-over of the loop brings every tenant into agreement with it. -/
theorem handQuality_consistent (hs : ∀ i : Fin 4, (t.tpt.get i).settled t.spc.phase) : t.handQuality.tenantsConsistent := by
  intro i
  rw [show t.handQuality.spc = t.spc by simp, show t.handQuality.dsu = t.dsu by simp, handQuality_tpt, Four.get_of]
  exact Tenant.judged_consistent (hs i) _ _ _

theorem handQuality_any (h : InnerOf View.any s t) : InnerOf View.any s t.handQuality :=
  forTenants (fun _ i ht => ht.judgeFitness_any _ i) h

theorem handQuality (h : Inner s t) : Inner s t.handQuality :=
  forTenants (fun _ i ht => ht.judgeFitness _ i) h

theorem refitDone (h : Inner s t) (i : Fin 4) : Inner s (t.refitDone i) := by
  unfold State.refitDone
  refine ite (fun hrefit => ?_) (fun _ => h)
  have hfit : ∀ {p l n}, (t.tpt.get i).consistent p l n → (t.tpt.get i).fit = some .refit := fun hx => by
    obtain ⟨-, -, -, -, hr, -⟩ := hx
    exact hr hrefit
  have hdone : Inner s ((t.modTenant i (fun t => { t with refit := none, fit := some .fit })).tellTenant i .fitness) := by
    refine InnerOf.tellTenant (h.modTenant id ?_) i _
    refine consistent_of_tpt (modTenant_tpt t i _) rfl rfl fun hx => ?_
    have hrec := hfit hx
    obtain ⟨hpermit, hstate, hactive, hentry, -, htime⟩ := hx
    exact ⟨hpermit, hstate, fun _ => rfl, fun _ => hentry (by simp [hrec]), fun hn => by simp at hn,
      fun e he _ => htime e he (.inr hrec)⟩
  simp only
  split
  · next hunfit =>
    refine hdone.activate _ fun hx => ?_
    have hcarry := hx.2.1 (.inr hunfit)
    exact ⟨fun _ => hcarry, fun _ => by simp⟩
  all_goals exact hdone.tryActive _ i

theorem enterEntry (h : Inner s t) (i : Fin 4) (e : Entry) (n : Nat) (c : TenantCause) :
    Inner s (t.enterEntry i e n c) := by
  have hfit : Inner s ((t.modTenant i (fun t' => { t' with
      entry := some e, refit := none, thr := n, secDrops := 0
      fit := some (if timingFit e t.dsu.loop t.dsu.u then .fit else .lost) })).moveTenant i .held c) := by
    refine h.trans ((((refl t).modTenant id id).moveTenant_any i _ c).ofAny ?_)
    refine consistent_of_tpt (by rw [moveTenant_tpt', modTenant_tpt, Four.set_set]) (by simp) (by simp) fun _ => ?_
    simp only [Four.get_set_same, Tenant.moved]
    refine ⟨rfl, by simp, by simp, by simp, by simp, fun e' he' hf => ?_⟩
    simp only [Option.some.injEq] at he' hf
    subst he'
    by_contra hn
    simp [hn] at hf
  exact ite (fun _ => hfit) (fun _ => hfit.raiseNow (by simp only [rowPortDown]; omega) _)

theorem vacate (h : Inner s t) (i : Fin 4) : Inner s (t.vacate i) := by
  have hmove : Inner s ((t.modTenant i (fun t => { t.flush with
      entry := none, fit := none, refit := none, thr := 0, secDrops := 0 })).moveTenant i .vacant .tenantSet) := by
    refine h.trans ((((refl t).modTenant (fun hb => ⟨Nat.zero_le _, hb.2⟩) id).moveTenant_any i _ _).ofAny ?_)
    refine consistent_of_tpt (by rw [moveTenant_tpt', modTenant_tpt, Four.set_set]) (by simp) (by simp) fun _ => ?_
    simp only [Four.get_set_same, Tenant.moved]
    exact ⟨rfl, by simp, by simp, by simp, by simp, by simp⟩
  exact ((hmove.clear (by simp only [rowHoldover]; omega)).clear (by simp only [rowQueueDrop]; omega)).clear
    (by simp only [rowPortDown]; omega)

theorem replaceEntry (h : Inner s t) (i : Fin 4) (e : Entry) : Inner s (t.replaceEntry i e) := by
  have hjudge : Inner s ((t.modTenant i (fun t => { t with entry := some e })).judgeFitness .tenantSet i) := by
    refine h.trans ((((refl t).modTenant id id).judgeFitness_any _ i).ofAny ?_)
    refine consistent_of_tpt (by rw [judgeFitness_tpt, modTenant_tpt, Four.set_set]) (by simp) (by simp) fun hx => ?_
    simp only [Four.get_set_same]
    obtain ⟨hpermit, hstate, hactive, -, hrefit, -⟩ := hx
    refine Tenant.judged_consistent ?_ _ _ _
    exact ⟨hpermit, fun hc => ⟨(hstate hc).1, (hstate hc).2.1, rfl⟩, hactive, fun _ => rfl, hrefit⟩
  exact tryActive (ite (fun _ => hjudge) (fun _ => hjudge.clear (by simp only [rowHoldover]; omega))) _ i

theorem portLink (h : Inner s t) (i : Fin 4) (up : Bool) : Inner s (t.portLink i up) := by
  have hrow : rowPortDown i < 21 := by simp only [rowPortDown]; omega
  refine ite (fun _ => h) (fun _ => ite (fun _ => ?_) (fun _ => ?_))
  · have hlink : Inner s (t.modTenant i (fun t => { t with link := true })) :=
      h.modTenant id (consistent_of_tpt (modTenant_tpt t i _) rfl rfl fun hx => by
        obtain ⟨hpermit, hstate, hrest⟩ := hx
        exact ⟨hpermit, fun hc => ⟨(hstate hc).1, rfl, (hstate hc).2.2⟩, hrest⟩)
    exact ite (fun _ => ((hlink.clear hrow).tellTenant i _).tryActive _ i) (fun _ => hlink)
  · have hdown : InnerOf View.any t (t.modTenant i (fun t => { t with
        link := false, egress := []
        counts.egressDown := t.counts.egressDown + BitVec.ofNat 32 t.egress.length })) :=
      (refl t).modTenant (fun hb => ⟨hb.1, Nat.zero_le _⟩) id
    have hraise : ∀ (v : State) r d, (v.raiseNow r d).tpt = v.tpt := fun v r d => by simp
    refine h.trans (ite (fun _ => ?_) (fun hnone => ?_))
    · refine ((((hdown.raiseNow hrow _).tellTenant i _).hold_any _ i).ofAny ?_)
      refine consistent_of_tpt (by
        rw [hold_tpt, tellTenant_tpt, hraise, modTenant_tpt, Four.set_set, Four.set_set]) (by simp) (by simp) fun hx => ?_
      simp only [Four.get_set_same, Tenant.held]
      obtain ⟨hpermit, hstate, hactive, hentry, hrefit, htime⟩ := hx
      split
      · exact ⟨rfl, by simp [Tenant.moved], by simp [Tenant.moved], hentry, hrefit, htime⟩
      · next hn => exact ⟨hpermit, fun hc => absurd hc hn, hactive, hentry, hrefit, htime⟩
    · refine hdown.ofAny (consistent_of_tpt (modTenant_tpt t i _) rfl rfl fun hx => ?_)
      obtain ⟨hpermit, hstate, hrest⟩ := hx
      exact ⟨hpermit, fun hc => absurd (hstate hc).2.2 (by simpa using hnone), hrest⟩

theorem arrive (h : InnerOf Q s t) (i : Fin 4) (p : Bytes) : InnerOf Q s (t.arrive i p) := by
  refine ite (fun _ => h.adjustTenant id (by rfl)) (fun _ => ite (fun _ => h.adjustTenant id (by rfl)) (fun _ =>
    ite (fun hroom => h.adjustTenant (fun hb => ⟨?_, hb.2⟩) (by rfl)) (fun _ =>
    ite (fun _ => (h.adjustTenant id (by rfl)).raiseNow (by simp only [rowQueueDrop]; omega) _) (fun _ => h.adjustTenant id (by rfl)))))
  simpa [occupancy] using hroom

theorem dropSecond (h : InnerOf Q s t) (i : Fin 4) : InnerOf Q s (t.dropSecond i) := by
  unfold State.dropSecond
  dsimp only
  split
  · exact h
  · exact adjustTenant (ite (fun _ => h.clear (by simp only [rowQueueDrop]; omega)) (fun _ => h)) id (by rfl)

end State.InnerOf

end Sys2Proof.Machine
end

section
/-! PROOFS. The Share Allocator and the Self-Test Unit within the relation of the blocks' work. -/

namespace Sys2Proof.Machine

/-- The active run is the head of the queue, and has left QUEUED (R147). -/
theorem Stu.active_eq_some {x : Stu} {r : Run} (h : x.active = some r) : x.queue = r :: x.queue.tail ∧ r.state ≠ .queued := by
  unfold Stu.active at h
  split at h
  · next q qs hq =>
    split at h
    · cases h
    · next hn =>
      cases h
      exact ⟨by rw [hq, List.tail_cons], hn⟩
  · cases h

theorem Stu.active_queue {x : Stu} {r : Run} (h : x.active = some r) : x.queue = r :: x.queue.tail :=
  (Stu.active_eq_some h).1

theorem Stu.active_cons {x : Stu} {r : Run} {rs : List Run} (hq : x.queue = r :: rs) (hr : r.state ≠ .queued) :
    x.active = some r := by
  simp [Stu.active, hq, hr]

theorem Stu.active_empty {x : Stu} (hq : x.queue = []) : x.active = none := by simp [Stu.active, hq]

/-- A plan index with no run in the queue is none of the queue's. -/
theorem Stu.runOf_none {x : Stu} {i : Nat} (h : ¬ (x.runOf i).isSome = true) : i ∉ x.queue.map (·.idx) := by
  simpa [Stu.runOf] using h

namespace State.InnerOf

variable {Q : View → Prop} {s t u : State}

/-! ### The Share Allocator -/

theorem announce (h : InnerOf Q s t) (c : MapCounts) (p : Nat) : InnerOf Q s (t.announce c p) := noteMap (change h (by rfl)) _

theorem handNewest (h : InnerOf Q s t) (c : MapCounts) (p : Nat) (k : TriggerKind) :
    InnerOf Q s (t.handNewest c p k) :=
  ite (fun _ => ite (fun _ => change h (by rfl)) (fun _ => ite (fun _ => change h (by rfl)) (fun _ => h.announce c p))) (fun _ => change h (by rfl))

theorem computeShare (h : InnerOf Q s t) (a : Trigger) (o : ShareOut) : InnerOf Q s (t.computeShare a o) :=
  handNewest (change h (by rfl)) _ _ _

theorem testRequest (h : InnerOf Q s t) (n : Nat) : InnerOf Q s (t.testRequest n) := wantAlloc (change h (by rfl)) _

theorem testRelease (h : InnerOf Q s t) : InnerOf Q s t.testRelease := wantAlloc (change h (by rfl)) _

/-! ### The run queue -/

/-- The run at the head changed, its plan index kept. -/
theorem setHead (h : InnerOf Q s t) {q : Run} {qs : List Run} (hq : t.stu.queue = q :: qs) {r : Run}
    (hr : r.idx = q.idx) : InnerOf Q s (t.setActive r) :=
  h.changeOf { Change.refl _ with runs := runsBounded_of_sublist (by simp [State.setActive, hq, hr]) rfl }

theorem setActive (h : InnerOf Q s t) {q : Run} (hq : t.stu.active = some q) {r : Run} (hr : r.idx = q.idx) :
    InnerOf Q s (t.setActive r) := h.setHead (Stu.active_queue hq) hr

theorem requestRun (h : InnerOf Q s t) (i : Nat) (b : Bool) : InnerOf Q s (t.requestRun i b) := by
  unfold State.requestRun
  split
  · exact h
  · next e he =>
    refine ite (fun _ => ?_) (fun hnew => ?_)
    · have hidx : (t.stu.queue.map fun r => if r.idx = i then { r with round := r.round || b } else r).map (·.idx)
          = t.stu.queue.map (·.idx) := by
        rw [List.map_map]
        refine List.map_congr_left fun r _ => ?_
        dsimp only [Function.comp]
        split <;> rfl
      exact h.changeOf { Change.refl _ with runs := runsBounded_of_sublist (hidx ▸ List.Sublist.refl _) rfl }
    · refine h.changeOf { Change.refl _ with runs := fun hb => ?_ }
      rw [runsBounded_iff] at hb ⊢
      obtain ⟨hd, hb, hp⟩ := hb
      have hi : i < t.stu.plan.length := (List.getElem?_eq_some_iff.1 he).1
      refine ⟨?_, ?_, hp⟩
      · rw [List.map_append]
        exact hd.append (List.nodup_singleton _) (List.disjoint_singleton.2 (Stu.runOf_none hnew))
      · intro n hn
        rw [List.map_append, List.mem_append] at hn
        rcases hn with hn | hn
        · exact hb n hn
        · rw [List.mem_singleton.1 hn]
          exact hi.trans_le hp

theorem requestRound (h : InnerOf Q s t) : InnerOf Q s t.requestRound :=
  foldl _ (fun _ i _ ht => ht.requestRun i true) h

theorem dueSecond (h : InnerOf Q s t) (b : Bool) : InnerOf Q s (t.dueSecond b) :=
  ite (fun _ => foldl _ (fun _ i _ ht => ite (fun _ => requestRun (change ht (by rfl)) i false) (fun _ => change ht (by rfl))) h) (fun _ => h)

theorem removeRuns (h : InnerOf Q s t) (w : Run → Bool) : InnerOf Q s (t.removeRuns w) :=
  ite (fun _ => h) (fun _ => noteTest
    (h.changeOf { Change.refl _ with runs := runsBounded_of_sublist ((List.filter_sublist).map _) rfl }))

theorem settleOutcome (h : InnerOf Q s t) (r : Run) (o : RunOutcome) : InnerOf Q s (t.settleOutcome r o) := by
  cases o with
  | aborted => exact h
  | fail => exact ite (fun _ => raiseNow (change h (by rfl)) (by decide) _) (fun _ => change h (by rfl))
  | pass => exact ite (fun _ => clear (change h (by rfl)) (by decide)) (fun _ => change h (by rfl))

theorem logRun (h : InnerOf Q s t) (r : Run) (o : RunOutcome) (c : RunCause) : InnerOf Q s (t.logRun r o c) :=
  h.changeOf { Change.refl _ with log := fun _ => List.length_take_le _ _ }

theorem finishRun (h : InnerOf Q s t) (r : Run) (o : RunOutcome) (c : RunCause) : InnerOf Q s (t.finishRun r o c) :=
  noteTest (((h.logRun r o c).settleOutcome r o).changeOf
      { Change.refl _ with runs := runsBounded_of_sublist ((List.tail_sublist _).map _) rfl })

theorem giveBack (h : InnerOf Q s t) (r : Run) (c : RunCause) : InnerOf Q s (t.giveBack r c) := by
  have hkept : InnerOf Q s (if r.state = .starting then
      { t with stu.kept := t.stu.kept.filter (fun m => match m with
          | .testStart id _ _ => id ≠ r.id
          | _ => true) } else t) := ite (fun _ => change h (by rfl)) (fun _ => h)
  exact ite (fun _ => ite (fun _ => hkept) (fun _ => hkept.testRelease)) (fun _ => h)

theorem abortQuietly (h : InnerOf Q s t) (c : PhaseCause) (w : Run → Bool) : InnerOf Q s (t.abortQuietly c w) := by
  unfold State.abortQuietly
  split
  · exact ite (fun _ => (h.giveBack _ _).finishRun _ _ _) (fun _ => h)
  · exact h

theorem roundOver (h : InnerOf Q s t) (c : PhaseCause) : InnerOf Q s (t.roundOver c) :=
  (h.abortQuietly c _).removeRuns _

theorem stopRuns (h : InnerOf Q s t) (c : PhaseCause) : InnerOf Q s (t.stopRuns c) :=
  (h.abortQuietly c _).removeRuns _

/-! ### Link pattern runs and the checker -/

theorem grantGiven (h : InnerOf Q s t) : InnerOf Q s t.grantGiven := by
  unfold State.grantGiven
  split
  · next r hr => exact ite (fun _ => ((h.setActive hr (by rfl)).offer _).noteTest) (fun _ => h)
  · exact h

theorem mapTaken (h : InnerOf Q s t) (n : Nat) : InnerOf Q s (t.mapTaken n) := by
  unfold State.mapTaken
  split
  · next r hr => exact ite (fun _ => (h.setActive hr (by rfl)).noteTest) (fun _ => h)
  · exact h

theorem countFrame (h : InnerOf Q s t) : InnerOf Q s t.countFrame := by
  unfold State.countFrame
  split
  · next r hr =>
    refine ite (fun _ => h.setActive hr (by rfl)) (fun _ => ?_)
    split
    · exact h.setActive hr (by rfl)
    · exact h
  · exact h

theorem settleRelease (h : InnerOf Q s t) : InnerOf Q s t.settleRelease :=
  ite (fun _ => wantAlloc (change h (by rfl)) _) (fun _ => h)

theorem drainRun (h : InnerOf Q s t) : InnerOf Q s t.drainRun := by
  unfold State.drainRun
  split
  · next r hr => exact ite (fun _ => (h.setActive hr (by rfl)).testRelease.noteTest) (fun _ => h.settleRelease)
  · exact h.settleRelease

theorem takeReport (h : InnerOf Q s t) (a b c : Nat) : InnerOf Q s (t.takeReport a b c) := by
  unfold State.takeReport
  split
  · next r hr => exact ite (fun _ => h.setActive hr (by rfl)) (fun _ => change h (by rfl))
  · exact change h (by rfl)

theorem armChecker (h : InnerOf Q s t) (a : Nat) (m : Bytes) (b : Nat) : InnerOf Q s (t.armChecker a m b) := change h (by rfl)

theorem checkerWindow (h : InnerOf Q s t) : InnerOf Q s t.checkerWindow := by
  unfold State.checkerWindow
  refine ite (fun _ => ite (fun _ => offer ?_ _) (fun _ => change h (by rfl))) (fun _ => h)
  split
  · exact change h (by rfl)
  · exact change h (by rfl)

end State.InnerOf

end Sys2Proof.Machine
end

section
/-! PROOFS. The Reference Monitor, the Discipline Unit, the Link Adaptation Unit and the Thermal Limiter within the relation
of the blocks' work: the loop's values stay in range, and each move of the loop is followed by a judgement of the tenants. -/

namespace Sys2Proof.Machine

/-! ### The loop's values -/

/-- The loop's values are in range and site time has its form (R79, R86, R87). -/
def Dsu.bounded (d : Dsu) : Prop :=
  pptOk d.c ∧ pptOk d.i ∧ d.ring.length ≤ 64 ∧ (∀ x ∈ d.ring, pptOk x) ∧ d.time.ns < 1000000000 ∧ d.residue < partsPerNs

theorem State.loopBounded_iff (s : State) : s.loopBounded ↔ s.dsu.bounded := Iff.rfl

theorem pptOk_clampPpt (x : Int) : pptOk (clampPpt x) := clampInt_mem _ _ x (by decide)

theorem pptOk_neg {x : Int} (h : pptOk x) : pptOk (-x) := by
  obtain ⟨hlo, hhi⟩ := h
  constructor <;> omega

/-- A sum of values in range is in as many ranges. -/
theorem sum_of_pptOk {l : List Int} (h : ∀ x ∈ l, pptOk x) :
    -Config.ppmLimit * l.length ≤ l.sum ∧ l.sum ≤ Config.ppmLimit * l.length := by
  induction l with
  | nil => simp
  | cons x xs ih =>
    obtain ⟨hlo, hhi⟩ := h x List.mem_cons_self
    obtain ⟨ilo, ihi⟩ := ih fun y hy => h y (List.mem_cons_of_mem x hy)
    rw [List.sum_cons, List.length_cons, Nat.cast_succ, mul_add, mul_add, mul_one, mul_one]
    constructor <;> omega

/-- The mean of values in range is in range (R88). -/
theorem Dsu.ringMean_pptOk {d : Dsu} (h : ∀ x ∈ d.ring, pptOk x) : pptOk d.ringMean := by
  cases hr : d.ring with
  | nil => simp [Dsu.ringMean, hr, roundDiv, pptOk, Config.ppmLimit]
  | cons x xs =>
    have hn : 0 < d.ring.length := by simp [hr]
    obtain ⟨hlo, hhi⟩ := sum_of_pptOk h
    obtain ⟨nlo, nhi⟩ := roundDiv_near d.ring.sum d.ring.length hn
    have hn' : (0 : Int) < d.ring.length := by exact_mod_cast hn
    constructor
    · by_contra hc
      have : (d.ringMean + 1) * d.ring.length ≤ -Config.ppmLimit * d.ring.length :=
        mul_le_mul_of_nonneg_right (by simp only [Dsu.ringMean] at hc ⊢; omega) hn'.le
      rw [add_mul, one_mul] at this
      simp only [Dsu.ringMean] at this
      omega
    · by_contra hc
      have : (Config.ppmLimit + 1) * d.ring.length ≤ d.ringMean * d.ring.length :=
        mul_le_mul_of_nonneg_right (by simp only [Dsu.ringMean] at hc ⊢; omega) hn'.le
      rw [add_mul, one_mul] at this
      simp only [Dsu.ringMean] at this
      omega

theorem Dsu.update_bounded {d : Dsu} (h : d.bounded) (e : Int) : (d.update e).bounded := by
  obtain ⟨-, -, hrest⟩ := h
  exact ⟨pptOk_clampPpt _, pptOk_clampPpt _, hrest⟩

theorem Dsu.writeRing_bounded {d : Dsu} (h : d.bounded) : d.writeRing.bounded := by
  obtain ⟨hc, hi, hlen, hring, hrest⟩ := h
  refine ⟨hc, hi, ?_, fun x hx => ?_, hrest⟩
  · simp only [Dsu.writeRing]
    split <;> simp only [List.length_append, List.length_drop, List.length_singleton] <;> omega
  · rcases List.mem_append.1 hx with hx | hx
    · split at hx
      · exact hring x hx
      · exact hring x (List.mem_of_mem_drop hx)
    · rw [List.mem_singleton.1 hx]
      exact hc

theorem Dsu.age_bounded {d : Dsu} (h : d.bounded) : d.age.bounded := by
  unfold Dsu.age
  split
  · exact h
  · exact h

theorem Dsu.moveTo_bounded {d : Dsu} (h : d.bounded) (st : LoopState) : (d.moveTo st).bounded := by
  cases st with
  | holdover =>
    obtain ⟨-, -, hlen, hring, hrest⟩ := h
    have hm := Dsu.ringMean_pptOk hring
    exact ⟨hm, pptOk_neg hm, hlen, hring, hrest⟩
  | track | free | acquire => exact h

theorem Dsu.advance_bounded {d : Dsu} (h : d.bounded) : d.advance.bounded := by
  obtain ⟨hc, hi, hlen, hring, -⟩ := h
  refine ⟨hc, hi, hlen, hring, timeAdd_ns_lt _ _, ?_⟩
  simp only [Dsu.advance, partsPerNs]
  omega

/-! ### The tenants while the loop moves -/

/-- The tenants agree with the phase, whatever the loop is. -/
def View.settled (v : View) : Prop := ∀ i : Fin 4, (v.tpt.get i).settled v.phase

theorem View.consistent.settled {v : View} (h : v.consistent) : v.settled := fun i => (h i).settled

theorem State.settled_iff (s : State) : s.view.settled ↔ ∀ i : Fin 4, (s.tpt.get i).settled s.spc.phase :=
  forall_congr' fun i => by simp only [State.view, Four.get_of]; rfl

/-- What is asked of the tenants lies between agreement with the phase and agreement with the loop too. -/
def View.Between (Q : View → Prop) : Prop := (∀ v, v.consistent → Q v) ∧ ∀ v, Q v → v.settled

theorem View.between_consistent : View.Between View.consistent := ⟨fun _ => id, fun _ => View.consistent.settled⟩

theorem View.between_settled : View.Between View.settled := ⟨fun _ => View.consistent.settled, fun _ => id⟩

namespace State.InnerOf

variable {Q : View → Prop} {s t u : State}

/-- The loop handed over: tenants that agreed with the phase agree with the loop too. -/
theorem handQuality_settled (h : InnerOf View.settled t u) : Inner t u.handQuality :=
  h.toAny.handQuality_any.ofAny fun hc =>
    (tenantsConsistent_iff _).2 (handQuality_consistent ((settled_iff u).1 (h.tenants (View.consistent.settled hc))))

theorem moveLoop (h : InnerOf Q s t) (hQ : View.Between Q) (st : LoopState) (c : TimeCause) :
    InnerOf Q s (t.moveLoop st c) := by
  have hdsu : InnerOf View.any t { t with
      dsu := { t.dsu.moveTo st with acq := 0, trk := 0, left := t.dsu.loop, cause := c, landing := none } } :=
    (refl t).changeOf 
      { Change.refl (Q := View.any) _ with loop := fun hl => Dsu.moveTo_bounded hl st, tenants := id }
  refine noteTime (h.trans (hdsu.handQuality_any.ofAny fun hq => hQ.1 _ ((tenantsConsistent_iff _).2 ?_)))
  exact handQuality_consistent ((settled_iff t).1 (hQ.2 _ hq))

theorem loopOnSelection (h : Inner s t) (a b : Option Ref) : Inner s (t.loopOnSelection a b) := by
  unfold State.loopOnSelection
  split
  · exact ite (fun _ => h.moveLoop View.between_consistent _ _) (fun _ => h)
  · exact ite (fun _ => h.moveLoop View.between_consistent _ _) (fun _ => h)
  · exact h

theorem acquireReport (h : InnerOf View.settled s t) (e : Int) : InnerOf View.settled s (t.acquireReport e) := by
  have hup : InnerOf View.settled s { t with dsu := t.dsu.update e } :=
    h.changeOf { Change.refl _ with loop := fun hl => Dsu.update_bounded hl e }
  exact ite (fun _ => change h (by rfl)) (fun _ => ite (fun _ => hup.moveLoop View.between_settled _ _) (fun _ => change hup (by rfl)))

theorem trackReport (h : InnerOf View.settled s t) (e : Int) : InnerOf View.settled s (t.trackReport e) :=
  ite (fun _ => ite (fun _ => (h.moveLoop View.between_settled _ _).acquireReport e)
      (fun _ => h.changeOf { Change.refl _ with loop := fun hl => Dsu.writeRing_bounded (Dsu.update_bounded hl _) }))
    (fun _ => h.changeOf { Change.refl _ with loop := fun hl => Dsu.writeRing_bounded (Dsu.update_bounded hl _) })

theorem ageLoop (h : InnerOf View.settled s t) : InnerOf View.settled s { t with dsu := t.dsu.age } :=
  h.changeOf { Change.refl (Q := View.settled) _ with loop := Dsu.age_bounded, tenants := id }

theorem takeSecondReport (h : InnerOf View.settled s t) (r : Report) : InnerOf View.settled s (t.takeSecondReport r) := by
  have hr : InnerOf View.settled s { t with dsu.report := some r } := change h (by rfl)
  unfold State.takeSecondReport
  dsimp only
  split
  · exact hr.acquireReport _
  · exact hr.trackReport _
  · exact hr.ageLoop
  · exact hr

/-! ### References -/

theorem setRef (h : InnerOf Q s t) (r : Ref) (x : RefState) : InnerOf Q s (t.setRef r x) :=
  ite (fun _ => change h (by rfl)) (fun _ => noteRef (change h (by rfl)) r)

theorem select (h : Inner s t) (n : Option Ref) : Inner s (t.select n) := by
  refine ite (fun _ => h) (fun _ => loopOnSelection (noteRef (noteRef ?_ _) _) _ _)
  split
  · exact raiseNow (change h (by rfl)) (by decide) _
  · exact clear (change h (by rfl)) (by decide)
  · exact change h (by rfl)

theorem updateSelection (h : Inner s t) : Inner s t.updateSelection := by
  unfold State.updateSelection
  split
  · exact ite (fun _ => h) (fun _ => h.select _)
  · exact h.select _

theorem refDown (h : Inner s t) (r : Ref) : Inner s (t.refDown r) := by
  unfold State.refDown
  split
  case h_1 | h_2 => exact (h.setRef r _).updateSelection
  all_goals exact h

theorem judgeRef (h : Inner s t) (r : Ref) (v : Verdict) : Inner s (t.judgeRef r v) :=
  ite (fun _ => (h.setRef r _).select _) (fun _ => (h.setRef r _).updateSelection)

theorem closeWindow (h : InnerOf Q s t) : InnerOf Q s t.closeWindow := ite (fun _ => h) (fun _ => change h (by rfl))

theorem rollWindow (h : InnerOf Q s t) (n : Nat) : InnerOf Q s (t.rollWindow n) := ite (fun _ => h.closeWindow) (fun _ => h)

theorem judgeG (h : Inner s t) : Inner s t.judgeG := by
  unfold State.judgeG
  split
  · exact h
  · exact judgeRef (change h (by rfl)) _ _

theorem judgeL (h : Inner s t) : Inner s t.judgeL := ite (fun _ => judgeRef (change h (by rfl)) _ _) (fun _ => h)

theorem markHeader (h : InnerOf Q s t) (x : Header) (a : SiteTime) : InnerOf Q s (t.markHeader x a) :=
  ite (fun _ => change h (by rfl)) (fun _ => ite (fun _ => h) (fun _ => change h (by rfl)))

theorem startSecondL (h : InnerOf Q s t) : InnerOf Q s t.startSecondL := change h (by rfl)

/-! ### The wish and the Thermal Limiter -/

theorem setWish (h : InnerOf Q s t) (w : Nat) : InnerOf Q s (t.setWish w) := ite (fun _ => h) (fun _ => noteProfile (change h (by rfl)))

theorem floorWindow (h : InnerOf Q s t) (a : Nat) : InnerOf Q s (t.floorWindow a) :=
  ite (fun _ => ite (fun _ => ite (fun _ => raiseNow (change h (by rfl)) (by decide) _) (fun _ => change h (by rfl)))
    (fun _ => clear (change h (by rfl)) (by decide))) (fun _ => h)

theorem marginWindow (h : InnerOf Q s t) : InnerOf Q s t.marginWindow :=
  ite (fun _ => ite (fun _ => floorWindow (change h (by rfl)) _) (fun _ => setWish (floorWindow (change h (by rfl)) _) _)) (fun _ => h)

theorem rxProfileChanged (h : InnerOf Q s t) (p : Nat) : InnerOf Q s (t.rxProfileChanged p) :=
  noteProfile (ite (fun _ => clear (change h (by rfl)) (by decide)) (fun _ => change h (by rfl)))

theorem adaptDown (h : InnerOf Q s t) : InnerOf Q s t.adaptDown := setWish (clear (change h (by rfl)) (by decide)) _

theorem adaptUp (h : InnerOf Q s t) (b : Bool) : InnerOf Q s (t.adaptUp b) := by
  have hwin : InnerOf Q s (if b then { t with lau.winOn := true, lau.winSlots := 0, lau.winSum := 0 } else t) :=
    ite (fun _ => change h (by rfl)) (fun _ => h)
  unfold State.adaptUp
  dsimp only
  split
  · exact hwin.setWish _
  · exact hwin

theorem setFix (h : InnerOf Q s t) (v : Option Nat) : InnerOf Q s (t.setFix v) :=
  ite (fun _ => h) (fun _ => noteProfile (change h (by rfl)))

theorem settleFailSafe (h : InnerOf Q s t) (x : Tlm) : InnerOf Q s (t.settleFailSafe x) :=
  ite (fun _ => h.raiseNow (by decide) _) (fun _ => ite (fun _ => h.clear (by decide)) (fun _ => h))

theorem thermalSettle (h : InnerOf Q s t) (x : Tlm) : InnerOf Q s (t.thermalSettle x) := by
  have hnote : ∀ {c : Prop} [Decidable c], InnerOf Q s (if c then
      ({ t with tlm := { t.tlm with level := t.tlm.levelNow } } : State).noteThermal else
      { t with tlm := { t.tlm with level := t.tlm.levelNow } }) :=
    fun {c} _ => ite (fun _ => noteThermal (change h (by rfl))) (fun _ => change h (by rfl))
  exact ite (fun _ => hnote.recomputeCeiling.raiseNow (by decide) _)
    (fun _ => ite (fun _ => hnote.recomputeCeiling.clear (by decide)) (fun _ => hnote.recomputeCeiling))

theorem gate (h : InnerOf Q s t) (n : Nat) : InnerOf Q s (t.gate n) :=
  thermalSettle (change (settleFailSafe (t := { t with tlm := (t.tlm.takeGate n).failGate }) (change h (by rfl)) t.tlm) (by rfl)) _

theorem hotTaken (h : InnerOf Q s t) (b : Bool) : InnerOf Q s (t.hotTaken b) :=
  ite (fun _ => thermalSettle (change h (by rfl)) _) (fun _ => h)

theorem thermalForce (h : InnerOf Q s t) (x : ThermalSet) (b : Bool) : InnerOf Q s (t.thermalForce x b) :=
  thermalSettle (settleFailSafe (ite (fun _ => change (change h (by rfl)) (by rfl)) (fun _ => change h (by rfl))) _) _

end State.InnerOf

end Sys2Proof.Machine
end

section
/-! PROOFS. The Site Phase Controller and the work of an event within the relation of the blocks' work. -/

namespace Sys2Proof.Machine

/-- What leaving a phase makes of the tenants (R105). -/
theorem State.leaveEffects_tpt (s : State) (old p : Phase) (c : PhaseCause) : (s.leaveEffects old p c).tpt =
    if old = .service then Four.of (fun i => (s.tpt.get i).held .phase) else s.tpt := by
  cases old with
  | service =>
    exact (by simp [State.leaveEffects] : _ = (s.forTenants (fun s i => s.hold .phase i)).tpt).trans
      (State.forTenants_tpt (g := fun _ t => t.held .phase) (fun _ => True) (fun t i _ => ⟨State.hold_tpt t _ i, trivial⟩)
        trivial)
  | prove => unfold State.leaveEffects; dsimp only; split <;> simp
  | load | align | seek | recover | halt => rfl

theorem State.movePhase_tpt (s : State) (p : Phase) (c : PhaseCause) (v : ProveState) (n : Nat) :
    (s.movePhase p c v n).tpt =
      if s.spc.phase = .service then Four.of (fun i => (s.tpt.get i).held .phase) else s.tpt := by
  unfold State.movePhase
  dsimp only
  rw [State.leaveEffects_tpt]
  by_cases ha : s.spc.phase = .align <;> simp [ha]

/-- The phase record after a move (R3, R19). -/
theorem State.movePhase_spc (s : State) (p : Phase) (c : PhaseCause) (v : ProveState) (n : Nat) :
    (s.movePhase p c v n).spc = { s.spc with
      phase := p, left := s.spc.phase, cause := c, prove := .idle, roundNo := 0, retry := none, recover := none
      winSlots := 0, winSum := 0, led := false } := by
  unfold State.movePhase
  dsimp only
  rw [(State.leaveEffects_frame _ _ _ _).2.2.1]
  split <;> simp

/-- A move takes the tenants out of what only SERVICE allows (R105). -/
theorem State.movePhase_consistent (s : State) (p : Phase) (c : PhaseCause) (v : ProveState) (n : Nat)
    (h : s.tenantsConsistent) : (s.movePhase p c v n).tenantsConsistent := by
  intro i
  rw [State.movePhase_tpt, State.movePhase_spc, (State.movePhase_frame s p c v n).2.2.2.2.2.1]
  split
  · rw [Four.get_of]
    exact Tenant.consistent_of_phase (Tenant.held_consistent (h i) _) (Tenant.held_not_carrying _ _)
  · next hp =>
    refine Tenant.consistent_of_phase (h i) ?_
    obtain ⟨-, hs, -⟩ := h i
    exact ⟨fun ha => hp (hs (.inl ha)).1, fun hu => hp (hs (.inr hu)).1⟩

/-- One tenant from another by its data alone: its standing is the same, and its queue and buffer keep their bounds. -/
def Tenant.dataOnly (t u : Tenant) : Prop := u.core = t.core ∧ (t.bounded → u.bounded)

theorem Tenant.dataOnly.refl (t : Tenant) : t.dataOnly t := ⟨rfl, id⟩

theorem Tenant.dataOnly.trans {t u v : Tenant} (h : t.dataOnly u) (g : u.dataOnly v) : t.dataOnly v :=
  ⟨g.1.trans h.1, g.2 ∘ h.2⟩

theorem Tenant.gap_dataOnly (t : Tenant) : t.dataOnly t.gap := by
  unfold Tenant.gap
  split <;> exact ⟨rfl, id⟩

namespace State.InnerOf

variable {Q : View → Prop} {s t u : State}

/-! ### Moves between phases -/

theorem leaveEffects (h : InnerOf View.any s t) (old p : Phase) (c : PhaseCause) :
    InnerOf View.any s (t.leaveEffects old p c) := by
  cases old with
  | prove => exact clear (ite (fun _ => h.roundOver c) (fun _ => h.stopRuns c)) (by decide)
  | service => exact (forTenants (fun _ i ht => ht.hold_any _ i) h).stopRuns c
  | load | align | seek | recover | halt => exact h

theorem movePhase_any (h : InnerOf View.any s t) (p : Phase) (c : PhaseCause) (v : ProveState) (n : Nat) :
    InnerOf View.any s (t.movePhase p c v n) := by
  have hnote : InnerOf View.any s (if t.spc.phase = .align then t.noteAlign else t) := ite (fun _ => h.noteAlign) (fun _ => h)
  unfold State.movePhase
  dsimp only
  refine leaveEffects (notify ?_ (by decide)) _ _ _
  generalize (if t.spc.phase = .align then t.noteAlign else t) = w at hnote
  exact hnote.changeOf { Change.refl (Q := View.any) _ with tenants := id }

theorem movePhase (h : Inner s t) (p : Phase) (c : PhaseCause) (v : ProveState) (n : Nat) :
    Inner s (t.movePhase p c v n) :=
  h.trans (((refl t).movePhase_any p c v n).ofAny fun hc =>
    (tenantsConsistent_iff _).2 (movePhase_consistent t p c v n ((tenantsConsistent_iff t).1 hc)))

theorem enterService (h : Inner s t) (c : PhaseCause) (v : ProveState) (n : Nat) : Inner s (t.enterService c v n) :=
  forTenants (fun _ i ht => ht.tryActive _ i) (h.movePhase _ _ _ _)

theorem enterProve (h : Inner s t) (c : PhaseCause) : Inner s (t.enterProve c) :=
  ite (fun _ => (h.movePhase _ _ _ _).enterService _ _ _) (fun _ => requestRound (change (h.movePhase .prove c .round 1) (by rfl)))

theorem enterSeek (h : Inner s t) (c : PhaseCause) : Inner s (t.enterSeek c) := h.movePhase _ _ _ _

theorem enterRecover (h : Inner s t) : Inner s t.enterRecover := change (h.movePhase .recover .linkDown .idle 0) (by rfl)

theorem stopRead (h : InnerOf Q s t) : InnerOf Q s t.stopRead := ite (fun _ => noteImage (change h (by rfl))) (fun _ => h)

theorem enterHalt (h : Inner s t) (c : PhaseCause) : Inner s (t.enterHalt c) :=
  ite (fun _ => (h.movePhase _ _ _ _).stopRead) (fun _ => noteLink (change (h.movePhase .halt c .idle 0) (by rfl)))

theorem leaveAlign (h : Inner s t) (c : PhaseCause) : Inner s (t.leaveAlign c) :=
  ite (fun _ => (h.enterSeek c).enterProve c) (fun _ => h.enterSeek c)

theorem alignWindow (h : Inner s t) : Inner s t.alignWindow := by
  unfold State.alignWindow
  refine ite (fun _ => ?_) (fun _ => h)
  split
  · exact ite (fun _ => leaveAlign (change h (by rfl)) _) (fun _ => change h (by rfl))
  · exact h

/-! ### Rounds and the ends of runs -/

theorem roundPassed (h : Inner s t) : Inner s t.roundPassed := ite (fun _ => h.enterService _ _ _) (fun _ => h)

theorem roundFailed (h : InnerOf Q s t) (i : Nat) : InnerOf Q s (t.roundFailed i) :=
  ite (fun _ => ite (fun _ => notify (change h (by rfl)) (by decide)) (fun _ => raiseNow (notify (change h (by rfl)) (by decide)) (by decide) _))
    (fun _ => h)

theorem endRun (h : Inner s t) (r : Run) (o : RunOutcome) (c : RunCause) : Inner s (t.endRun r o c) := by
  have hf := h.finishRun r o c
  exact ite (fun _ => ite (fun _ => ite (fun _ => hf) (fun _ => hf.noteTest.roundPassed))
    (fun _ => (hf.removeRuns _).noteTest.roundFailed _)) (fun _ => hf)

theorem abortRun (h : Inner s t) (r : Run) (c : RunCause) : Inner s (t.abortRun r c) := (h.giveBack r c).endRun _ _ _

theorem abortGranted (h : Inner s t) (c : RunCause) : Inner s (t.abortGranted c) := by
  unfold State.abortGranted
  dsimp only
  split
  · exact ite (fun _ => h.settleRelease.abortRun _ c) (fun _ => h.settleRelease)
  · exact h.settleRelease

theorem retryDone (h : InnerOf Q s t) : InnerOf Q s t.retryDone := ite (fun _ => requestRound (change h (by rfl))) (fun _ => h)

theorem recoverDone (h : Inner s t) : Inner s t.recoverDone := ite (fun _ => h.enterSeek _) (fun _ => h)

/-! ### The receive framer's DOWN and restart -/

/-- Every tenant changed in its data alone. -/
theorem dataTenants (h : InnerOf Q s t) {x : Four Tenant} (hx : ∀ i, (t.tpt.get i).dataOnly (x.get i))
    (hu : u = { t with tpt := x }) : InnerOf Q s u := by
  subst hu
  refine h.changeOf { Change.refl (Q := Q) _ with tenants := ?_, ports := fun hp i => (hx i).2 (hp i) }
  simp only [State.view, (hx _).1, imp_self]

theorem dropPeer (h : InnerOf Q s t) : InnerOf Q s t.dropPeer :=
  noteMap (change (h.dataTenants (fun i => by rw [Four.get_of]; exact Tenant.gap_dataOnly _) rfl) (by rfl)) _

theorem raiseLinkLoss (h : InnerOf Q s t) : InnerOf Q s t.raiseLinkLoss :=
  ite (fun _ => h.raiseNow (by decide) _) (fun _ => h)

theorem phaseDown (h : Inner s t) : Inner s t.phaseDown := by
  unfold State.phaseDown
  split
  · exact h.enterSeek _
  · exact h.enterRecover
  all_goals exact h

theorem testDown (h : Inner s t) : Inner s t.testDown := by
  have hrun : Inner s (match t.settleRelease.stu.active with
      | some r => if r.entry.kind = .linkPattern then t.settleRelease.abortRun r .linkDown else t.settleRelease
      | none => t.settleRelease) := by
    split
    · exact ite (fun _ => h.settleRelease.abortRun _ _) (fun _ => h.settleRelease)
    · exact h.settleRelease
  exact change hrun (by rfl)

theorem rxDown (h : Inner s t) : Inner s t.rxDown := by
  have hdown := h.dropPeer.noteLink.raiseLinkLoss.adaptDown
  have hprof := ite (c := t.lfr.rx.prof = 0) (fun _ => hdown) (fun _ => hdown.noteProfile)
  have href := refDown (change hprof (u := { (if t.lfr.rx.prof = 0 then _ else _ : State) with rfm.sec.framerOk := false }) (by rfl)) .l
  exact noteLink (change href.phaseDown.testDown (by rfl))

theorem restartRx (h : Inner s t) : Inner s t.restartRx := by
  unfold State.restartRx
  split
  case h_1 | h_2 | h_3 => exact h.rxDown
  · exact noteLink (change h (by rfl))
  all_goals exact h

theorem reseek (h : Inner s t) (c : PhaseCause) : Inner s (t.reseek c) := by
  have hr : Inner s ({ t.enterSeek c with work.phase := none } : State).restartRx := restartRx (change (h.enterSeek c) (by rfl))
  unfold State.reseek
  exact change hr (by rfl)

theorem rxUp (h : Inner s t) (b : Bool) : Inner s (t.rxUp b) := by
  have hup : Inner s ((t.clear rowLinkLoss).adaptUp b) := (h.clear (by decide)).adaptUp b
  unfold State.rxUp
  dsimp only
  split
  · exact hup.enterProve _
  · exact hup.enterService _ _ _
  all_goals exact hup

/-! ### The work left in an event -/

theorem act (h : Inner s t) (a : Action) : Inner s (t.act a) := by
  cases a with
  | bar i => exact h.bar i _
  | reseek => exact ite (fun _ => h.reseek _) (fun _ => h)
  | halt => exact ite (fun _ => h) (fun _ => h.enterHalt _)

theorem startRun (h : Inner s t) : Inner s t.startRun := by
  unfold State.startRun
  split
  · exact h
  · next r rs hq =>
    refine ite (fun _ => ?_) (fun _ => h)
    split
    · exact ((h.setHead hq (by rfl)).testRequest _).noteTest
    · exact (h.setHead hq (by rfl)).noteTest
    · exact (h.setHead hq (by rfl)).noteTest.endRun _ _ _

theorem revokeRun (h : Inner s t) (r : Run) : Inner s (t.revokeRun r) := abortRun (change h (by rfl)) r _

theorem compute (h : Inner s t) (a : Trigger) : Inner s (t.compute a) := by
  have hc := h.computeShare a (share t.shareIn)
  unfold State.compute
  refine ite (fun _ => hc.grantGiven) (fun _ => ite (fun _ => ?_) (fun _ => hc))
  split
  · exact hc.revokeRun _
  · exact hc

theorem actStep (h : Inner s t) : Inner s t.actStep := by
  unfold State.actStep
  split
  · exact act (change h (by rfl)) _
  · exact ite (fun _ => startRun (change h (by rfl))) (fun _ => h)

theorem workStep (h : Inner s t) : Inner s t.workStep := by
  unfold State.workStep
  refine ite (fun _ => ?_) (fun _ => h.actStep)
  split
  · exact compute (change h (by rfl)) _
  · exact h

theorem doWork (n : Nat) (h : Inner s t) : Inner s (State.doWork n t) := by
  induction n generalizing t with
  | zero => exact h
  | succ n ih => exact ih h.workStep

theorem doActs (n : Nat) (h : Inner s t) : Inner s (State.doActs n t) := by
  induction n generalizing t with
  | zero => exact h
  | succ n ih => exact ih h.actStep

theorem finishWork (h : Inner s t) : Inner s t.finishWork := by
  have hw := h.doWork 48
  unfold State.finishWork
  generalize State.doWork 48 t = w at hw
  exact change hw (by rfl)

end State.InnerOf

end Sys2Proof.Machine
end

section
/-! PROOFS. The receive side of the Link Framer within the relation of the blocks' work. -/

namespace Sys2Proof.Machine

/-! ### Reassembly keeps the tenant's bounds (R114) -/

theorem Tenant.deliver_dataOnly (t : Tenant) (p : Bytes) : t.dataOnly (t.deliver p) := by
  unfold Tenant.deliver
  split
  · exact ⟨rfl, id⟩
  · split
    · exact ⟨rfl, id⟩
    · split
      · next hroom => exact ⟨rfl, fun hb => ⟨hb.1, by simpa [occupancy] using hroom⟩⟩
      · exact ⟨rfl, id⟩

theorem Tenant.foldl_deliver_dataOnly (l : List Bytes) (t : Tenant) : t.dataOnly (l.foldl Tenant.deliver t) := by
  induction l generalizing t with
  | nil => exact ⟨rfl, id⟩
  | cons p ps ih => exact (t.deliver_dataOnly p).trans (ih _)

theorem Tenant.takeReading_dataOnly (t : Tenant) (r : Reading) : t.dataOnly (t.takeReading r) := by
  unfold Tenant.takeReading
  dsimp only
  split
  · exact t.foldl_deliver_dataOnly r.packets
  · exact t.foldl_deliver_dataOnly r.packets

theorem Tenant.readFrom_dataOnly (t : Tenant) (b : Bytes) : t.dataOnly (t.readFrom b) :=
  t.takeReading_dataOnly (readStream [] b [])

theorem Tenant.block_dataOnly (t : Tenant) (b : Bytes) (k : Option Nat) : t.dataOnly (t.block b k) := by
  unfold Tenant.block
  split
  · exact ⟨rfl, id⟩
  · split
    · exact ⟨rfl, id⟩
    · exact t.readFrom_dataOnly _
    · exact t.takeReading_dataOnly _
    · exact (t.takeReading_dataOnly _).trans (Tenant.readFrom_dataOnly _ _)

theorem Spc.slot_phase (c : Spc) (l : Int) : (c.slot l).phase = c.phase := by
  unfold Spc.slot
  split <;> rfl

/-- The profile record counted down through a frame (R28). -/
def State.countProfile (s : State) : State :=
  match s.lfr.rx.pend with
  | none => s
  | some p =>
    if p.count = 1 then { s with lfr.rx.pend := none }.setRxProf p.target
    else { s with lfr.rx.pend := some { p with count := p.count - 1 } }

/-- The map record counted down through a frame (R141). -/
def State.countMap (s : State) : State :=
  match s.lfr.rx.mpend with
  | none => s
  | some p =>
    if p.count = 1 then { s with lfr.rx.mpend := none }.setRxMap ⟨p.ver, p.counts⟩ .rxInForce
    else { s with lfr.rx.mpend := some { p with count := p.count - 1 } }

theorem State.countRecords_eq (s : State) : s.countRecords = s.countProfile.countMap := rfl

namespace State.InnerOf

variable {Q : View → Prop} {s t u : State}

/-! ### The framer and the records -/

theorem countSlot (h : InnerOf Q s t) (x : SlotHeader) : InnerOf Q s { t with lfr := t.lfr.countSlot x } := by
  cases x <;> exact change h (by rfl)

theorem moveFramer (h : InnerOf Q s t) (b : Bool) : InnerOf Q s (t.moveFramer b) :=
  ite (fun _ => change h (by rfl)) (fun _ => noteLink (change h (by rfl)))

theorem takePeer (h : InnerOf Q s t) (x : Header) : InnerOf Q s (t.takePeer x) :=
  ite (fun _ => change h (by rfl)) (fun _ => noteLink (change h (by rfl)))

theorem setRxProf (h : InnerOf Q s t) (p : Nat) : InnerOf Q s (t.setRxProf p) :=
  ite (fun _ => h) (fun _ => rxProfileChanged (change h (by rfl)) _)

theorem setRxMap (h : InnerOf Q s t) (m : RxMap) (c : MapCause) : InnerOf Q s (t.setRxMap m c) :=
  ite (fun _ => h) (fun _ => noteMap (change h (by rfl)) c)

theorem alignRecords (h : InnerOf Q s t) (x : Header) : InnerOf Q s (t.alignRecords x) := by
  have hprof : InnerOf Q s (({ t with
      lfr.rx.pend := if x.count = 0 then none else some ⟨x.next, x.count⟩ } : State).setRxProf x.prof) :=
    setRxProf (change h (by rfl)) _
  unfold State.alignRecords
  dsimp only
  generalize ({ t with lfr.rx.pend := if x.count = 0 then none else some ⟨x.next, x.count⟩ } : State).setRxProf x.prof
    = v at hprof
  generalize decide ((⟨x.ver, x.cur⟩ : RxMap) ≠ t.lfr.rx.predicted) = corrected
  cases corrected
  · exact ite (fun _ => noteMap (setRxMap (change hprof (by rfl)) _ _) _) (fun _ => setRxMap (change hprof (by rfl)) _ _)
  · exact ite (fun _ => noteMap (setRxMap (change hprof (by rfl)) _ _) _) (fun _ => setRxMap (change hprof (by rfl)) _ _)

theorem countProfile (h : InnerOf Q s t) : InnerOf Q s t.countProfile := by
  unfold State.countProfile
  split
  · exact h
  · exact ite (fun _ => setRxProf (change h (by rfl)) _) (fun _ => change h (by rfl))

theorem countMap (h : InnerOf Q s t) : InnerOf Q s t.countMap := by
  unfold State.countMap
  split
  · exact h
  · exact ite (fun _ => setRxMap (change h (by rfl)) _ _) (fun _ => change h (by rfl))

theorem countRecords (h : InnerOf Q s t) : InnerOf Q s t.countRecords := countRecords_eq t ▸ h.countProfile.countMap

theorem takeHeader (h : InnerOf Q s t) (x : SlotHeader) : InnerOf Q s (t.takeHeader x) := by
  cases x with
  | good x =>
    have hp := ite (c := (x.fieldsOk && decide (x.wish ≤ 7)) = true) (fun _ => h.takePeer x)
      (fun _ => change (h.takePeer x) (u := { t.takePeer x with
        lfr.counts.malformedHeader := (t.takePeer x).lfr.counts.malformedHeader + 1 }) (by rfl))
    exact ite (fun _ => hp.alignRecords x) (fun _ => hp.countRecords)
  | bad | missing => exact ite (fun _ => h.countRecords) (fun _ => h)

/-! ### Carriage and service blocks -/

theorem countMismatch (h : InnerOf Q s t) : InnerOf Q s t.countMismatch :=
  ite (fun _ => raiseNow (change h (by rfl)) (by decide) _) (fun _ => change h (by rfl))

/-- A tenant changed in its data alone. -/
theorem dataTenant (h : InnerOf Q s t) {i : Fin 4} {f : Tenant → Tenant}
    (hf : (t.tpt.get i).dataOnly (f (t.tpt.get i))) : InnerOf Q s (t.modTenant i f) := h.adjustTenant hf.2 hf.1

theorem gapAt (h : InnerOf Q s t) (o : Owner) : InnerOf Q s (t.gapAt o) := by
  cases o with
  | tenant i => exact h.dataTenant (Tenant.gap_dataOnly _)
  | test | idle => exact h

theorem takeBlock (h : InnerOf Q s t) (bb q : Nat) (b : RxBlock) : InnerOf Q s (t.takeBlock bb q b) := by
  have hread : InnerOf Q s { t with lfr.counts.blocksRead := t.lfr.counts.blocksRead + 1 } := change h (by rfl)
  unfold State.takeBlock
  dsimp only
  split
  · split
    · exact change hread (by rfl)
    · exact gapAt (change hread (by rfl)) _
    · exact gapAt (change hread (by rfl)) _
  · exact hread.countMismatch.gapAt _
  · exact gapAt (change hread (by rfl)) _
  · split
    · exact hread.dataTenant (Tenant.block_dataOnly _ _ _)
    · exact change hread (by rfl)
    · exact hread

theorem gapAll (h : InnerOf Q s t) : InnerOf Q s t.gapAll :=
  forTenants (fun _ _ ht => ite (fun _ => ht) (fun _ => ht.dataTenant (Tenant.gap_dataOnly _))) h

theorem takeCarriage (h : InnerOf Q s t) (x : SlotHeader) (l : List RxBlock) : InnerOf Q s (t.takeCarriage x l) := by
  unfold State.takeCarriage
  refine ite (fun _ => ?_) (fun _ => h)
  cases x with
  | missing => exact h.gapAll
  | good | bad => exact foldl _ (fun _ y _ ht => ht.takeBlock _ y.2 y.1) h

theorem takeNote (h : InnerOf Q s t) (b : Bytes) : InnerOf Q s (t.takeNote b) := by
  unfold State.takeNote
  refine notify ?_ (by decide)
  split
  · next hroom =>
    exact h.changeOf
        { Change.refl _ with relay := fun _ => by simp only [List.length_append, List.length_singleton]; omega }
  · exact change h (by rfl)

theorem takeService (h : InnerOf Q s t) (v : Service) : InnerOf Q s (t.takeService v) := by
  cases v with
  | idle => exact h
  | start id mask blocks => exact h.armChecker _ _ _
  | report id checked bad w => exact h.takeReport _ _ _
  | note b => exact h.takeNote b
  | discard => exact change h (by rfl)

/-! ### A slot -/

theorem deliverUp (h : Inner s t) : Inner s t.deliverUp := by
  unfold State.deliverUp
  split
  · exact rxUp (change h (by rfl)) _
  · exact h

theorem deliverDown (h : Inner s t) : Inner s t.deliverDown := ite (fun _ => h.rxDown) (fun _ => h)

theorem settleRx (h : Inner s t) : Inner s t.settleRx :=
  h.deliverDown.finishWork.deliverUp.finishWork.marginWindow.finishWork.alignWindow.finishWork.checkerWindow.finishWork

/-- The measures of a slot taken by the margin and level windows (R11, R44). -/
theorem measureSlot (h : InnerOf Q s t) (x : Lau) (l : Int) (hu : u = { t with lau := x, spc := t.spc.slot l }) :
    InnerOf Q s u := by
  subst hu
  exact h.changeOf { Change.refl (Q := Q) _ with tenants := by simp only [State.view, Spc.slot_phase, imp_self] }

theorem slot (h : Inner s t) (x : SlotHeader) (f : Option RxFrame) : Inner s (t.slot x f) := by
  have hhead := ((h.settleRx.countSlot x).moveFramer x.isGood).takeHeader x
  have hcar := fun m l => takeCarriage (hhead.measureSlot m l rfl) x ((f.map (·.blocks)).getD [])
  have hchk : ∀ v : State, Inner s v → Inner s (if v.lfr.rx.framer.carries then { v with stu.chk := v.stu.chk.slot } else v) :=
    fun v hv => ite (fun _ => change hv (by rfl)) (fun _ => hv)
  unfold State.slot
  dsimp only
  split
  · exact change (((hchk _ (hcar _ _)).takeService _).markHeader _ _) (by rfl)
  · exact hchk _ (hcar _ _)

end State.InnerOf

end Sys2Proof.Machine
end

section
/-! PROOFS. The transmit side of the Link Framer and the site second within the relation of the blocks' work. -/

namespace Sys2Proof.Machine

/-! ### Filling blocks only takes packets off the queue -/

/-- The queue left by a filling is the end of the queue before. -/
theorem fillFrom_queue_suffix (l : List Bytes) (off room pos : Nat) : (fillFrom l off room pos).queue <:+ l := by
  induction l generalizing off room pos with
  | nil => exact List.suffix_refl _
  | cons p ps ih =>
    unfold fillFrom
    dsimp only
    split
    · exact List.suffix_refl _
    · split
      · exact (ih _ _ _).trans (List.suffix_cons p ps)
      · exact List.suffix_refl _

theorem occupancy_le_of_sublist {l m : List Bytes} (h : l.Sublist m) : occupancy l ≤ occupancy m :=
  (h.map List.length).sum_le_sum fun _ _ => Nat.zero_le _

theorem Tenant.fillBlock_dataOnly (t : Tenant) (i : Fin 4) (bb : Nat) : t.dataOnly (t.fillBlock i bb).2 :=
  ⟨rfl, fun hb => ⟨(occupancy_le_of_sublist (fillFrom_queue_suffix _ _ _ _).sublist).trans hb.1, hb.2⟩⟩

theorem buildBlock_dataOnly (tpt : Four Tenant) (o : Owner) (running : Bool) (n q bb : Nat) (i : Fin 4) :
    (tpt.get i).dataOnly ((buildBlock tpt o running n q bb).2.get i) := by
  cases o with
  | tenant j =>
    simp only [buildBlock, Four.get_set]
    split
    · next hj => exact hj ▸ Tenant.fillBlock_dataOnly _ _ _
    · exact .refl _
  | test => cases running <;> exact .refl _
  | idle => exact .refl _

theorem State.buildBlocks_dataOnly (s : State) (i : Fin 4) : (s.tpt.get i).dataOnly (s.buildBlocks.2.get i) := by
  unfold State.buildBlocks
  dsimp only
  generalize positions = l
  have hgen : ∀ r : List TxBlock × Four Tenant, (s.tpt.get i).dataOnly (r.2.get i) →
      (s.tpt.get i).dataOnly ((l.foldl (fun r q =>
        (r.1 ++ [(buildBlock r.2 (if s.lfr.tx.hold then .idle else s.lfr.tx.map.counts.owner q) s.stu.patternRunning
          s.lfr.tx.frameNo.toNat q (blockBytes s.lfr.tx.prof)).1],
        (buildBlock r.2 (if s.lfr.tx.hold then .idle else s.lfr.tx.map.counts.owner q) s.stu.patternRunning
          s.lfr.tx.frameNo.toNat q (blockBytes s.lfr.tx.prof)).2)) r).2.get i) := by
    induction l with
    | nil => exact fun r hr => hr
    | cons q qs ih => exact fun r hr => ih _ (hr.trans (buildBlock_dataOnly _ _ _ _ _ _ i))
  exact hgen ([], s.tpt) (.refl _)

namespace State.InnerOf

variable {Q : View → Prop} {s t u : State}

/-! ### Before the frame -/

theorem sampleHold (h : Inner s t) (b : Bool) : Inner s (t.sampleHold b) :=
  ite (fun _ => h) (fun _ => ite (fun _ => (noteLink (change h (by rfl))).abortGranted _) (fun _ => noteLink (change h (by rfl))))

theorem discardTx (h : InnerOf Q s t) : InnerOf Q s t.discardTx := noteMap (change h (by rfl)) _

theorem haltTx (h : InnerOf Q s t) : InnerOf Q s t.haltTx := ite (fun _ => discardTx (change h (by rfl))) (fun _ => change h (by rfl))

theorem fallBack (h : InnerOf Q s t) : InnerOf Q s t.fallBack := (discardTx (change h (by rfl))).noteLink

theorem moveTx (h : Inner s t) : Inner s t.moveTx := by
  unfold State.moveTx
  dsimp only
  split
  · exact h
  · exact h.haltTx
  · exact ite (fun _ => h.fallBack.abortGranted _) (fun _ => h)
  · exact ite (fun _ => h) (fun _ => noteLink (change h (by rfl)))

theorem retestTx (h : InnerOf Q s t) : InnerOf Q s t.retestTx := by
  unfold State.retestTx
  split
  · exact h.haltTx
  · exact ite (fun _ => h.fallBack) (fun _ => h)
  · exact h
  · exact h

theorem profileSwitch (h : InnerOf Q s t) : InnerOf Q s t.profileSwitch := by
  unfold State.profileSwitch
  split
  · exact ite (fun _ => noteProfile (change h (by rfl))) (fun _ => h)
  · exact h

theorem mapSwitch (h : InnerOf Q s t) : InnerOf Q s t.mapSwitch := by
  unfold State.mapSwitch
  split
  · exact ite (fun _ => (noteMap (change h (by rfl)) _).mapTaken _) (fun _ => h)
  · exact h

theorem scheduleCheck (h : InnerOf Q s t) : InnerOf Q s t.scheduleCheck :=
  ite (fun _ => (noteProfile (change h (by rfl))).wantAlloc _) (fun _ => h)

/-! ### The frame -/

theorem emitFrame (h : InnerOf Q s t) : InnerOf Q s t.emitFrame := by
  have hk : InnerOf Q s { t.offerKept with lfr.tx := t.offerKept.lfr.tx.carry } := change h.offerKept (by rfl)
  unfold State.emitFrame
  exact countFrame (changeOf (hk.dataTenants (State.buildBlocks_dataOnly _) rfl)
      { Change.refl _ with svc := fun hs => by rw [List.length_tail]; exact (Nat.sub_le _ _).trans hs })

theorem periodEnd (h : InnerOf Q s t) : InnerOf Q s t.periodEnd :=
  ite (fun _ => wantAlloc (change (h.dataTenants (x := Four.of fun i => { t.tpt.get i with
    snapA := (t.tpt.get i).accSince, snapQ := (t.tpt.get i).unsent, accSince := 0 })
    (fun i => by rw [Four.get_of]; exact ⟨rfl, id⟩) rfl) (by rfl)) _) (fun _ => h)

theorem settleTx (h : Inner s t) : Inner s t.settleTx := h.drainRun.finishWork.periodEnd.finishWork

theorem build (h : Inner s t) (b : Bool) : Inner s (t.build b) := by
  have hset : Inner s ({ t with pins.carriageHold := b, lfr.tx.due := false } : State).settleTx := settleTx (change h (by rfl))
  unfold State.build
  dsimp only
  refine ite (fun _ => hset) (fun _ => ?_)
  have hmove : ∀ v, Inner s v → Inner s (State.doActs 48 ((v.sampleHold b).moveTx.profileSwitch.mapSwitch)).retestTx :=
    fun v hv => ((hv.sampleHold b).moveTx.profileSwitch.mapSwitch.doActs 48).retestTx
  refine emitFrame (retestTx (finishWork (ite (fun _ => ?_) (fun _ => ?_))))
  · exact (hmove _ hset).scheduleCheck
  · exact hmove _ hset

/-! ### The site second -/

theorem judgeBoth (h : Inner s t) (b : Bool) : Inner s (t.judgeBoth b) := by
  unfold State.judgeBoth
  cases b
  · exact change h.judgeG.judgeL (by rfl)
  · exact change h.judgeL.judgeG (by rfl)

theorem crossSecond (h : Inner s t) : Inner s t.crossSecond := by
  unfold State.crossSecond
  split
  · next r hr =>
    refine ite (fun _ => ?_) (fun _ => h)
    dsimp only
    refine ite (fun _ => endRun (h.setActive hr rfl) _ _ _) (fun _ => ?_)
    split
    · exact endRun (h.setActive hr (by split <;> rfl)) _ _ _
    · exact h.setActive hr (by split <;> rfl)
  · exact h

theorem loopSecond (h : InnerOf View.settled s t) (b : Bool) : InnerOf View.settled s (t.loopSecond b) :=
  ite (fun _ => h.ageLoop) (fun _ => h.takeSecondReport _)

theorem setSeconds (h : InnerOf Q s t) (n : Option (BitVec 32)) (x : SiteTime) : InnerOf Q s (t.setSeconds n x) := by
  unfold State.setSeconds
  split
  · exact h
  · exact noteTime (h.changeOf
      { Change.refl _ with loop := fun ⟨hc, hi, hl, hr, _, hres⟩ => ⟨hc, hi, hl, hr, Nat.succ_pos 999999999, hres⟩ })

theorem doStep (h : InnerOf Q s t) (e : Option Int) (x : SiteTime) : InnerOf Q s (t.doStep e x) := by
  unfold State.doStep
  split
  · exact h
  · exact noteTime (h.changeOf
      { Change.refl _ with loop := fun ⟨hc, hi, hl, hr, _, hres⟩ => ⟨hc, hi, hl, hr, timeAdd_ns_lt _ _, hres⟩ })

theorem ppsSecond (h : InnerOf Q s t) (b : Bool) : InnerOf Q s (t.ppsSecond b) := ite (fun _ => h) (fun _ => change h (by rfl))

theorem slipSecond (h : InnerOf Q s t) : InnerOf Q s t.slipSecond := by
  unfold State.slipSecond
  split
  · exact change (h.clear (r := rowMapSlip) (by decide)) (by rfl)
  · exact change h (by rfl)

theorem crossing (h : Inner s t) (b : Bool) : Inner s (t.crossing b) := by
  have htime : ∀ (v : State) (f : Fmn) (n : BitVec 32), Inner s v → f.rows = v.fmn.rows → f.out = v.fmn.out →
      Inner s { v with fmn := f, dsu.time := t.dsu.boundary, dsu.nextCross := n } := fun v f n hv hrows hout =>
    hv.changeOf { Change.refl _ with
      rows := by rw [hrows]
      out := fun ho => by rw [Fmn.outOk, hout]; exact ho
      loop := fun ⟨hc, hi, hl, hr, _, hres⟩ => ⟨hc, hi, hl, hr, Nat.succ_pos 999999999, hres⟩ }
  have hjudge := ((htime t.closeWindow { t.closeWindow.fmn with
    lastRaises := t.closeWindow.fmn.secRaises, secRaises := 0 } (t.closeWindow.dsu.nextCross + 1)
    h.closeWindow rfl rfl).judgeBoth b).crossSecond
  have hloop := fun v => handQuality_settled (((((refl v).loopSecond t.dsu.pendStep.isSome).setSeconds t.dsu.pendSec
    t.dsu.boundary).doStep t.dsu.pendStep t.dsu.boundary).ppsSecond t.dsu.pendStep.isSome)
  have hdue := ((forTenants (fun _ i ht => ht.dropSecond i) (hjudge.trans (hloop _))).slipSecond).dueSecond
    (decide (t.spc.phase = .service))
  have hnote : ∀ v : State, Inner s v → Inner s (if v.spc.phase = .align then v.noteAlign else v) := fun v hv =>
    ite (fun _ => hv.noteAlign) (fun _ => hv)
  exact (hnote _ hdue).startSecondL.changeOf
      { Change.refl _ with loop := fun ⟨hc, hi, hl, hr, _, hres⟩ => ⟨hc, hi, hl, hr, timeAdd_ns_lt _ _, hres⟩ }

end State.InnerOf

end Sys2Proof.Machine
end

section
/-! PROOFS. The site image and the requests within the relation of the blocks' work. -/

namespace Sys2Proof.Machine

/-! ### What a valid image says of the plan's length (R145, R177) -/

theorem firstBad_none {n : Nat} {ok : Nat → Bool} (h : firstBad n ok = none) {k : Nat} (hk : k < n) : ok k = true := by
  have hall := List.find?_eq_none.1 h k (List.mem_range.2 hk)
  simpa using hall

theorem Il.count_eq_field (il : Il) : il.count = field il.bytes 4 1 := by
  have hslice : slice il.bytes 4 1 = [il.buffer.read 4] := rfl
  simp [field, hslice, readLe, Il.count]

/-- Every section of a valid image has a length that its kind allows (R179). -/
theorem sizeOk_of_validate {img : Bytes} (h : validate img = none) {d : DirEntry} (hd : d ∈ readDir img (field img 4 1)) :
    sizeOk d = true := by
  obtain ⟨k, hk, hget⟩ := List.getElem_of_mem hd
  have hlen : k < field img 4 1 := by simpa [readDir] using hk
  have hsize : firstBad (field img 4 1) (fun k => ((readDir img (field img 4 1))[k]?.map sizeOk).getD true) = none := by
    unfold validate at h
    dsimp only at h
    split at h <;> try contradiction
    split at h <;> try contradiction
    split at h <;> try contradiction
    split at h <;> try contradiction
    split at h <;> try contradiction
    split at h <;> try contradiction
    split at h <;> try contradiction
    split at h <;> try contradiction
    assumption
  have := firstBad_none hsize hlen
  rw [List.getElem?_eq_getElem hk, hget] at this
  simpa using this

/-- The TESTS section of a valid image holds at most 8 entries. -/
theorem plan_length_of_validate {img : Bytes} (h : validate img = none) {b : Bytes}
    (hb : sectionOf img (readDir img (field img 4 1)) 6 = some b) : ((chunks 28 b).map readTest).length ≤ 8 := by
  obtain ⟨d, hfind, rfl⟩ := Option.map_eq_some_iff.1 hb
  have hkind : d.kind = 6 := by simpa using List.find?_some hfind
  have hsize := sizeOk_of_validate h (List.mem_of_find?_eq_some hfind)
  simp only [sizeOk, hkind, Bool.and_eq_true, decide_eq_true_eq] at hsize
  obtain ⟨-, hle⟩ := hsize
  have hslice : (slice img d.start d.len).length ≤ d.len := List.length_take_le _ _
  simp only [List.length_map, chunks, List.length_range]
  exact (Nat.div_le_div_right hslice).trans hle

/-! ### An image comes into force, section by section (R180) -/

/-- The FAULTS section. -/
def State.faultsForce (s : State) (b : Option Bytes) : State :=
  match b with
  | some b => { s with fmn.table := readTable b, fmn.capSet := field b 24 1 }
  | none => { s with fmn.table := defaultTable, fmn.capSet := 3 }

/-- The LINK section. -/
def State.linkForce (s : State) (l : LinkSet) : State := { s with il.link := some l, mp := s.mp.setAttnMode l.attn }

/-- The PROFILES section. -/
def State.profilesForce (s : State) (b : Option Bytes) : State :=
  match b with
  | some b => { s with
      lau.up := (List.range 8).map (fun p => field b (4 * p) 2)
      lau.down := (List.range 8).map (fun p => field b (4 * p + 2) 2) }
  | none => { s with lau.up := defaultUp, lau.down := defaultDown }

/-- The plan that the TESTS section gives. -/
def planOf (b : Option Bytes) : List PlanEntry :=
  match b with
  | some b => (chunks 28 b).map readTest
  | none => []

/-- The TESTS section. -/
def State.planForce (s : State) (plan : List PlanEntry) : State :=
  { s with stu.plan := plan, stu.due := plan.map (fun _ => 0), stu.decisive := plan.map (fun _ => .none) }

/-- The THERMAL section. -/
def State.thermalSection (s : State) (b : Option Bytes) : State :=
  match b with
  | some b => s.thermalForce (readThermal b) (decide (field b 8 1 = 1))
  | none => s.thermalForce {} false

/-- The TIMING section. -/
def State.timingSection (s : State) (b : Option Bytes) (hub : Bool) : State :=
  match b with
  | some b => { s with dsu.set := readDsuSet b }.refForce (readRefSet b)
  | none => { s with dsu.set := {} }.refForce { priority := if hub then .gOnly else .gThenL }

/-- The TENANTS section. -/
def State.tenantSection (s : State) (b : Option Bytes) : State :=
  match b with
  | some b => s.tenantsForce b
  | none => s

/-- An image comes into force in the order of its sections' owners (log 8). -/
theorem State.settingsForce_eq (s : State) (img : Bytes) (dir : List DirEntry) (l : LinkSet) : s.settingsForce img dir l =
    (((((((s.clear rowImage).faultsForce (sectionOf img dir 7)).linkForce l).profilesForce (sectionOf img dir 2)).planForce
      (planOf (sectionOf img dir 6))).thermalSection (sectionOf img dir 3)).timingSection (sectionOf img dir 4)
      l.hub).tenantSection (sectionOf img dir 5) := rfl

theorem Mp.setAttnMode_notices (m : Mp) (a : AttnMode) : (m.setAttnMode a).notices = m.notices := by
  unfold Mp.setAttnMode
  split
  · rfl
  · dsimp only
    split
    · rfl
    · split <;> rfl

theorem Mp.setAttnMode_still (m : Mp) (a : AttnMode) : (m.setAttnMode a).still = m.still := by
  unfold Mp.setAttnMode
  split
  · rfl
  · dsimp only
    split
    · rfl
    · split <;> rfl

namespace State.InnerOf

variable {Q : View → Prop} {s t u : State}

theorem faultsForce (h : InnerOf Q s t) (b : Option Bytes) : InnerOf Q s (t.faultsForce b) := by
  cases b <;> exact change h (by rfl)

theorem linkForce (h : InnerOf Q s t) (l : LinkSet) : InnerOf Q s (t.linkForce l) :=
  h.changeOf { Change.refl _ with keys := Mp.setAttnMode_notices _ _, port := Mp.setAttnMode_still _ _ }

theorem profilesForce (h : InnerOf Q s t) (b : Option Bytes) : InnerOf Q s (t.profilesForce b) := by
  cases b <;> exact change h (by rfl)

theorem planForce (h : InnerOf Q s t) {p : List PlanEntry} (hp : p.length ≤ 8) : InnerOf Q s (t.planForce p) :=
  h.changeOf { Change.refl _ with
      runs := fun hr => by
        rw [runsBounded_iff] at hr ⊢
        exact ⟨hr.1, hr.2.1, hp⟩ }

theorem thermalSection (h : InnerOf Q s t) (b : Option Bytes) : InnerOf Q s (t.thermalSection b) := by
  cases b <;> exact h.thermalForce _ _

theorem refForce (h : InnerOf Q s t) (x : RefSet) : InnerOf Q s (t.refForce x) := setRef (setRef (change h (by rfl)) _ _) _ _

theorem timingSection (h : InnerOf Q s t) (b : Option Bytes) (hub : Bool) : InnerOf Q s (t.timingSection b hub) := by
  cases b <;> exact refForce (change h (by rfl)) _

theorem tenantsForce (h : Inner s t) (b : Bytes) : Inner s (t.tenantsForce b) :=
  foldl _ (fun _ _ _ ht => ht.enterEntry _ _ _ _) h

theorem tenantSection (h : Inner s t) (b : Option Bytes) : Inner s (t.tenantSection b) := by
  cases b with
  | none => exact h
  | some b => exact h.tenantsForce b

theorem settingsForce (h : Inner s t) {img : Bytes} {dir : List DirEntry} (hp : (planOf (sectionOf img dir 6)).length ≤ 8)
    (l : LinkSet) : Inner s (t.settingsForce img dir l) := by
  rw [State.settingsForce_eq]
  exact (((((((h.clear (by decide)).faultsForce _).linkForce l).profilesForce _).planForce hp).thermalSection _).timingSection
    _ _).tenantSection _

theorem leaveLoad (h : Inner s t) (l : LinkSet) : Inner s (t.leaveLoad l) := by
  have hon : Inner s { t with
      lfr.tx.framer := .fallback, lfr.tx.fallback := true, lfr.rx.framer := .hunt
      rfm.winClosed := t.pastClose t.dsu.time.ns } := change h (by rfl)
  unfold State.leaveLoad
  dsimp only
  refine noteLink (ite (fun _ => ?_) (fun _ => hon.movePhase _ _ _ _))
  exact change (hon.movePhase .align .image .idle 0) (by rfl)

theorem endValidation (h : Inner s t) (src : ImageSource) : Inner s (t.endValidation src) := by
  unfold State.endValidation
  dsimp only
  split
  · next hv =>
    refine noteImage (leaveLoad (settingsForce (change h (by rfl)) ?_ _) _)
    rw [Il.count_eq_field]
    cases hb : sectionOf t.il.bytes (readDir t.il.bytes (field t.il.bytes 4 1)) 6 with
    | none => exact Nat.zero_le _
    | some b => exact plan_length_of_validate hv hb
  · exact raiseNow (ite (fun _ => change h (by rfl)) (fun _ => noteImage (change h (by rfl)))) (by decide) _

theorem endRead (h : Inner s t) (a : Bool) (b : Bytes) : Inner s (t.endRead a b) := by
  unfold State.endRead
  refine ite (fun _ => ?_) (fun _ => h)
  dsimp only
  refine ite (fun _ => noteImage ?_) (fun _ => endValidation ?_ _)
  · exact h.changeOf { Change.refl _ with buffer := fun _ => Memory.wf_ofBytes _ }
  · exact h.changeOf { Change.refl _ with buffer := fun _ => Memory.wf_ofBytes _ }

theorem startSave (h : InnerOf Q s t) (l : LinkSet) : InnerOf Q s (t.startSave l) := by
  unfold State.startSave
  generalize renderImage (t.sections l) = r
  refine noteImage ?_
  exact h.changeOf { Change.refl _ with buffer := fun _ => Memory.wf_ofBytes _ }

theorem endSave (h : InnerOf Q s t) (n : Nat) (b : Bytes) : InnerOf Q s (t.endSave n b) := by
  unfold State.endSave
  refine ite (fun _ => ?_) (fun _ => h)
  have hsave : InnerOf Q s (({ t with
      il.saving := false, il.lastSave := some (t.il.saveResult n b) } : State).noteImage) := noteImage (change h (by rfl))
  dsimp only
  split
  · exact hsave
  · exact ite (fun _ => noteImage (hsave.changeOf
      { Change.refl _ with buffer := fun _ => rfl })) (fun _ => hsave.changeOf { Change.refl _ with buffer := fun _ => rfl })

end State.InnerOf

/-! ### The requests' owners -/

namespace State.InnerOf

variable {Q : View → Prop} {s t u : State}

theorem pulse (h : InnerOf Q s t) (a b : Nat) : InnerOf Q s (t.pulse a b) := change (h.rollWindow a) (by rfl)

theorem setGnssOk (h : Inner s t) (b : Bool) : Inner s (t.setGnssOk b) :=
  ite (fun _ => refDown (change (h.rollWindow _) (by rfl)) _) (fun _ => change (h.rollWindow t.dsu.time.ns) (by rfl))

theorem setPriority (h : Inner s t) (p : Priority) : Inner s (t.setPriority p) :=
  ite (fun _ => h) (fun _ => select (setRef (setRef (change h (by rfl)) _ _) _ _) _)

theorem removeQueued (h : InnerOf Q s t) (r : Run) : InnerOf Q s (t.removeQueued r) := by
  have hrem := h.removeRuns (fun x => x.idx = r.idx)
  unfold State.removeQueued
  refine ite (fun _ => roundFailed (noteTest ?_) _) (fun _ => hrem)
  split
  · next a ha => exact (hrem.removeRuns _).setActive ha (by rfl)
  · exact hrem.removeRuns _

theorem grantExpired (h : Inner s t) : Inner s t.grantExpired := by
  unfold State.grantExpired
  split
  · exact ite (fun _ => h.abortRun _ _) (fun _ => h)
  · exact h

theorem drainExpired (h : Inner s t) : Inner s t.drainExpired := by
  unfold State.drainExpired
  split
  · exact ite (fun _ => h.endRun _ _ _) (fun _ => h)
  · exact h

theorem takeEgress (h : InnerOf Q s t) (i : Fin 4) : InnerOf Q s (t.modTenant i Tenant.takeEgress) := by
  refine h.dataTenant ?_
  unfold Tenant.takeEgress
  split
  · exact .refl _
  · next p ps he =>
    refine ⟨rfl, fun hb => ⟨hb.1, le_trans ?_ hb.2⟩⟩
    rw [he]
    exact occupancy_le_of_sublist (List.sublist_cons_self _ _)

/-! An answer's state. -/

theorem outsideLoad {a : Answer} (ht : Inner s s) (h : Inner s a.state) : Inner s (s.outsideLoad a).state := by
  unfold State.outsideLoad
  split
  · exact ht
  · exact h

theorem withTenant {b : Byte} {f : Fin 4 → Answer} (h : ∀ i, Inner s (f i).state) : Inner s (s.withTenant b f).state := by
  unfold State.withTenant
  split
  · exact h _
  · exact refl s

theorem inLoad {a : Answer} (h : Inner s a.state) : Inner s (s.inLoad a).state := by
  unfold State.inLoad
  split
  · exact refl s
  · split
    · exact refl s
    · split
      · exact refl s
      · exact h

/-- An answer that one of two conditions gives. -/
theorem answer {c : Prop} [Decidable c] {a b : Answer} (ha : c → Inner s a.state) (hb : ¬ c → Inner s b.state) :
    Inner s (if c then a else b).state := by
  split
  · next h => exact ha h
  · next h => exact hb h

theorem okOnly (h : Inner s t) : Inner s (okOnly t).state := h

theorem tenantSetTaken (h : InnerOf Q s t) (i : Fin 4) : InnerOf Q s (t.tenantSetTaken i).state :=
  (h.tellTenant i _).wantAlloc _

theorem setEntry (s : State) (i : Fin 4) (raw : Bytes) : Inner s (s.setEntry i raw).state := by
  unfold State.setEntry
  refine answer (fun _ => refl s) (fun _ => ?_)
  split
  · exact (((refl s).enterEntry i _ _ _).tryActive _ i).tenantSetTaken i
  · exact answer (fun _ => refl s) (fun _ => ((refl s).replaceEntry i _).tenantSetTaken i)

theorem vacateTenant (s : State) (i : Fin 4) : Inner s (s.vacateTenant i).state := by
  unfold State.vacateTenant
  split
  · exact (refl s).tenantSetTaken i
  · exact ((refl s).vacate i).tenantSetTaken i
  · exact ((refl s).vacate i).tenantSetTaken i
  · exact refl s
  · exact refl s

theorem reqTenantSet (s : State) (a b : Byte) (e : Option Bytes) : Inner s (s.reqTenantSet a b e).state := by
  unfold State.reqTenantSet
  refine outsideLoad (refl s) ?_
  split
  · exact withTenant fun i => setEntry s i _
  · exact withTenant fun i => vacateTenant s i
  all_goals exact refl s

theorem reqCommit (s : State) : Inner s s.reqCommit.state := by
  unfold State.reqCommit
  refine inLoad ?_
  split
  · exact (refl s).endValidation _
  · exact (refl s).endValidation _

theorem reqImageWrite (s : State) (off : BitVec 16) (b : Bytes) : Inner s (s.reqImageWrite off b).state := by
  have hw : Inner s { s with il.buffer := s.il.buffer.writeBytes off.toNat b, il.state := .staging } :=
    (refl s).changeOf { Change.refl _ with buffer := Memory.wf_writeBytes _ _ }
  exact inLoad (answer (fun _ => refl s) (fun _ => ite (fun _ => hw) (fun _ => hw.noteImage)))

theorem reqImageRead (s : State) (a b : BitVec 16) : (s.reqImageRead a b).state = s := by
  unfold State.reqImageRead
  (repeat' split) <;> rfl

theorem reqSave (s : State) : Inner s s.reqSave.state := by
  unfold State.reqSave
  split
  · exact answer (fun _ => refl s) (fun _ => answer (fun _ => refl s) (fun _ => (refl s).startSave _))
  · exact refl s

theorem reqFix (s : State) (v : Byte) : Inner s (s.reqFix v).state :=
  outsideLoad (refl s) 
    (answer (fun _ => ((refl s).setFix _).okOnly) (fun _ => answer (fun _ => ((refl s).setFix _).okOnly) (fun _ => refl s)))

theorem reqNoteSend (s : State) (b : Bytes) : Inner s (s.reqNoteSend b).state := by
  refine outsideLoad (refl s) (answer (fun hroom => okOnly ?_) (fun _ => refl s))
  have hlt : s.lfr.tx.svc.length < 8 := of_decide_eq_true hroom
  exact (refl s).changeOf
      { Change.refl _ with svc := fun _ => by simp only [List.length_append, List.length_singleton]; omega }

theorem reqNoteRead (s : State) : Inner s s.reqNoteRead.state :=
  (refl s).changeOf (u := { s with lfr.rx.relay := s.lfr.rx.relay.tail, lfr.rx.relayLost := 0 })
      { Change.refl _ with relay := fun h => by simp only [List.length_tail]; omega }

theorem reqThermal (s : State) (b : Option ThermalBody) : Inner s (s.reqThermal b).state := by
  unfold State.reqThermal
  refine outsideLoad (refl s) ?_
  split
  · exact answer (fun _ => refl s) (fun _ => (refl s).thermalForce _ _)
  · exact answer (fun _ => answer (fun _ => refl s) (fun _ => refl s))
      (fun _ => answer (fun _ => (refl s).thermalForce _ _) (fun _ => refl s))

theorem reqTimeSet (s : State) (b : TimeSetBody) : Inner s (s.reqTimeSet b).state := by
  unfold State.reqTimeSet
  refine outsideLoad (refl s) (answer (fun _ => ?_) (fun _ => refl s))
  refine ite (fun _ => setPriority (change ((refl s).rollWindow s.dsu.time.ns) (by rfl)) _) (fun _ => ?_)
  exact change ((refl s).rollWindow s.dsu.time.ns) (by rfl)

theorem reqTestRun (s : State) (b : Byte) : Inner s (s.reqTestRun b).state :=
  answer (fun _ => answer (fun _ => (refl s).requestRun _ _) (fun _ => refl s)) (fun _ => refl s)

theorem reqTestAbort (s : State) (b : Byte) : Inner s (s.reqTestAbort b).state := by
  unfold State.reqTestAbort
  refine outsideLoad (refl s) (answer (fun _ => refl s) (fun _ => ?_))
  split
  · exact refl s
  · exact answer (fun _ => (refl s).removeQueued _) (fun _ => (refl s).abortRun _ _)

theorem reqAck (s : State) (b : Byte) : Inner s (s.reqAck b).state := by
  have hgone : Inner s { s with fmn := { s.fmn with out := none, capOn := false } } :=
    (refl s).changeOf { Change.refl _ with out := fun _ _ ho => nomatch ho }
  unfold State.reqAck
  refine answer (fun _ => refl s) (fun hb => ?_)
  exact answer (fun _ => hgone.recomputeCeiling.noteFault fun _ => by omega) (fun _ => refl s)

theorem reqClear (s : State) (r : BitVec 24) : Inner s (s.reqClear r).state :=
  answer (fun _ => refl s) (fun _ => (refl s).changeOf { Change.refl _ with rows := List.length_mapIdx })

theorem reqFaultSet (s : State) (b : Bytes) (c : Byte) : Inner s (s.reqFaultSet b c).state :=
  outsideLoad (refl s) (answer (fun _ => recomputeCeiling (change (refl s) (by rfl))) (fun _ => refl s))

/-- Whatever the owner of a request does, but for SITE_RESTART, is work inside the blocks. -/
theorem serve (s : State) {r : ReqBody} (hr : r.isRestart = false) : Inner s (s.serve r).state := by
  cases r with
  | siteRestart o => cases hr
  | ident | phaseGet | linkGet | thermalGet | refGet | timeGet | mapGet | testLog | faultGet | unknownKind | badLength =>
    exact refl s
  | alignEnd => exact answer (fun _ => (refl s).leaveAlign _) (fun _ => refl s)
  | alignPeakReset => exact answer (fun _ => change (refl s) (by rfl)) (fun _ => refl s)
  | proveForce => exact answer (fun _ => (refl s).enterService _ _ _) (fun _ => refl s)
  | siteReseek => exact answer (fun _ => (refl s).reseek _) (fun _ => refl s)
  | siteStop => exact answer (fun _ => refl s) (fun _ => (refl s).enterHalt _)
  | imageWrite off b => exact reqImageWrite s off b
  | imageCommit => exact reqCommit s
  | imageRead a b => exact (reqImageRead s a b).symm ▸ refl s
  | imageSave => exact reqSave s
  | profileCap v => exact recomputeCeiling (change (refl s) (by rfl))
  | profileFix v => exact reqFix s v
  | noteSend b => exact reqNoteSend s b
  | noteRead => exact reqNoteRead s
  | thermalEnable b => exact reqThermal s b
  | timeSet b => exact reqTimeSet s b
  | tenantGet i => exact withTenant fun _ => refl s
  | tenantSet a b e => exact reqTenantSet s a b e
  | tenantBar b => exact outsideLoad (refl s) (withTenant fun i => answer (fun _ => refl s) (fun _ => (refl s).bar i _))
  | tenantUnbar b => exact outsideLoad (refl s) (withTenant fun i => (refl s).unbar i)
  | testRun b => exact reqTestRun s b
  | testAbort b => exact reqTestAbort s b
  | faultAck b => exact reqAck s b
  | faultClear b => exact reqClear s b
  | faultSet b c => exact reqFaultSet s b c

end State.InnerOf

end Sys2Proof.Machine
end

section
/-! PROOFS. The Message Port, reset and restart: every command, and so every step, carries the invariants over. -/

namespace Sys2Proof.Machine

/-! ### A list with one more or one fewer -/

theorem length_append_one_le {α : Type} {l : List α} {n : Nat} (x : α) (h : l.length < n) : (l ++ [x]).length ≤ n := by
  rw [List.length_append, List.length_singleton]
  omega

/-! ### The blocks as reset and restart leave them -/

/-- Reset, but for what HOT_N asserted brings at once (R58, R62). -/
def State.resetBase (s : State) (a b : Bool) : State :=
  { pending := s.pending
    pins := { s.pins with baudSel1 := a, baudSel0 := b }
    tpt := freshTenants s.tpt
    mp := { baud := (a, b) } }

theorem State.resetTo_eq (s : State) (a b : Bool) : s.resetTo a b = (s.resetBase a b).sampleHot := rfl

/-- A restart, but for the notice of a loop that moved and what HOT_N asserted brings at once (R62, R98). -/
def State.restartBase (s : State) (o : RestartOpts) : State :=
  { pending := s.pending
    pins := s.pins
    rfm := if o.keepTime then
        { disturb := s.rfm.disturb, overlap := s.rfm.overlap, sec := { start := s.rfm.sec.start } }
      else {}
    dsu := if o.keepTime then s.dsu.restarted else {}
    tpt := freshTenants s.tpt
    il := s.il.restarted o.noImage
    mp := { baud := s.mp.baud } }

theorem State.restartTo_eq (s : State) (o : RestartOpts) : s.restartTo o =
    (if o.keepTime && decide ((s.restartBase o).dsu.loop ≠ s.dsu.loop) then (s.restartBase o).noteTime
      else s.restartBase o).sampleHot := rfl

theorem Dsu.fresh_bounded : ({} : Dsu).bounded := by
  simp [Dsu.bounded, pptOk, Config.ppmLimit, partsPerNs]

namespace State.KeepsOf

variable {s t u : State}

theorem trans (h : Keeps s t) (g : Keeps t u) : Keeps s u where
  pending := g.pending.trans h.pending
  notices := g.notices ∘ h.notices
  buffer := g.buffer ∘ h.buffer
  loop := g.loop ∘ h.loop
  tenants := g.tenants ∘ h.tenants
  queues := g.queues ∘ h.queues
  ports := g.ports ∘ h.ports

theorem refl (s : State) : Keeps s s := (InnerOf.refl s).toKeepsOf

/-- Work inside the blocks after what came before. -/
theorem inner (h : Keeps s t) (g : Inner t u) : Keeps s u := h.trans g.toKeepsOf

/-- A change of the port alone, by what it does to its queues: the notices are some of those there. -/
theorem port (h : Keeps s t) {m : Mp} (notices : m.notices.Sublist t.mp.notices)
    (inbound : t.mp.inbound.length ≤ 4 → m.inbound.length ≤ 4) (store : t.mp.store.length ≤ 8 → m.store.length ≤ 8) :
    Keeps s { t with mp := m } := by
  have hd : t.noticesDistinct → ({ t with mp := m } : State).noticesDistinct := (notices.map _).nodup
  refine h.trans ⟨rfl, hd, id, id, id, ?_, id⟩
  rintro ⟨h1, h2, h3, h4, h5, h6, h7⟩
  rw [noticesBounded_iff] at h6
  obtain ⟨hdist, hsub, hout⟩ := h6
  exact ⟨inbound h1, store h2, h3, h4, h5,
    (noticesBounded_iff _).2 ⟨hd hdist, fun n hn => hsub n (notices.subset hn), hout⟩, h7⟩

theorem ite {c : Prop} [Decidable c] (ht : c → Keeps s t) (hu : ¬ c → Keeps s u) : Keeps s (if c then t else u) := by
  split
  · next h => exact ht h
  · next h => exact hu h

/-! ### Handing over and sending -/

theorem reply (h : Keeps s t) (r : Request) (a : Answer) : Keeps s (t.reply r a) := h.port (List.Sublist.refl _) id id

theorem serve (h : Keeps s t) (r : ReqBody) : Keeps s (t.serve r).state := by
  by_cases hr : r.isRestart = false
  · exact h.inner (InnerOf.serve t hr)
  · cases r with
    | siteRestart o =>
      unfold State.serve
      dsimp only
      unfold State.reqRestart
      split
      · exact h
      · split
        · exact h
        · exact h.port (List.Sublist.refl _) id id
    | _ => exact absurd rfl hr

theorem act1 (h : Keeps s t) (r : Request) : Keeps s (t.act1 r) := ((h.serve r.body).inner (InnerOf.refl _).finishWork).reply _ _

theorem serveNext (h : Keeps s t) : Keeps s t.serveNext := by
  unfold State.serveNext
  split
  · next r rest _ _ hin =>
    exact act1 (h.port (m := { t.mp with inbound := rest }) (List.Sublist.refl _)
      (fun hl => Nat.le_of_succ_le (by simpa [hin] using hl)) id) r
  · exact h

theorem nextFrame_of {m n : Mp} {f : LineFrame} (h : m.nextFrame = some (f, n)) :
    n.notices.Sublist m.notices ∧ n.inbound = m.inbound ∧ n.store.Sublist m.store := by
  unfold Mp.nextFrame Mp.takeReply Mp.takeNotice at h
  split at h
  · cases h
    exact ⟨List.Sublist.refl _, rfl, List.Sublist.refl _⟩
  · next x xs _ hst =>
    split at h
    · cases h
      exact ⟨List.Sublist.refl _, rfl, List.Sublist.refl _⟩
    · cases h
      exact ⟨List.Sublist.refl _, rfl, hst ▸ List.sublist_cons_self _ _⟩
  · next x xs _ hst =>
    cases h
    exact ⟨List.Sublist.refl _, rfl, hst ▸ List.sublist_cons_self _ _⟩
  · rw [Option.none_or] at h
    split at h
    · cases h
    · next x xs hn =>
      cases h
      exact ⟨hn ▸ List.sublist_cons_self _ _, rfl, List.Sublist.refl _⟩

theorem startLine (h : Keeps s t) : Keeps s { t with mp := t.mp.startLine } := by
  unfold Mp.startLine
  split
  · exact h
  · split
    · next x hx =>
      obtain ⟨hnot, hin, hst⟩ := nextFrame_of hx
      exact h.port (hnot) (fun hl => hin ▸ hl) (fun hl => hst.length_le.trans hl)
    · exact h

theorem settlePort (h : Keeps s t) : Keeps s t.settlePort := h.serveNext.startLine.serveNext

theorem close (h : Keeps s t) : Keeps s t.close := (h.inner (InnerOf.refl _).finishWork).settlePort

/-! ### Receiving -/

theorem arrive (h : Keeps s t) (r : Request) : Keeps s { t with mp := t.mp.arrive r } := by
  unfold Mp.arrive
  dsimp only
  split
  · next hroom => exact h.port (List.Sublist.refl _) (fun _ => length_append_one_le _ hroom) id
  · split
    · next hroom => exact h.port (List.Sublist.refl _) id (fun _ => length_append_one_le _ hroom)
    · exact h.port (List.Sublist.refl _) id id

theorem submit (h : Keeps s t) (r : Request) : Keeps s (t.submit r) := (h.arrive r).close

theorem receive (h : Keeps s t) (kind tag : Byte) (body : Bytes) : Keeps s (t.receive kind tag body) := by
  unfold State.receive
  exact ite (fun _ => close (h.port (List.Sublist.refl _) id id)) (fun _ => h.submit _)

theorem huntByte_queues (m : Mp) (b : Byte) :
    (m.huntByte b).notices = m.notices ∧ (m.huntByte b).inbound = m.inbound ∧ (m.huntByte b).store = m.store := by
  unfold Mp.huntByte
  split <;> exact ⟨rfl, rfl, rfl⟩

theorem lengthBytes_queues (m : Mp) (a b : Byte) : (m.lengthBytes a b).notices = m.notices
    ∧ (m.lengthBytes a b).inbound = m.inbound ∧ (m.lengthBytes a b).store = m.store := by
  unfold Mp.lengthBytes
  dsimp only
  split
  · split
    · exact huntByte_queues { m with counts.length := m.counts.length + 1 } a
    · obtain ⟨hn, hi, hs⟩ := huntByte_queues { m with counts.length := m.counts.length + 1 } a
      obtain ⟨hn', hi', hs'⟩ := huntByte_queues ({ m with counts.length := m.counts.length + 1 }.huntByte a) b
      exact ⟨hn'.trans hn, hi'.trans hi, hs'.trans hs⟩
  · exact ⟨rfl, rfl, rfl⟩

theorem takeByte_queues (m : Mp) (b : Byte) : (m.takeByte b).1.notices = m.notices
    ∧ (m.takeByte b).1.inbound = m.inbound ∧ (m.takeByte b).1.store = m.store := by
  unfold Mp.takeByte
  dsimp only
  split
  · exact huntByte_queues { m with rxIdle := 0 } b
  · exact ⟨rfl, rfl, rfl⟩
  · exact lengthBytes_queues { m with rxIdle := 0 } _ b
  · split <;> exact ⟨rfl, rfl, rfl⟩
  · exact ⟨rfl, rfl, rfl⟩
  · split <;> exact ⟨rfl, rfl, rfl⟩

theorem takeByte (h : Keeps s t) (b : Byte) : Keeps s (t.takeByte b) := by
  obtain ⟨hn, hi, hs⟩ := takeByte_queues t.mp b
  have hrx : Keeps s { t with mp := (t.mp.takeByte b).1 } :=
    h.port (hn ▸ List.Sublist.refl _) (fun hl => hi ▸ hl) (fun hl => hs ▸ hl)
  unfold State.takeByte
  dsimp only
  split
  · exact hrx.receive _ _ _
  · exact hrx

theorem frameReceived (h : Keeps s t) (bytes : Bytes) : Keeps s (bytes.foldl State.takeByte t) := by
  induction bytes generalizing t with
  | nil => exact h
  | cons b bs ih => exact ih (h.takeByte b)

/-! ### Reset and restart -/

/-- A part whose blocks are as after reset, but for what a restart keeps of the site time, carries every invariant over. -/
theorem fresh (s : State) {t : State} (hpending : t.pending = s.pending)
    (htpt : t.tpt = freshTenants s.tpt) (hmp : t.mp.notices = [] ∧ t.mp.inbound = [] ∧ t.mp.store = [])
    (hlfr : t.lfr = {}) (hstu : t.stu = {}) (hfmn : t.fmn = {})
    (buffer : s.bufferWf → t.bufferWf) (loop : s.loopBounded → t.loopBounded) : Keeps s t := by
  obtain ⟨hnotices, hinbound, hstore⟩ := hmp
  have hd : t.noticesDistinct := by simp [noticesDistinct, hnotices]
  refine ⟨hpending, fun _ => hd, buffer, loop, fun _ => (tenantsConsistent_iff t).2 fun i => ?_, fun _ => ?_, fun _ i => ?_⟩
  · simp [htpt, freshTenants, Tenant.consistent]
  · refine ⟨by simp [hinbound], by simp [hstore], by simp [hlfr], by simp [hlfr], by simp [hstu], ?_, ?_⟩
    · exact (noticesBounded_iff t).2 ⟨hd, by simp [Mp.subjectsOk, hnotices], by simp [Fmn.outOk, hfmn]⟩
    · simp [runsBounded_iff, hstu]
  · simp [htpt, freshTenants, occupancy]

theorem resetTo (s : State) (a b : Bool) : Keeps s (s.resetTo a b) :=
  inner (u := s.resetTo a b) (fresh s (t := s.resetBase a b) rfl rfl ⟨rfl, rfl, rfl⟩ rfl rfl rfl (fun _ => rfl)
    (fun _ => Dsu.fresh_bounded)) ((InnerOf.refl _).hotTaken _)

theorem restarted_bounded {d : Dsu} (h : d.bounded) : d.restarted.bounded := by
  have hset : Dsu.bounded { d with
      set := {}, pendStep := none, pendSec := none, acq := 0, trk := 0, p := 0, report := none, pps := none } := h
  unfold Dsu.restarted
  dsimp only
  split
  · split
    · exact Dsu.moveTo_bounded hset _
    · exact hset
  · exact Dsu.moveTo_bounded hset _

theorem restartBase (s : State) (o : RestartOpts) : Keeps s (s.restartBase o) := by
  refine fresh s rfl rfl ⟨rfl, rfl, rfl⟩ rfl rfl rfl (fun hb => ?_) (fun hl => ?_)
  · simp only [State.bufferWf, State.restartBase]
    unfold Il.restarted
    split
    · exact hb
    · exact rfl
  · simp only [State.loopBounded_iff, State.restartBase]
    split
    · exact restarted_bounded hl
    · exact Dsu.fresh_bounded

theorem restartTo (s : State) (o : RestartOpts) : Keeps s (s.restartTo o) := by
  rw [State.restartTo_eq]
  exact (restartBase s o).inner
    (InnerOf.hotTaken (InnerOf.ite (fun _ => (InnerOf.refl _).noteTime) (fun _ => InnerOf.refl _)) _)

theorem restartDue (h : Keeps s t) : Keeps s t.restartDue := by
  unfold State.restartDue
  split
  · exact ite (fun _ => h.trans (restartTo t _)) (fun _ => h)
  · exact h

/-! ### A frame time -/

theorem tick (s : State) : Keeps s s.tick := by
  refine ⟨rfl, id, id, fun hl => Dsu.advance_bounded hl, fun hc => (tenantsConsistent_iff _).2 fun i => ?_, fun hq => ?_,
    fun hp i => ?_⟩
  · have hi := (tenantsConsistent_iff s).1 hc i
    simp only [State.tick, Four.get_of]
    obtain ⟨hpermit, hstate, hfit, hentry, hrefit, htime⟩ := hi
    exact ⟨hpermit, hstate, hfit, hentry, by simpa [tickDown] using hrefit, htime⟩
  · obtain ⟨h1, h2, h3, h4, h5, h6, h7⟩ := hq
    refine ⟨h1, h2, h3, h4, h5, h6, runsBounded_of_sublist (s := s) ?_ rfl h7⟩
    simp only [State.tick]
    split
    · next hq => simp [hq]
    · next r rs hq => simp [hq, Run.tick]
  · simp only [State.tick, Four.get_of]
    exact hp i

end State.KeepsOf

/-! ### Every command -/

open State

/-- A well-formed command completes, and carries every invariant over. -/
theorem exec_keeps (c : Instr) (s : State) (h : c.wellFormed = true) : ∃ t, exec c s = .next t ∧ Keeps s t := by
  have done : ∀ {t : State}, exec c s = .next t → Keeps s t → ∃ t, exec c s = .next t ∧ Keeps s t :=
    fun he hk => ⟨_, he, hk⟩
  have inner : ∀ {t : State}, exec c s = .next t.close → Inner s t → ∃ t, exec c s = .next t ∧ Keeps s t :=
    fun he hi => ⟨_, he, hi.toKeepsOf.close⟩
  have port : ∀ {m : Mp}, exec c s = .next { s with mp := m }.close → m.notices = s.mp.notices →
      m.inbound = s.mp.inbound → m.store = s.mp.store → ∃ t, exec c s = .next t ∧ Keeps s t :=
    fun he hn hi hs => ⟨_, he, ((KeepsOf.refl s).port (hn ▸ List.Sublist.refl _) (fun hl => hi ▸ hl)
      (fun hl => hs ▸ hl)).close⟩
  have request : ∀ {r : Request}, exec c s = .next (s.submit r) → ∃ t, exec c s = .next t ∧ Keeps s t :=
    fun he => ⟨_, he, (KeepsOf.refl s).submit _⟩
  have hs := InnerOf.refl (Q := View.consistent) s
  cases c with
  | reset a b => exact done rfl (KeepsOf.resetTo s a b).close
  | restart => exact done rfl (KeepsOf.refl s).restartDue.close
  | ident | phaseGet | alignEnd | alignPeakReset | proveForce | siteReseek | siteStop | siteRestart | imageWrite
  | imageCommit | imageRead | imageSave | linkGet | profileCap | profileFix | noteSend | noteRead | thermalGet
  | thermalEnable | refGet | timeGet | timeSet | tenantGet | tenantSet | tenantBar | tenantUnbar | mapGet | testRun
  | testAbort | testLog | faultGet | faultAck | faultClear | faultSet => exact request rfl
  | unknownKindRequest kind tag => exact done rfl ((KeepsOf.refl s).receive _ _ _)
  | frameReceived bytes => exact done rfl ((KeepsOf.refl s).frameReceived bytes)
  | frameTimeout =>
    refine port rfl ?_ ?_ ?_ <;> (unfold Mp.timeout; split <;> rfl)
  | byteError =>
    refine port rfl ?_ ?_ ?_ <;> (unfold Mp.badStop; split <;> rfl)
  | lineFrameSent =>
    refine port rfl ?_ ?_ ?_ <;> (unfold Mp.lineSent; split <;> rfl)
  | attnPulseEnd =>
    refine port rfl ?_ ?_ ?_ <;> (unfold Mp.pulseEnd; split <;> rfl)
  | eepromReadDone a b => exact inner rfl (hs.endRead a b)
  | saveDone n b => exact inner rfl (hs.endSave n b)
  | txFrameBuild b => exact inner rfl (hs.build b)
  | profileSwitchFrame => exact inner rfl hs.profileSwitch
  | mapSwitchFrame => exact inner rfl hs.mapSwitch
  | patternDurationEnd => exact inner rfl hs.drainRun
  | allocationPeriodEnd => exact inner rfl hs.periodEnd
  | rxFrameReceived f =>
    have hf : f.wellFormed = true := h
    by_cases hoff : s.lfr.rx.framer = .off
    · exact inner (t := s) (by simp [exec, execRxFrameReceived, hf, hoff]) hs
    · exact inner (t := s.slot (s.classify f) (some f)) (by simp [exec, execRxFrameReceived, hf, hoff]) (hs.slot _ _)
  | rxHeaderMissing =>
    by_cases hoff : s.lfr.rx.framer = .off
    · exact inner (t := s) (by simp [exec, execRxHeaderMissing, hoff]) hs
    · exact inner (t := s.slot .missing none) (by simp [exec, execRxHeaderMissing, hoff]) (hs.slot _ _)
  | rxFramerUp => exact inner rfl hs.deliverUp
  | rxFramerDown => exact inner rfl hs.deliverDown
  | marginWindowEnd => exact inner rfl hs.marginWindow
  | alignWindowEnd => exact inner rfl hs.alignWindow
  | checkerWindowEnd => exact inner rfl hs.checkerWindow
  | siteSecondCrossing b => exact inner rfl (hs.crossing b)
  | ppsPulseEnd => exact inner rfl (InnerOf.change hs (by rfl))
  | gnssPpsPulse ns osc =>
    have hns : ns < 1000000000 := of_decide_eq_true h
    exact inner (t := s.pulse ns osc) (by simp [exec, execGnssPpsPulse, hns]) (hs.pulse ns osc)
  | gnssOkChange b => exact inner rfl (hs.setGnssOk b)
  | gateEnd n => exact inner rfl (hs.gate n)
  | hotNChange b => exact inner rfl (InnerOf.hotTaken (InnerOf.change hs (by rfl)) _)
  | portLinkChange i b => exact inner rfl (hs.portLink i b)
  | packetArrival i p => exact inner rfl (hs.arrive i p)
  | egressPacketTaken i => exact inner rfl (hs.takeEgress i)
  | refitTimerExpiry i => exact inner rfl (hs.refitDone i)
  | recoverTimerExpiry => exact inner rfl hs.recoverDone
  | retryTimerExpiry => exact inner rfl hs.retryDone
  | grantTimerExpiry => exact inner rfl hs.grantExpired
  | drainWaitExpiry => exact inner rfl hs.drainExpired

theorem exec_malformedFrame {f : RxFrame} (s : State) (h : f.wellFormed = false) :
    exec (.rxFrameReceived f) s = .fault .malformedFrame := by
  simp [exec, execRxFrameReceived, h]

theorem exec_malformedStamp {ns : Nat} (osc : Nat) (s : State) (h : 1000000000 ≤ ns) :
    exec (.gnssPpsPulse ns osc) s = .fault .malformedStamp := by
  exact if_neg (Nat.not_lt.2 h)

/-- Where a command completes it carries every invariant over. -/
theorem keeps_of_exec {c : Instr} {s t : State} (h : exec c s = .next t) : Keeps s t := by
  by_cases hc : c.wellFormed = true
  · obtain ⟨u, hu, hk⟩ := exec_keeps c s hc
    rw [hu] at h
    cases h
    exact hk
  · cases c with
    | rxFrameReceived f => simp [exec_malformedFrame s (by simpa [Instr.wellFormed] using hc)] at h
    | gnssPpsPulse ns osc =>
      have hns : 1000000000 ≤ ns := Nat.not_lt.1 fun hlt => hc (decide_eq_true hlt)
      rw [exec_malformedStamp osc s hns] at h
      cases h
    | _ => exact absurd rfl hc

/-- A step carries every invariant over, from the state without the command it takes. -/
theorem keeps_of_step {s t : State} (h : step s = .next t) : Keeps { s with pending := s.pending.tail } t := by
  unfold step at h
  split at h
  · next hp =>
    have hs : ({ s with pending := s.pending.tail } : State) = s := by rw [hp, List.tail_nil, ← hp]
    rw [hs]
    unfold idle at h
    split at h
    · exact keeps_of_exec h
    · cases h
      exact KeepsOf.tick s
  · next c rest hp =>
    rw [hp]
    exact keeps_of_exec h

/-! ### The statements -/

/-- Settles O11, by what every step carries over. -/
theorem noticeKeysStayDistinct : Obligations.NoticeKeysStayDistinct :=
  fun _ _ hs hstep => (keeps_of_step hstep).notices hs

/-- Settles O34, by what every step carries over. -/
theorem bufferStaysCanonical : Obligations.BufferStaysCanonical :=
  fun _ _ hs hstep => (keeps_of_step hstep).buffer hs

/-- Settles O52, by what every step carries over. -/
theorem loopStaysBounded : Obligations.LoopStaysBounded :=
  fun _ _ hs hstep => (keeps_of_step hstep).loop hs

/-- Settles O58: the tenants agree with the phase and the loop after every step, and a permit says what they then are. -/
theorem phasePermitOnlyWithGoodTime : Obligations.PhasePermitOnlyWithGoodTime := by
  intro s t hs hstep
  have ht : t.tenantsConsistent :=
    (State.tenantsConsistent_iff t).1 ((keeps_of_step hstep).tenants ((State.tenantsConsistent_iff _).2 hs))
  refine ⟨ht, fun i hpermit => ?_, fun i e hpermit he hphase => ?_⟩
  · obtain ⟨hp, hstate, -⟩ := ht i
    obtain ⟨hservice, hlink, -⟩ := hstate (.inl (of_decide_eq_true (hp.symm.trans hpermit)))
    exact ⟨hservice, hlink⟩
  · obtain ⟨hp, -, hfit, -, -, htime⟩ := ht i
    have hgood := htime e he (.inl (hfit (of_decide_eq_true (hp.symm.trans hpermit))))
    simpa [timingFit, hphase] using hgood

/-- Settles O59, by what every step carries over. -/
theorem queuesStayBounded : Obligations.QueuesStayBounded :=
  fun _ _ hq hp hstep => ⟨(keeps_of_step hstep).queues hq, (keeps_of_step hstep).ports hp⟩

/-- Settles O2: a well-formed command completes and leaves the queue, and the two malformed ones fault. -/
theorem commandsCompleteOrFault : Obligations.CommandsCompleteOrFault := by
  refine ⟨fun c s hc => ?_, fun f s hf => exec_malformedFrame s hf, fun ns osc s hns => exec_malformedStamp osc s hns⟩
  obtain ⟨t, ht, hk⟩ := exec_keeps c s hc
  exact ⟨t, ht, hk.pending⟩

/-- Settles O1. -/
theorem stepRunsFrontCommand : Obligations.StepRunsFrontCommand := fun _ _ _ => rfl

/-- Settles O60. -/
theorem resetMeetsInvariants : Obligations.ResetMeetsInvariants := by
  refine ⟨List.nodup_nil, rfl, Dsu.fresh_bounded, fun i => ?_, ?_,
    fun i => ?_⟩
  · fin_cases i <;> simp [State.reset, Four.get, Tenant.consistent]
  · refine ⟨by decide, by decide, by decide, by decide, by decide, ?_, by decide, by decide, by decide, by decide⟩
    exact (State.noticesBounded_iff _).2 ⟨List.nodup_nil, fun n hn => absurd hn List.not_mem_nil, fun o ho => by cases ho⟩
  · fin_cases i <;> decide

end Sys2Proof.Machine
end

section
/-! PROOFS. Site time's advance (R79), frames on the line (R189, R191), and the port's hand-over (R192, R193). -/

namespace Sys2Proof.Machine

/-! ### Site time -/

/-- The stamps of a moment less than half the range of the seconds after another differ by that time. -/
theorem timeDiff_timeAdd (t : SiteTime) {d : Int} (hlo : -(2 ^ 31 * 1000000000) ≤ t.ns + d)
    (hhi : t.ns + d < 2 ^ 31 * 1000000000) : timeDiff (timeAdd t d) t = d := by
  have hn : ((nsPerSec : Nat) : Int) = 1000000000 := rfl
  have hsec : (BitVec.ofInt 32 ((t.ns + d) / (nsPerSec : Int))).toInt = (t.ns + d) / (nsPerSec : Int) := by
    rw [BitVec.toInt_ofInt, hn]
    exact Int.bmod_eq_of_le (by omega) (by omega)
  have hcancel : t.sec + BitVec.ofInt 32 ((t.ns + d) / (nsPerSec : Int)) - t.sec =
      BitVec.ofInt 32 ((t.ns + d) / (nsPerSec : Int)) := by
    rw [add_comm, BitVec.add_sub_cancel]
  have hdiv := Int.mul_ediv_add_emod (t.ns + d) (nsPerSec : Int)
  have hmod := Int.emod_nonneg (t.ns + d) (show (nsPerSec : Int) ≠ 0 by decide)
  simp only [timeDiff, timeAdd, hcancel, hsec, Int.toNat_of_nonneg hmod]
  rw [hn] at hdiv ⊢
  omega

/-- Settles O3: the parts that a frame time adds are divided between the whole nanoseconds and the residue. -/
theorem siteTimeLosesNoFraction : Obligations.SiteTimeLosesNoFraction := by
  intro d hns hres hc
  obtain ⟨hlo, hhi⟩ := hc
  have hp : ((partsPerNs : Nat) : Int) = 8000000 := rfl
  simp only [Config.ppmLimit] at hlo hhi
  have hdiv := Int.mul_ediv_add_emod ((d.residue : Int) + 1000000000000 + d.c) (partsPerNs : Int)
  have hmod := Int.emod_nonneg ((d.residue : Int) + 1000000000000 + d.c) (show (partsPerNs : Int) ≠ 0 by decide)
  have hlt := Int.emod_lt_of_pos ((d.residue : Int) + 1000000000000 + d.c) (show (0 : Int) < (partsPerNs : Int) by decide)
  have hres' : (d.residue : Int) < (partsPerNs : Int) := by exact_mod_cast hres
  refine ⟨?_, timeAdd_ns_lt _ _, ?_⟩
  · simp only [Dsu.advance]
    rw [Int.toNat_of_nonneg hmod]
    rw [hp] at *
    rw [timeDiff_timeAdd d.time (by omega) (by omega)]
    omega
  · simp only [Dsu.advance]
    omega

/-! ### Frames on the line -/

/-- A run of bytes with no work in it but the receiver's own. -/
theorem takeByte_quiet {s : State} {b : Byte} {m : Mp} (h : s.mp.takeByte b = (m, none)) : s.takeByte b = { s with mp := m } := by
  simp [State.takeByte, h]

/-- The bytes of a body are gathered to its last (R189). -/
theorem gather_body {s : State} {got : Bytes} {left : Nat} {l : Bytes} (hrx : s.mp.rx = .body got left)
    (hleft : left = l.length) (hne : l ≠ []) :
    l.foldl State.takeByte s = { s with mp := { s.mp with rx := .check (got ++ l) [], rxIdle := 0 } } := by
  induction l generalizing s got left with
  | nil => exact absurd rfl hne
  | cons b bs ih =>
    rw [List.foldl_cons]
    cases bs with
    | nil =>
      have hb : s.mp.takeByte b = ({ s.mp with rx := .check (got ++ [b]) [], rxIdle := 0 }, none) := by
        simp [Mp.takeByte, hrx, hleft]
      rw [takeByte_quiet hb, List.foldl_nil]
    | cons c cs =>
      have hb : s.mp.takeByte b = ({ s.mp with rx := .body (got ++ [b]) (c :: cs).length, rxIdle := 0 }, none) := by
        simp [Mp.takeByte, hrx, hleft]
      rw [takeByte_quiet hb, ih rfl rfl (by simp)]
      simp

theorem length_le_two (n : Nat) : ∃ a b, le 2 n = [a, b] := by
  simp [le]

/-- A frame's bytes but for its CRC leave the receiver with what the CRC covers (R189). -/
theorem gather_frame {s : State} (hrx : s.mp.rx = .hunt) (kind tag : Byte) (body : Bytes) (hlen : body.length ≤ 1020) :
    (0xC5 :: frameInner kind tag body).foldl State.takeByte s =
      { s with mp := { s.mp with rx := .check (frameInner kind tag body) [], rxIdle := 0 } } := by
  obtain ⟨a, b, hab⟩ := length_le_two (2 + body.length)
  have hread : readLe [a, b] = 2 + body.length := by
    rw [← hab]
    exact readLe_le 2 _ (by norm_num; omega)
  have h0 : s.mp.takeByte 0xC5 = ({ s.mp with rx := .length [], rxIdle := 0 }, none) := by
    simp [Mp.takeByte, hrx, Mp.huntByte]
  have hinner : frameInner kind tag body = a :: b :: kind :: tag :: body := by
    simp [frameInner, hab]
  rw [hinner, List.foldl_cons, takeByte_quiet h0, List.foldl_cons,
    takeByte_quiet (m := { s.mp with rx := .length [a], rxIdle := 0 }) (by simp [Mp.takeByte]), List.foldl_cons,
    takeByte_quiet (m := { s.mp with rx := .body [a, b] (2 + body.length), rxIdle := 0 }) (by
      simp only [Mp.takeByte, Mp.lengthBytes, hread]
      rw [if_neg (by omega)]),
    gather_body rfl (by simp; omega) (by simp)]
  simp

/-- The CRC after a frame's bytes: the frame is received, or discarded and counted (R189). -/
theorem take_crc {s : State} {got : Bytes} {c : Bytes} (hrx : s.mp.rx = .check got []) (hlen : c.length = 2) :
    c.foldl State.takeByte s =
      if crcBytes got = c then
        { s with mp := { s.mp with rx := .hunt, rxIdle := 0 } }.receive (got.getD 2 0) (got.getD 3 0) (got.drop 4)
      else { s with mp := { s.mp with rx := .hunt, rxIdle := 0, counts.crc := s.mp.counts.crc + 1 } } := by
  match c, hlen with
  | [a, b], _ =>
    have ha : s.mp.takeByte a = ({ s.mp with rx := .check got [a], rxIdle := 0 }, none) := by simp [Mp.takeByte, hrx]
    rw [List.foldl_cons, takeByte_quiet ha, List.foldl_cons, List.foldl_nil]
    split
    · next hc => simp [State.takeByte, Mp.takeByte, hc]
    · next hc => simp [State.takeByte, Mp.takeByte, hc]

/-- Settles O4: the frame's bytes are gathered to its CRC, which decides. -/
theorem frameIsReceivedByItsCrc : Obligations.FrameIsReceivedByItsCrc := by
  intro s kind tag body hrx hlen
  have hexec : ∀ c : Bytes, exec (.frameReceived (0xC5 :: frameInner kind tag body ++ c)) s =
      .next (c.foldl State.takeByte
        { s with mp := { s.mp with rx := .check (frameInner kind tag body) [], rxIdle := 0 } }) := fun c => by
    rw [← gather_frame hrx kind tag body hlen, ← List.foldl_append]
    rfl
  have hhunt : ∀ m : Mp, m.rx = .hunt → { m with rx := .hunt } = m := fun m h => by rw [← h]
  obtain ⟨a, b, hab⟩ := length_le_two (2 + body.length)
  have hinner : frameInner kind tag body = a :: b :: kind :: tag :: body := by simp [frameInner, hab]
  refine ⟨?_, fun crc hcrc hne => ?_⟩
  · rw [show frameBytes kind tag body = 0xC5 :: frameInner kind tag body ++ crcBytes (frameInner kind tag body) from rfl,
      hexec, take_crc rfl (crcBytes_length _), if_pos rfl]
    simp [hinner, hrx]
  · rw [hexec, take_crc rfl hcrc, if_neg (Ne.symm hne)]
    simp [hrx]

/-- A byte other than 0xC5 in HUNT is counted. -/
theorem Mp.huntByte_other (m : Mp) {b : Byte} (h : b ≠ 0xC5) :
    m.huntByte b = { m with rx := .hunt, counts.hunt := m.counts.hunt + 1 } := if_neg h

theorem takeByte_hunt {s : State} {b : Byte} (hrx : s.mp.rx = .hunt) (hb : b ≠ 0xC5) : s.takeByte b =
    { s with mp := { s.mp with rx := .hunt, rxIdle := 0, counts.hunt := s.mp.counts.hunt + 1 } } :=
  takeByte_quiet (by simp only [Mp.takeByte, hrx, Mp.huntByte_other _ hb])

theorem count_succ (x : Count) (n : Nat) : x + 1 + BitVec.ofNat 32 n = x + BitVec.ofNat 32 (n + 1) := by
  rw [add_assoc, Nat.add_comm n 1, BitVec.ofNat_add]
  rfl

/-- Bytes without 0xC5 in HUNT are all counted. -/
theorem hunt_counts {s : State} {l : Bytes} (hrx : s.mp.rx = .hunt) (hidle : s.mp.rxIdle = 0) (hl : 0xC5 ∉ l) :
    l.foldl State.takeByte s = { s with mp.counts.hunt := s.mp.counts.hunt + BitVec.ofNat 32 l.length } := by
  induction l generalizing s with
  | nil => simp
  | cons b bs ih =>
    have hb : b ≠ 0xC5 := fun h => hl (h ▸ List.mem_cons_self)
    rw [List.foldl_cons, takeByte_hunt hrx hb, ih rfl rfl fun h => hl (List.mem_cons_of_mem b h)]
    simp only [List.length_cons, ← hrx, ← hidle, count_succ]

/-- Settles O5. -/
theorem huntFindsTheNextFrame : Obligations.HuntFindsTheNextFrame := by
  refine ⟨fun s b bytes hrx hno => ?_, fun s b0 b1 hrx hlen => ?_⟩
  · have hb : b ≠ 0xC5 := fun h => hno (h ▸ List.mem_cons_self)
    have hfold : (b :: bytes).foldl State.takeByte s =
        { s with mp.rxIdle := 0, mp.counts.hunt := s.mp.counts.hunt + BitVec.ofNat 32 (b :: bytes).length } := by
      rw [List.foldl_cons, takeByte_hunt hrx hb, hunt_counts rfl rfl fun h => hno (List.mem_cons_of_mem b h)]
      simp only [List.length_cons, ← hrx, count_succ]
    exact congrArg _ hfold
  · have h0 : s.mp.takeByte 0xC5 = ({ s.mp with rx := .length [], rxIdle := 0 }, none) := by
      simp [Mp.takeByte, hrx, Mp.huntByte]
    refine ⟨_, rfl, ?_⟩
    rw [List.foldl_cons, takeByte_quiet h0, List.foldl_cons,
      takeByte_quiet (m := { s.mp with rx := .length [b0], rxIdle := 0 }) (by simp [Mp.takeByte]), List.foldl_cons,
      List.foldl_nil, takeByte_quiet (by simp only [Mp.takeByte]; rfl)]
    simp only [Mp.lengthBytes, if_pos hlen]
    by_cases hb0 : b0 = 0xC5
    · simp [hb0, Mp.huntByte]
    · by_cases hb1 : b1 = 0xC5
      · subst hb1
        simp only [if_neg hb0, Mp.huntByte, if_true]
        exact ⟨rfl, rfl, rfl, rfl⟩
      · simp only [Mp.huntByte_other _ hb0, Mp.huntByte_other _ hb1, if_neg hb0, if_neg hb1]
        simp

/-- Where the port alone changes, and the line stays busy with no request waiting, the event ends there. -/
theorem State.close_port {s : State} (hs : s.lineBusy) {m n : Mp} (hm : m = n) (hin : n.inbound = s.mp.inbound)
    (hline : n.line = s.mp.line) : ({ s with mp := m } : State).close = { s with mp := n } := by
  obtain ⟨⟨hwork, hremoved, hinbound⟩, hbusy⟩ := hs
  subst hm
  exact State.close_lineBusy ⟨⟨hwork, hremoved, hin.trans hinbound⟩, (congrArg Option.isSome hline).trans hbusy⟩

theorem Mp.badStop_frame {m : Mp} (h : m.rx ≠ .hunt) :
    m.badStop = { m with rx := .hunt, rxIdle := 0, counts.byteError := m.counts.byteError + 1 } := if_neg h

theorem Mp.badStop_hunt {m : Mp} (h : m.rx = .hunt) : m.badStop = m := if_pos h

theorem Mp.timeout_frame {m : Mp} (h : m.rx ≠ .hunt) :
    m.timeout = { m with rx := .hunt, rxIdle := 0, counts.timeout := m.counts.timeout + 1 } := if_neg h

theorem Mp.timeout_hunt {m : Mp} (h : m.rx = .hunt) : m.timeout = m := if_pos h

/-- Settles O6: the frame in progress, if one is, is dropped, and a quiet port has nothing else to do. -/
theorem frameErrorsDiscard : Obligations.FrameErrorsDiscard := by
  intro s hs
  have herror : exec .byteError s = .next ({ s with mp := s.mp.badStop } : State).close := rfl
  have htimeout : exec .frameTimeout s = .next ({ s with mp := s.mp.timeout } : State).close := rfl
  rw [herror, htimeout]
  refine ⟨fun hrx => ⟨?_, ?_⟩, fun hrx => ⟨?_, ?_⟩⟩
  · rw [State.close_port hs (Mp.badStop_frame hrx) rfl rfl]
  · rw [State.close_port hs (Mp.timeout_frame hrx) rfl rfl]
  · rw [State.close_port hs (Mp.badStop_hunt hrx) rfl rfl]
  · rw [State.close_port hs (Mp.timeout_hunt hrx) rfl rfl]

/-! ### A request's body by its kind -/

/-- Settles O7, kind by kind. -/
theorem requestBodyRoundTrip : Obligations.RequestBodyRoundTrip := by
  intro r kind body hshape hwire
  cases r with
  | unknownKind | badLength => cases hwire
  | ident | phaseGet | alignEnd | alignPeakReset | proveForce | siteReseek | siteStop | imageCommit | imageSave | linkGet
  | noteRead | thermalGet | refGet | timeGet | mapGet | testLog | faultGet =>
    cases hwire
    exact ⟨rfl, by simp⟩
  | siteRestart | profileCap | profileFix | tenantGet | tenantBar | tenantUnbar | testRun | testAbort | faultAck =>
    cases hwire
    exact ⟨rfl, by simp⟩
  | imageWrite off data =>
    cases hwire
    simp only [ReqBody.shaped, Bool.and_eq_true, decide_eq_true_eq] at hshape
    simp [parseBody, writeRequest, hshape, word_le]
    omega
  | imageRead off n =>
    cases hwire
    simp [parseBody, ofLength, word_le]
  | noteSend b =>
    cases hwire
    simp only [ReqBody.shaped, Bool.and_eq_true, decide_eq_true_eq] at hshape
    simp [parseBody, noteRequest, hshape]
    omega
  | thermalEnable b =>
    cases b with
    | none =>
      cases hwire
      exact ⟨rfl, by simp⟩
    | some b =>
      cases hwire
      simp [parseBody, ofLength, readThermalBody, slice, List.drop_append]
  | timeSet b =>
    cases hwire
    simp [parseBody, ofLength, readTimeSet, slice, List.drop_append, List.drop_of_length_le]
  | tenantSet i a e =>
    cases e with
    | none =>
      cases hwire
      exact ⟨rfl, by simp⟩
    | some e =>
      cases hwire
      simp only [ReqBody.shaped, decide_eq_true_eq] at hshape
      simp [parseBody, tenantRequest, hshape]
  | faultClear rows =>
    cases hwire
    simp [parseBody, ofLength, word_le]
  | faultSet b cap =>
    cases hwire
    simp only [ReqBody.shaped, decide_eq_true_eq] at hshape
    simp [parseBody, ofLength, hshape]

/-! ### The hand-over -/

/-- Work inside the blocks leaves the port's line, slot and queues. -/
theorem State.InnerOf.port_eq {Q : View → Prop} {s t : State} (h : State.InnerOf Q s t) : t.mp.line = s.mp.line
    ∧ t.mp.slot = s.mp.slot ∧ t.mp.inbound = s.mp.inbound ∧ t.mp.restart = s.mp.restart
    ∧ t.mp.restartDue = s.mp.restartDue := by
  have hp := h.port
  simp only [Mp.still, Mp.mk.injEq] at hp
  exact ⟨by simp [hp], by simp [hp], by simp [hp], by simp [hp], by simp [hp]⟩

/-- What an owner does to a request leaves the line as it was (R193). -/
theorem State.serve_line (s : State) (r : ReqBody) : (s.serve r).state.finishWork.mp.line = s.mp.line := by
  have hwork : ∀ t : State, t.finishWork.mp.line = t.mp.line := fun t =>
    (State.InnerOf.refl (Q := View.consistent) t).finishWork.port_eq.1
  rw [hwork]
  by_cases hr : r.isRestart = false
  · exact (State.InnerOf.serve s hr).port_eq.1
  · cases r with
    | siteRestart o =>
      simp only [State.serve, State.reqRestart]
      split
      · rfl
      · split <;> rfl
    | _ => exact absurd rfl hr

@[simp] theorem State.reply_line (s : State) (r : Request) (a : Answer) : (s.reply r a).mp.line = s.mp.line := rfl

/-- A request at a ready port is the owner's act, the event's work and the reply (R193). -/
theorem State.submit_served {s : State} (h : s.ready) (r : Request) :
    s.submit r = (s.received.serve r.body).state.finishWork.reply r (s.received.serve r.body) := by
  refine State.submit_ready h ?_
  rw [State.act1, State.reply_line, State.serve_line]
  exact h.1.2

/-- A request that finds the slot full (R192). -/
theorem State.submit_full {s : State} (hwork : s.work = {}) (hremoved : s.stu.removed = []) (hline : s.mp.line.isSome = true)
    (hslot : s.mp.slot.isSome = true) (r : Request) : s.submit r = { s with mp := s.mp.arrive r } := by
  have hs : (s.mp.arrive r).slot = s.mp.slot := by
    unfold Mp.arrive
    dsimp only
    split
    · rfl
    · split <;> rfl
  exact State.close_idle hwork hremoved (by simpa using hline) (.inr (by simpa [hs] using hslot))

/-- Settles O8. -/
theorem portTakesQueuesOrRefuses : Obligations.PortTakesQueuesOrRefuses := by
  refine ⟨fun s r hs => ?_, fun s r hwork hremoved hline hslot => ?_⟩
  · have hsub := State.submit_served hs r
    exact ⟨hsub, by rw [hsub, State.reply_mp_slot]; rfl⟩
  · rw [State.submit_full hwork hremoved hline hslot r]
    unfold Mp.arrive
    dsimp only
    split
    · rfl
    · split <;> rfl

end Sys2Proof.Machine
end

section
/-! PROOFS. What requests answer (R191, R193): the refusals, the reports, and the requests whose owner leaves no work; and
the outbound line (R190, R194 to R197). -/

namespace Sys2Proof.Machine

/-! ### Refusals change nothing -/

/-- An answer that changes the state only if it is OK. -/
def Answer.sound (s : State) (a : Answer) : Prop := a.status ≠ .ok → a.state = s

namespace Answer.sound

variable {s : State} {a b : Answer}

theorem refuse (s : State) (st : Status) : (refuse s st).sound s := fun _ => rfl

theorem okWith (s t : State) (f : State → Bytes) : (okWith t f).sound s := fun h => absurd rfl h

theorem okOnly (s t : State) : (okOnly t).sound s := fun h => absurd rfl h

theorem ite {c : Prop} [Decidable c] (ha : a.sound s) (hb : b.sound s) : (if c then a else b).sound s := by
  split
  · exact ha
  · exact hb

theorem outsideLoad (h : a.sound s) : (s.outsideLoad a).sound s := ite (refuse s _) h

theorem inLoad (h : a.sound s) : (s.inLoad a).sound s := ite (refuse s _) (ite (refuse s _) (ite (refuse s _) h))

theorem withTenant {b : Byte} {f : Fin 4 → Answer} (h : ∀ i, (f i).sound s) : (s.withTenant b f).sound s := by
  unfold State.withTenant
  split
  · exact h _
  · exact refuse s _

theorem setEntry (s : State) (i : Fin 4) (raw : Bytes) : (s.setEntry i raw).sound s := by
  unfold State.setEntry
  refine ite (refuse s _) ?_
  split
  · exact okWith s _ _
  · exact ite (refuse s _) (okWith s _ _)

theorem vacateTenant (s : State) (i : Fin 4) : (s.vacateTenant i).sound s := by
  unfold State.vacateTenant
  split
  case h_4 | h_5 => exact refuse s _
  all_goals exact okWith s _ _

theorem reqTenantSet (s : State) (a b : Byte) (e : Option Bytes) : (s.reqTenantSet a b e).sound s := by
  unfold State.reqTenantSet
  refine outsideLoad ?_
  split
  · exact withTenant fun i => setEntry s i _
  · exact withTenant fun i => vacateTenant s i
  all_goals exact refuse s _

theorem reqSave (s : State) : s.reqSave.sound s := by
  unfold State.reqSave
  split
  · exact ite (refuse s _) (ite (refuse s _) (okOnly s _))
  · exact refuse s _

theorem reqThermal (s : State) (b : Option ThermalBody) : (s.reqThermal b).sound s := by
  unfold State.reqThermal
  refine outsideLoad ?_
  split
  · exact ite (okOnly s _) (okOnly s _)
  · exact ite (ite (okOnly s _) (refuse s _)) (ite (okOnly s _) (refuse s _))

theorem reqTestAbort (s : State) (b : Byte) : (s.reqTestAbort b).sound s := by
  unfold State.reqTestAbort
  refine outsideLoad (ite (refuse s _) ?_)
  split
  · exact okWith s _ _
  · exact ite (okWith s _ _) (okWith s _ _)

/-- Only a commit changes the state in an answer that is not OK. -/
theorem serve (s : State) {r : ReqBody} (hr : r ≠ .imageCommit) : (s.serve r).sound s := by
  cases r with
  | imageCommit => exact absurd rfl hr
  | ident | phaseGet | linkGet | thermalGet | refGet | timeGet | mapGet | testLog | faultGet => exact okWith s _ _
  | unknownKind | badLength => exact refuse s _
  | alignEnd | alignPeakReset | proveForce | siteReseek => exact ite (okOnly s _) (refuse s _)
  | siteStop => exact ite (refuse s _) (okOnly s _)
  | siteRestart o => exact ite (refuse s _) (ite (refuse s _) (okOnly s _))
  | imageWrite off b => exact inLoad (ite (refuse s _) (okOnly s _))
  | imageRead a b => exact ite (refuse s _) (ite (refuse s _) (ite (refuse s _) (okWith s _ _)))
  | imageSave => exact reqSave s
  | profileCap v | noteRead => exact okWith s _ _
  | profileFix v => exact outsideLoad (ite (okOnly s _) (ite (okOnly s _) (refuse s _)))
  | noteSend b => exact outsideLoad (ite (okOnly s _) (refuse s _))
  | thermalEnable b => exact reqThermal s b
  | timeSet b => exact outsideLoad (ite (okWith s _ _) (refuse s _))
  | tenantGet i => exact withTenant fun _ => okWith s _ _
  | tenantSet a b e => exact reqTenantSet s a b e
  | tenantBar b => exact outsideLoad (withTenant fun i => ite (refuse s _) (okOnly s _))
  | tenantUnbar b => exact outsideLoad (withTenant fun i => okOnly s _)
  | testRun b => exact ite (ite (okWith s _ _) (refuse s _)) (refuse s _)
  | testAbort b => exact reqTestAbort s b
  | faultAck b => exact ite (refuse s _) (ite (okOnly s _) fun _ => rfl)
  | faultClear b => exact ite (fun _ => rfl) (okWith s _ _)
  | faultSet b c => exact outsideLoad (ite (okWith s _ _) (refuse s _))

end Answer.sound

/-- Settles O9, owner by owner. -/
theorem refusedRequestsChangeNothing : Obligations.RefusedRequestsChangeNothing :=
  fun s _ hr hst => Answer.sound.serve s hr hst

/-! ### Requests at a ready port whose owner leaves the state as it was -/

/-- An answer that leaves the state is followed by nothing but its reply. -/
theorem State.submit_unchanged {s : State} (h : s.ready) {kind tag : Byte} {body : ReqBody} {st : Status} {f : State → Bytes}
    (ha : s.received.serve body = ⟨s.received, st, f⟩) (hbody : body.isRestart = false) :
    s.submit ⟨kind, tag, body⟩ = s.answer kind tag st (f s.received) := by
  rw [State.submit_answered h ha rfl rfl rfl]
  simp [State.reply, hbody, State.answer, Mp.answered, State.received]

/-- The request that a command brings, of the commands that bring one (12.6). -/
def requestOf : Instr → Option Request
  | .ident tag => some ⟨0x01, tag, .ident⟩
  | .phaseGet tag => some ⟨0x02, tag, .phaseGet⟩
  | .alignEnd tag => some ⟨0x03, tag, .alignEnd⟩
  | .alignPeakReset tag => some ⟨0x04, tag, .alignPeakReset⟩
  | .proveForce tag => some ⟨0x05, tag, .proveForce⟩
  | .siteReseek tag => some ⟨0x06, tag, .siteReseek⟩
  | .siteStop tag => some ⟨0x07, tag, .siteStop⟩
  | .siteRestart tag o => some ⟨0x08, tag, .siteRestart o⟩
  | .imageWrite tag off data => some ⟨0x10, tag, writeRequest off data⟩
  | .imageCommit tag => some ⟨0x11, tag, .imageCommit⟩
  | .imageRead tag off n => some ⟨0x12, tag, .imageRead off n⟩
  | .imageSave tag => some ⟨0x13, tag, .imageSave⟩
  | .linkGet tag => some ⟨0x18, tag, .linkGet⟩
  | .profileCap tag v => some ⟨0x19, tag, .profileCap v⟩
  | .profileFix tag v => some ⟨0x1A, tag, .profileFix v⟩
  | .noteSend tag b => some ⟨0x1B, tag, noteRequest b⟩
  | .noteRead tag => some ⟨0x1C, tag, .noteRead⟩
  | .thermalGet tag => some ⟨0x20, tag, .thermalGet⟩
  | .thermalEnable tag b => some ⟨0x21, tag, .thermalEnable b⟩
  | .refGet tag => some ⟨0x24, tag, .refGet⟩
  | .timeGet tag => some ⟨0x25, tag, .timeGet⟩
  | .timeSet tag b => some ⟨0x26, tag, .timeSet b⟩
  | .tenantGet tag i => some ⟨0x28, tag, .tenantGet i⟩
  | .tenantSet tag i a e => some ⟨0x29, tag, tenantRequest i a e⟩
  | .tenantBar tag i => some ⟨0x2A, tag, .tenantBar i⟩
  | .tenantUnbar tag i => some ⟨0x2B, tag, .tenantUnbar i⟩
  | .mapGet tag => some ⟨0x2C, tag, .mapGet⟩
  | .testRun tag i => some ⟨0x30, tag, .testRun i⟩
  | .testAbort tag i => some ⟨0x31, tag, .testAbort i⟩
  | .testLog tag => some ⟨0x32, tag, .testLog⟩
  | .faultGet tag => some ⟨0x38, tag, .faultGet⟩
  | .faultAck tag r => some ⟨0x39, tag, .faultAck r⟩
  | .faultClear tag rows => some ⟨0x3A, tag, .faultClear rows⟩
  | .faultSet tag b cap => some ⟨0x3B, tag, faultRequest b cap⟩
  | _ => none

theorem exec_request {c : Instr} {r : Request} (h : requestOf c = some r) (s : State) : exec c s = .next (s.submit r) := by
  cases c <;> cases h <;> rfl

/-- The command that brings such a request. -/
theorem exec_unchanged {s : State} (h : s.ready) {c : Instr} {kind tag : Byte} {body : ReqBody} {st : Status}
    {f : State → Bytes} (hc : requestOf c = some ⟨kind, tag, body⟩)
    (ha : s.received.serve body = ⟨s.received, st, f⟩) (hbody : body.isRestart = false) :
    exec c s = .next (s.answer kind tag st (f s.received)) := by
  rw [exec_request hc, State.submit_unchanged h ha hbody]

/-- The command whose request is refused. -/
theorem exec_refused {s : State} (h : s.ready) {c : Instr} {kind tag : Byte} {body : ReqBody} {st : Status}
    (hc : requestOf c = some ⟨kind, tag, body⟩) (hbody : body.isRestart = false)
    (ha : s.received.serve body = refuse s.received st) : exec c s = .next (s.answer kind tag st []) :=
  exec_unchanged h hc ha hbody

/-- A tenant number up to 3 reaches its tenant (R199). -/
theorem State.withTenant_lt (s : State) (i : Fin 4) (f : Fin 4 → Answer) : s.withTenant (BitVec.ofNat 8 i.val) f = f i := by
  unfold State.withTenant
  have hi : (BitVec.ofNat 8 i.val).toNat = i.val := by
    rw [BitVec.toNat_ofNat]
    omega
  simp only [hi, i.isLt, dite_true, Fin.eta]

theorem State.outsideLoad_of_ne {s : State} (h : s.spc.phase ≠ .load) (a : Answer) : s.outsideLoad a = a := if_neg h

theorem State.outsideLoad_load {s : State} (h : s.spc.phase = .load) (a : Answer) : s.outsideLoad a = refuse s .wrongPhase :=
  if_pos h

/-! The reports do not look at the port's counts (but for IDENT's). -/

theorem State.received_refBody (s : State) : s.received.refBody = s.refBody := by
  have hroll : ∀ ns, s.received.rollWindow ns = (s.rollWindow ns).received := fun ns => by
    unfold State.rollWindow State.closeWindow
    show (if s.pastClose ns then (if s.rfm.winClosed then _ else _) else _) = _
    split
    · split <;> rfl
    · rfl
  unfold State.refBody
  rw [show s.received.dsu.time.ns = s.dsu.time.ns from rfl, hroll]
  rfl

/-- The command of a request that only reports: `body` is what `f` reports of the state. -/
theorem exec_report {s : State} (h : s.ready) {c : Instr} {kind tag : Byte} {req : ReqBody} (f : State → Bytes) {body : Bytes}
    (hc : requestOf c = some ⟨kind, tag, req⟩) (ha : s.received.serve req = okWith s.received f)
    (hreq : req.isRestart = false) (hf : f s.received = body) : exec c s = .next (s.answer kind tag .ok body) :=
  hf ▸ exec_unchanged h hc ha hreq

/-- Settles O12: each owner reports, and nothing follows but the reply. -/
theorem reportRequestsChangeNothing : Obligations.ReportRequestsChangeNothing := by
  intro s tag hs
  have htenant (i : Fin 4) : s.received.tenantBody i = s.tenantBody i := rfl
  have hget (i : Fin 4) : s.received.serve (.tenantGet (BitVec.ofNat 8 i.val)) = okWith s.received (·.tenantBody i) :=
    State.withTenant_lt s.received i fun i => okWith s.received (·.tenantBody i)
  refine ⟨exec_report hs State.identBody rfl rfl rfl rfl, exec_report hs State.phaseBody rfl rfl rfl rfl,
    exec_report hs State.linkBody rfl rfl rfl rfl, exec_report hs State.thermalBody rfl rfl rfl rfl,
    exec_report hs State.refBody rfl rfl rfl (State.received_refBody s), exec_report hs State.timeBody rfl rfl rfl rfl,
    fun i => exec_report hs (·.tenantBody i) rfl (hget i) rfl (htenant i),
    exec_report hs State.mapBody rfl rfl rfl rfl, exec_report hs State.testLogBody rfl rfl rfl rfl,
    exec_report hs State.faultBody rfl rfl rfl rfl, fun hread off n hoff hn hn' hend =>
    exec_report hs (·.imageReadBody off.toNat n.toNat) rfl ?_ rfl rfl⟩
  have hbad : (!within 0 1023 off.toNat || !within 1 1000 n.toNat) = false := by
    simp only [within, Bool.or_eq_false_iff, Bool.not_eq_false', Bool.and_eq_true, decide_eq_true_eq]
    omega
  exact (if_neg hread).trans ((if_neg (by omega)).trans (if_neg (by simp [hbad])))

/-- A kind that the catalogue does not assign is read as such (R191). -/
theorem parseBody_unassigned {k : Nat} (h : k ∉ assignedKinds) (b : Bytes) : parseBody k b = .unknownKind := by
  unfold parseBody
  split
  all_goals first | rfl | exact absurd (by decide) h

/-- A refused SITE_RESTART is no restart (R9). -/
theorem exec_siteRestart_refused {s : State} (h : s.ready) {tag o : Byte} (hp : s.spc.phase ≠ .halt) :
    exec (.siteRestart tag o) s = .next (s.answer 0x08 tag .wrongPhase []) := by
  have ha : s.received.serve (.siteRestart o) = refuse s.received .wrongPhase := if_pos hp
  rw [exec_request rfl, State.submit_answered h ha rfl rfl rfl]
  rfl

/-- Settles O13: each refusal is the owner's first check, and nothing follows but the reply. -/
theorem refusalsAnswered : Obligations.RefusalsAnswered := by
  intro s tag hs
  have hload (hl : s.spc.phase = .load) (a : Answer) : s.received.outsideLoad a = refuse s.received .wrongPhase :=
    State.outsideLoad_load (s := s.received) hl a
  refine ⟨fun h => ⟨exec_refused hs rfl rfl (if_neg h), exec_refused hs rfl rfl (if_neg h)⟩,
    fun h => exec_refused hs rfl rfl (if_neg h), fun h1 h2 h3 => exec_refused hs rfl rfl (if_neg ?_),
    fun h => exec_refused hs rfl rfl (if_pos h), fun h o => exec_siteRestart_refused hs h,
    fun h => ⟨exec_refused hs rfl rfl (if_pos h), fun off data h1 h2 => ?_⟩, fun h => exec_refused hs rfl rfl ?_,
    fun h1 h2 i => exec_refused hs rfl rfl (if_neg ?_),
    fun h => ⟨fun v => exec_refused hs rfl rfl (hload h _), fun b h1 h2 => ?_,
      fun b => exec_refused hs rfl rfl (hload h _), fun b => exec_refused hs rfl rfl (hload h _),
      fun i a => exec_refused (body := .tenantSet i a none) hs rfl rfl (hload h _),
      fun i => exec_refused hs rfl rfl (hload h _), fun i => exec_refused hs rfl rfl (hload h _),
      fun i => exec_refused hs rfl rfl (hload h _), fun b c hb => ?_⟩, fun kind hk hne => ?_, fun kind hk => ?_⟩
  · rintro (h | h | h)
    exacts [h1 h, h2 h, h3 h]
  · have hw : writeRequest off data = .imageWrite off data := if_pos ⟨h1, h2⟩
    exact exec_refused (body := .imageWrite off data) hs (congrArg (some ∘ Request.mk 0x10 tag) hw) rfl
      (if_pos (c := s.received.spc.phase ≠ .load) h)
  · have hst : s.received.il.state ≠ .accepted := h
    simp only [State.serve, State.reqSave]
    split
    · exact if_pos hst
    · rfl
  · rintro (h | h)
    exacts [h1 h, h2 h]
  · have hn : noteRequest b = .noteSend b := if_pos ⟨h1, h2⟩
    exact exec_refused (body := .noteSend b) hs (congrArg (some ∘ Request.mk 0x1B tag) hn) rfl (hload h _)
  · have hf : faultRequest b c = .faultSet b c := if_pos hb
    exact exec_refused (body := .faultSet b c) hs (congrArg (some ∘ Request.mk 0x3B tag) hf) rfl (hload h _)
  · have hreceive : exec (.unknownKindRequest kind tag) s = .next (s.submit ⟨kind, tag, parseBody kind.toNat []⟩) :=
      congrArg Host.Outcome.next (if_neg (by omega))
    rw [hreceive, parseBody_unassigned hne, State.submit_refused hs rfl rfl]
  · have hreceive : exec (.unknownKindRequest kind tag) s = .next (State.close { s with mp := { s.mp with
        counts.received := s.mp.counts.received + 1, counts.replyKind := s.mp.counts.replyKind + 1 } }) :=
      congrArg Host.Outcome.next (if_pos hk)
    exact hreceive.trans (congrArg Host.Outcome.next (State.close_port hs.1 rfl rfl rfl))

end Sys2Proof.Machine
end

section
/-! PROOFS. How an event ends: the work left at the blocks, the reply, the line (R119, R193, R194; log 5); and the requests
and line events whose work is one allocation at most. -/

namespace Sys2Proof.Machine

/-! ### The line falls free -/

theorem Mp.nextFrame_inbound {m : Mp} {x : LineFrame × Mp} (h : m.nextFrame = some x) : x.2.inbound = m.inbound := by
  unfold Mp.nextFrame Mp.takeReply Mp.takeNotice at h
  split at h
  · cases h
    rfl
  · split at h <;> (cases h; rfl)
  · cases h
    rfl
  · split at h <;> cases h
    rfl

theorem Mp.startLine_inbound (m : Mp) : m.startLine.inbound = m.inbound := by
  unfold Mp.startLine
  split
  · rfl
  · split
    · next h => exact Mp.nextFrame_inbound h
    · rfl

/-- With no request waiting, the port begins a frame if it can, and that is all. -/
theorem State.settlePort_calm {s : State} (h : s.mp.inbound = []) : s.settlePort = { s with mp := s.mp.startLine } := by
  unfold State.settlePort
  rw [State.serveNext_empty h]
  exact State.serveNext_empty ((Mp.startLine_inbound s.mp).trans h)

/-- A calm part's event ends with the frame that may begin. -/
theorem State.close_calm {s : State} (h : s.calm) : s.close = { s with mp := s.mp.startLine } := by
  rw [State.close, State.finishWork_idle h.1 h.2.1, State.settlePort_calm h.2.2]

theorem Mp.startLine_due {m : Mp} (h : m.restartDue = true) : m.startLine = m := if_pos (by simp [h])

theorem Mp.startLine_free {m : Mp} (hline : m.line = none) (hdue : m.restartDue = false) :
    m.startLine = match m.nextFrame with
      | some x => { x.2 with line := some x.1 }
      | none => m := if_neg (by simp [hline, hdue])

/-- The frame on the line has left, and the next one begins. -/
theorem exec_lineFrameSent {s : State} (h : s.calm) :
    exec .lineFrameSent s = .next { s with mp := s.mp.lineSent.startLine } := by
  have hin : s.mp.lineSent.inbound = s.mp.inbound := by
    unfold Mp.lineSent
    split <;> rfl
  exact congrArg Host.Outcome.next (State.close_calm (s := { s with mp := s.mp.lineSent }) ⟨h.1, h.2.1, hin.trans h.2.2⟩)

/-- Settles O10. -/
theorem lineSendsRepliesFirst : Obligations.LineSendsRepliesFirst := by
  refine ⟨fun s f hs hf hr => ?_, fun s f hs hf hr hd => ?_⟩
  · have hsent : s.mp.lineSent = { s.mp with line := none, restartDue := true } := by
      simp only [Mp.lineSent, hf]
      rcases hr with hr | hr <;> simp [hr]
    rw [exec_lineFrameSent hs, hsent, Mp.startLine_due rfl]
  · have hsent : s.mp.lineSent = { s.mp with line := none } := by
      simp [Mp.lineSent, hf, hr, ← hd]
    have hnext : exec .lineFrameSent s = .next { s with mp := match ({ s.mp with line := none } : Mp).nextFrame with
        | some x => { x.2 with line := some x.1 }
        | none => { s.mp with line := none } } := by
      rw [exec_lineFrameSent hs, hsent, Mp.startLine_free (m := { s.mp with line := none }) rfl hd]
    rw [hnext]
    refine ⟨fun r hslot hbehind => ?_, fun x xs hstore hslot => ?_, fun n ns hstore hslot hnotices => ?_,
      fun hstore hslot hnotices => ?_, fun kind tag body => rfl⟩
    · cases hstore : s.mp.store with
      | nil => simp [Mp.nextFrame, Mp.takeReply, hslot, hstore, Reply.frame, lineFrame]
      | cons x xs => simp [Mp.nextFrame, Mp.takeReply, hslot, hstore, hbehind, Reply.frame, lineFrame]
    · rcases hslot with hslot | hslot
      · simp [Mp.nextFrame, Mp.takeReply, hslot, hstore, busyFrame, lineFrame, Status.code]
        rfl
      · cases hslot' : s.mp.slot with
        | none =>
          simp [Mp.nextFrame, Mp.takeReply, hslot', hstore, busyFrame, lineFrame, Status.code]
          rfl
        | some r =>
          simp [Mp.nextFrame, Mp.takeReply, hslot', hstore, hslot, busyFrame, lineFrame, Status.code]
          rfl
    · simp [Mp.nextFrame, Mp.takeReply, Mp.takeNotice, hslot, hstore, hnotices, Notice.frame, lineFrame]
    · simp [Mp.nextFrame, Mp.takeReply, Mp.takeNotice, hslot, hstore, hnotices]

end Sys2Proof.Machine
end

section
/-! PROOFS. How an event ends: the work left at the blocks and the reply (R119, R193; log 5); and the requests whose work is
one allocation at most (R39, R41, R48, R49, R60, R173, R182, R185). -/

namespace Sys2Proof.Machine

/-! ### The work left -/

/-- What an allocation at the end of an event may change. -/
structure Allocated where
  sha : Sha
  mpend : Option TxPendMap
  lastVer : Nat
  mapCause : MapCause
  fate : Option MapFate
  mcounts : MapStats
  mp : Mp

/-- The state with that changed. -/
def State.withAlloc (s : State) (a : Allocated) : State :=
  { s with
    sha := a.sha, mp := a.mp
    lfr := { s.lfr with
      tx := { s.lfr.tx with mpend := a.mpend, lastVer := a.lastVer }, mapCause := a.mapCause, fate := a.fate
      mcounts := a.mcounts } }

/-- A result handed over changes the fate of the newest map at the transmit side, and no other thing but the notices. -/
theorem State.handNewest_eq (s : State) (counts : MapCounts) (prof : Nat) (kind : TriggerKind) :
    ∃ a, s.handNewest counts prof kind = s.withAlloc a := by
  unfold State.handNewest
  dsimp only
  (repeat' split) <;> exact ⟨⟨_, _, _, _, _, _, _⟩, rfl⟩

theorem State.computeShare_eq (s : State) (t : Trigger) (o : ShareOut) : ∃ a, s.computeShare t o = s.withAlloc a := by
  obtain ⟨a, ha⟩ := State.handNewest_eq { s with sha := {
    newest := ⟨o.counts, s.shareIn.prof, some (o.kind t)⟩, grant := o.grant, tReq := o.tReq
    record := some (o.record s.shareIn t) } } o.counts s.shareIn.prof (o.kind t)
  exact ⟨a, ha⟩

/-- With no run active a computation gives and takes nothing at the Self-Test Unit. -/
theorem State.compute_eq {s : State} (h : s.stu.active = none) (t : Trigger) :
    s.compute t = s.computeShare t (share s.shareIn) := by
  have hactive : (s.computeShare t (share s.shareIn)).stu.active = none := by simp [h]
  unfold State.compute
  dsimp only
  generalize s.computeShare t (share s.shareIn) = c at hactive ⊢
  split
  · simp only [State.grantGiven, hactive]
  · split
    · simp only [hactive]
    · rfl

/-- No action of a response is left, and no run at the head is due. -/
def State.settled (s : State) : Prop := s.work.acts = [] ∧ s.work.runDue = false

theorem State.workStep_alloc {s : State} (h : s.settled) {t : Trigger} (ht : s.work.alloc = some t) :
    s.workStep = { s with work.alloc := none }.compute t := by
  simp [State.workStep, h.1, h.2, ht]

theorem State.workStep_done {s : State} (h : s.settled) (ht : s.work.alloc = none) : s.workStep = s := by
  simp [State.workStep, h.1, h.2, ht]

theorem State.doWork_done {s : State} (h : s.settled) (ht : s.work.alloc = none) (n : Nat) : State.doWork n s = s := by
  induction n with
  | zero => rfl
  | succ n ih => rw [State.doWork, State.workStep_done h ht, ih]

/-- The end of an event that leaves one allocation at most. -/
def State.allocated (s : State) (a : Allocated) : State := { s.withAlloc a with stu.removed := [], work := {} }

/-- Nothing has been allocated. -/
def State.unallocated (s : State) : Allocated :=
  ⟨s.sha, s.lfr.tx.mpend, s.lfr.tx.lastVer, s.lfr.mapCause, s.lfr.fate, s.lfr.mcounts, s.mp⟩

/-- The event ends: the runs removed in it and the phase it left are forgotten. -/
def State.endEvent (s : State) : State := { s with stu.removed := [], work.phase := none }

theorem State.finishWork_endEvent (s : State) : s.finishWork = (State.doWork 48 s).endEvent := rfl

/-- One computation, which leaves no work, is the rest of an event. -/
theorem State.doWork_computed {s t : State} (h : s.settled) {a : Trigger} (ha : s.work.alloc = some a)
    (hcompute : ({ s with work.alloc := none } : State).compute a = t) (ht : t.settled) (halloc : t.work.alloc = none)
    (n : Nat) : State.doWork (n + 1) s = t := by
  rw [State.doWork, State.workStep_alloc h ha, hcompute, State.doWork_done ht halloc]

/-- The rest of an event that leaves no action, with no run active, is one allocation at most. -/
theorem State.doWork_allocated {s : State} (h : s.settled) (hactive : s.stu.active = none) (n : Nat) :
    ∃ a, (State.doWork (n + 1) s).endEvent = s.allocated a := by
  have hwork : ({ s.work with alloc := none, phase := none } : Work) = {} := by rw [← h.1, ← h.2]
  cases ht : s.work.alloc with
  | none =>
    refine ⟨s.unallocated, ?_⟩
    rw [State.doWork_done h ht, State.allocated, ← hwork, ← ht]
    rfl
  | some t =>
    obtain ⟨a, hshare⟩ := State.computeShare_eq { s with work.alloc := none } t (share s.shareIn)
    have hcompute := (State.compute_eq (s := { s with work.alloc := none }) hactive t).trans hshare
    refine ⟨a, ?_⟩
    rw [State.doWork_computed h ht hcompute h rfl, State.allocated, ← hwork]
    rfl

/-- An event that leaves no work but an allocation, with no run active, ends with that allocation at most (R119). -/
theorem State.finishWork_allocated {s : State} (h : s.settled) (hactive : s.stu.active = none) :
    ∃ a, s.finishWork = s.allocated a := by
  rw [State.finishWork_endEvent]
  exact State.doWork_allocated h hactive 47

/-! ### Requests answered -/

/-- A request at a ready port: what its owner leaves, the event's work done, and the reply in the slot. -/
theorem exec_answered {s : State} (h : s.ready) {c : Instr} {kind tag : Byte} {body : ReqBody} {u : State} {st : Status}
    {f : State → Bytes} (hc : requestOf c = some ⟨kind, tag, body⟩) (ha : s.received.serve body = ⟨u, st, f⟩)
    (hbody : body.isRestart = false) :
    ∃ w p, u.finishWork = w ∧ exec c s = .next { w with mp := p }
      ∧ p.slot = some ⟨kind + 0x80, tag, e1 st.code ++ f w, false⟩ := by
  rw [exec_request hc, State.submit_served h, ha]
  refine ⟨_, _, rfl, rfl, (State.reply_mp_slot u.finishWork ⟨kind, tag, body⟩ ⟨u, st, f⟩).trans ?_⟩
  rw [hbody, Bool.false_and]

/-- A request whose owner leaves no work. -/
theorem exec_idle {s : State} (h : s.ready) {c : Instr} {kind tag : Byte} {body : ReqBody} {u : State} {st : Status}
    {f : State → Bytes} (hc : requestOf c = some ⟨kind, tag, body⟩) (ha : s.received.serve body = ⟨u, st, f⟩)
    (hbody : body.isRestart = false) (hwork : u.work = s.work) (hremoved : u.stu.removed = s.stu.removed) :
    ∃ p, exec c s = .next { u with mp := p } ∧ p.slot = some ⟨kind + 0x80, tag, e1 st.code ++ f u, false⟩ := by
  have hidle : u.finishWork = u :=
    State.finishWork_idle (hwork.trans h.1.1.1) (hremoved.trans h.1.1.2.1)
  obtain ⟨w, p, hw, hex⟩ := exec_answered h hc ha hbody
  rw [hidle] at hw
  exact ⟨p, hw ▸ hex⟩

/-- A request whose owner leaves no work but an allocation, with no run active. -/
theorem exec_allocated {s : State} (h : s.ready) {c : Instr} {kind tag : Byte} {body : ReqBody} {u : State} {st : Status}
    {f : State → Bytes} (hc : requestOf c = some ⟨kind, tag, body⟩) (ha : s.received.serve body = ⟨u, st, f⟩)
    (hbody : body.isRestart = false) (hu : u.settled) (hactive : u.stu.active = none) :
    ∃ a p, exec c s = .next { u.allocated a with mp := p }
      ∧ p.slot = some ⟨kind + 0x80, tag, e1 st.code ++ f (u.allocated a), false⟩ := by
  obtain ⟨a, hfinish⟩ := State.finishWork_allocated hu hactive
  obtain ⟨w, p, hw, hex⟩ := exec_answered h hc ha hbody
  rw [hfinish] at hw
  exact ⟨a, p, hw ▸ hex⟩

/-! ### The image -/

theorem State.inLoad_open {s : State} (hphase : s.spc.phase = .load) (hread : s.il.state ≠ .reading)
    (hsave : s.il.saving = false) (hacc : s.il.state ≠ .accepted) (a : Answer) : s.inLoad a = a := by
  simp [State.inLoad, hphase, hread, hsave, hacc]

theorem State.inLoad_busy {s : State} (hphase : s.spc.phase = .load) (h : s.il.state = .reading ∨ s.il.saving = true)
    (a : Answer) : s.inLoad a = refuse s .busy := by
  simp [State.inLoad, hphase, h]

/-- A request of IMAGE_WRITE is read as such. -/
theorem requestOf_imageWrite {tag : Byte} {off : BitVec 16} {data : Bytes} (h1 : 1 ≤ data.length) (h2 : data.length ≤ 1000) :
    requestOf (.imageWrite tag off data) = some ⟨0x10, tag, .imageWrite off data⟩ :=
  congrArg (some ∘ Request.mk 0x10 tag) (if_pos ⟨h1, h2⟩)

/-- Settles O17. -/
theorem imageWriteReplacesBytes : Obligations.ImageWriteReplacesBytes := by
  intro s tag off data hs hphase hwf h1 h2
  have hc := requestOf_imageWrite (tag := tag) (off := off) h1 h2
  refine ⟨fun hst hsave => ⟨fun hend => ?_, fun hend => ?_⟩, fun hbusy => ?_⟩
  · let was := s.il.state
    let w : State := { s.received with
      il.buffer := s.il.buffer.writeBytes off.toNat data, il.state := .staging }
    have hserve : s.received.serve (.imageWrite off data) = okOnly (if was = .staging then w else w.noteImage) := by
      refine (State.inLoad_open (s := s.received) hphase ?_ hsave ?_ _).trans (if_neg (Nat.not_lt.2 hend))
      all_goals
        show s.il.state ≠ _
        rcases hst with hst | hst | hst <;> simp [hst]
    have hil : (if was = .staging then w else w.noteImage).il = w.il := by
      split
      · rfl
      · simp
    obtain ⟨p, hex, hslot⟩ := exec_idle hs hc hserve rfl (by split <;> simp [w, State.received])
      (by split <;> simp [w, State.received])
    refine ⟨_, hex, ?_, hslot, fun a => ?_⟩
    · exact congrArg Il.state hil
    · exact (congrArg (fun x => x.buffer.read a) hil).trans (Memory.read_writeBytes off.toNat data hwf hend a)
  · refine exec_refused hs hc rfl ((State.inLoad_open (s := s.received) hphase ?_ hsave ?_ _).trans (if_pos hend))
    all_goals
      show s.il.state ≠ _
      rcases hst with hst | hst | hst <;> simp [hst]
  · exact exec_refused hs hc rfl (State.inLoad_busy (s := s.received) hphase hbusy _)

theorem State.startSave_eq (s : State) (l : LinkSet) : ∃ m, s.startSave l = { s with
    il.buffer := Memory.ofBytes (renderImage (s.sections l)).1, il.dir := (renderImage (s.sections l)).2
    il.saving := true, mp := m } := ⟨_, rfl⟩

/-- A save that ends leaves everything but the record of the image (R186). -/
theorem State.endSave_eq {s : State} (hsave : s.il.saving = true) (hafter : s.il.afterSave = none) (written : Nat)
    (back : Bytes) : ∃ m, s.endSave written back = { s with
      il := { s.il with saving := false, lastSave := some (s.il.saveResult written back) }, mp := m }
      ∧ m.inbound = s.mp.inbound := by
  refine ⟨({ s with il.saving := false, il.lastSave := some (s.il.saveResult written back) } : State).noteImage.mp, ?_,
    by simp [State.noteImage]⟩
  unfold State.endSave
  rw [if_pos hsave]
  simp only [(State.noteImage_frame _).2.2.2.2.2.2.2.2.2.2.2.1, hafter]
  rfl

theorem Memory.readBytes_getElem? (m : Memory) (a n k : Nat) :
    (m.readBytes a n)[k]? = if k < n then some (m.read (a + k)) else none := by
  induction n generalizing a k with
  | zero => rfl
  | succ n ih =>
    cases k with
    | zero => rfl
    | succ k =>
      simp only [Memory.readBytes, List.getElem?_cons_succ, ih, Nat.add_lt_add_iff_right]
      rw [Nat.add_right_comm, Nat.add_assoc]

/-- Bytes read back compare equal with the buffer when each does. -/
theorem take_eq_readBytes_iff (m : Memory) (back : Bytes) (len : Nat) :
    back.take len = m.readBytes 0 len ↔ ∀ a, a < len → back[a]? = some (m.read a) := by
  rw [List.ext_getElem?_iff]
  refine forall_congr' fun a => ?_
  rw [List.getElem?_take, Memory.readBytes_getElem?, Nat.zero_add]
  by_cases ha : a < len <;> simp [ha]

/-- A save is DONE when the whole image was written and reads back equal (R186). -/
theorem Il.saveResult_done {il : Il} {written : Nat} {back : Bytes} (hlen : il.length ≤ written)
    (hsame : ∀ a, a < il.length → back[a]? = some (il.buffer.read a)) : il.saveResult written back = (.done, il.length) := by
  unfold Il.saveResult
  dsimp only
  rw [if_pos ⟨hlen, (take_eq_readBytes_iff _ _ _).2 hsame⟩, Nat.min_eq_right hlen]

theorem Il.saveResult_failed {il : Il} {written : Nat} {back : Bytes}
    (h : written < il.length ∨ ¬ ∀ a, a < il.length → back[a]? = some (il.buffer.read a)) :
    il.saveResult written back = (.failed, min written il.length) := by
  unfold Il.saveResult
  dsimp only
  rw [if_neg]
  rintro ⟨hlen, hsame⟩
  rcases h with h | h
  · omega
  · exact h ((take_eq_readBytes_iff _ _ _).1 hsame)

/-- Settles O19. -/
theorem imageSaveRendersAndEnds : Obligations.ImageSaveRendersAndEnds := by
  refine ⟨fun s tag l hs hacc hlink => ⟨fun hsave => ?_, fun hsave => ?_⟩, fun s written back hs hsave hafter => ?_⟩
  · have hserve : s.received.serve .imageSave = okOnly (s.received.startSave l) := by
      show s.received.reqSave = _
      simp [State.reqSave, State.received, hlink, hacc, hsave]
    have hsections : s.received.sections l = s.sections l := rfl
    obtain ⟨m, hm⟩ := State.startSave_eq s.received l
    rw [hm, hsections] at hserve
    generalize renderImage (s.sections l) = r at hserve ⊢
    obtain ⟨p, hex, hslot⟩ := exec_idle hs (c := .imageSave tag) rfl hserve rfl (by rfl) (by rfl)
    exact ⟨_, hex, rfl, hacc, rfl, hslot⟩
  · refine exec_refused hs rfl rfl ?_
    show s.received.reqSave = _
    simp [State.reqSave, State.received, hlink, hacc, hsave]
  · obtain ⟨m, hend, hin⟩ := State.endSave_eq hsave hafter written back
    have hclose : exec (.saveDone written back) s = .next (s.endSave written back).close := rfl
    have hcalm : (s.endSave written back).calm := by
      rw [hend]
      exact ⟨hs.1, hs.2.1, hin.trans hs.2.2⟩
    rw [hclose, State.close_calm hcalm, hend]
    exact ⟨_, rfl, fun hlen hsame => by rw [Il.saveResult_done hlen hsame]; rfl,
      fun hfail => by rw [Il.saveResult_failed hfail]; rfl, rfl⟩

/-! ### Link and profile -/

theorem State.recomputeCeiling_eq (s : State) : ∃ m, s.recomputeCeiling = { s with lau.ceiling := s.ceilingNow, mp := m } := by
  unfold State.recomputeCeiling
  split
  · next h => exact ⟨s.mp, by rw [h]⟩
  · exact ⟨_, rfl⟩

/-- Settles O20. -/
theorem profileCapSetsCeiling : Obligations.ProfileCapSetsCeiling := by
  intro s tag v hs
  obtain ⟨m, hm⟩ := State.recomputeCeiling_eq { s.received with lau.hostCap := min 7 v.toNat }
  have hserve : s.received.serve (.profileCap v) = okWith _ State.capBody := congrArg (okWith · State.capBody) hm
  obtain ⟨p, hex, hslot⟩ := exec_idle hs (c := .profileCap tag v) rfl hserve rfl (by rfl) (by rfl)
  exact ⟨_, hex, rfl, rfl, hslot, rfl⟩

/-- A fix, or a release of the one in force (R48). -/
theorem State.setFix_eq {s : State} {v : Option Nat} (h : ¬ (v = none ∧ s.lau.fix = none)) : ∃ m, s.setFix v = { s with
    lau.fix := v
    lau.wish := match v with
      | some x => if s.lfr.rx.framer.carries then x else s.lau.wish
      | none => if s.lfr.rx.framer.carries then s.lfr.rx.prof else 0
    mp := m } := by
  unfold State.setFix
  rw [if_neg h]
  exact ⟨_, rfl⟩

/-- Settles O21. -/
theorem profileFixSetsWish : Obligations.ProfileFixSetsWish := by
  intro s tag v hs hload
  have hout (a : Answer) : s.received.outsideLoad a = a := State.outsideLoad_of_ne (s := s.received) hload a
  refine ⟨fun hv => ?_, fun hv x hx => ?_, fun hv hfix => ?_, fun hlow hhigh => ?_⟩
  · obtain ⟨m, hm⟩ := State.setFix_eq (s := s.received) (v := some v.toNat) (by simp)
    have hserve : s.received.serve (.profileFix v) = okOnly _ :=
      (hout _).trans ((if_pos hv).trans (congrArg okOnly hm))
    obtain ⟨p, hex, hslot⟩ := exec_idle hs (c := .profileFix tag v) rfl hserve rfl (by rfl) (by rfl)
    exact ⟨_, hex, rfl, rfl, hslot, rfl⟩
  · obtain ⟨m, hm⟩ := State.setFix_eq (s := s.received) (v := none) (by simp [State.received, hx])
    have hserve : s.received.serve (.profileFix v) = okOnly _ :=
      (hout _).trans ((if_neg (by omega)).trans ((if_pos hv).trans (congrArg okOnly hm)))
    obtain ⟨p, hex, hslot⟩ := exec_idle hs (c := .profileFix tag v) rfl hserve rfl (by rfl) (by rfl)
    exact ⟨_, hex, rfl, rfl, hslot⟩
  · have hnone : s.received.setFix none = s.received := if_pos ⟨rfl, hfix⟩
    have hserve : s.received.serve (.profileFix v) = okOnly s.received :=
      (hout _).trans ((if_neg (by omega)).trans ((if_pos hv).trans (congrArg okOnly hnone)))
    exact exec_unchanged hs rfl hserve rfl
  · exact exec_refused hs rfl rfl ((hout _).trans ((if_neg (by omega)).trans (if_neg (by omega))))

/-- An owner that leaves no work and the port as it was is followed by its reply alone. -/
theorem exec_plain {s : State} (h : s.ready) {c : Instr} {kind tag : Byte} {body : ReqBody} {u : State} {st : Status}
    {f : State → Bytes} (hc : requestOf c = some ⟨kind, tag, body⟩) (ha : s.received.serve body = ⟨u, st, f⟩)
    (hbody : body.isRestart = false) (hwork : u.work = s.work) (hremoved : u.stu.removed = s.stu.removed)
    (hmp : u.mp = s.received.mp) :
    exec c s = .next ({ u with mp := s.mp }.answer kind tag st (f u)) := by
  have hline : u.mp.line = s.mp.line := (congrArg Mp.line hmp :)
  rw [exec_request hc, State.submit_answered h ha hwork hremoved hline]
  simp [State.reply, hbody, State.answer, Mp.answered, State.received, hmp]

/-- Settles O22. -/
theorem notesQueueAndRead : Obligations.NotesQueueAndRead := by
  intro s tag hs
  refine ⟨fun b h1 h2 hload => ?_, fun n ns hrelay => ?_, fun hrelay => ?_⟩
  · have hc : requestOf (.noteSend tag b) = some ⟨0x1B, tag, .noteSend b⟩ :=
      congrArg (some ∘ Request.mk 0x1B tag) (if_pos ⟨h1, h2⟩)
    have hout (a : Answer) : s.received.outsideLoad a = a := State.outsideLoad_of_ne (s := s.received) hload a
    have hroom : s.received.lfr.tx.svcRoom = decide (s.lfr.tx.svc.length < 8) := rfl
    refine ⟨fun hlt => ?_, fun hfull => ?_⟩
    · exact exec_plain hs hc ((hout _).trans (if_pos (by simp [hroom, hlt]))) rfl rfl rfl rfl
    · exact exec_refused hs hc rfl ((hout _).trans (if_neg (by simp [hroom, hfull])))
  · have hserve : s.received.serve .noteRead = okWith { s.received with lfr.rx.relay := ns, lfr.rx.relayLost := 0 }
        (fun _ => noteReadBody (some n) ns.length s.lfr.rx.relayLost) := by
      simp [State.serve, State.reqNoteRead, State.received, hrelay]
    exact exec_plain hs rfl hserve rfl rfl rfl rfl
  · have hserve : s.received.serve .noteRead = okWith { s.received with lfr.rx.relayLost := 0 }
        (fun _ => noteReadBody none 0 s.lfr.rx.relayLost) := by
      simp only [State.serve, State.reqNoteRead, State.received, hrelay, List.head?_nil, List.tail_nil, List.length_nil]
    exact exec_plain hs rfl hserve rfl rfl rfl rfl

/-! ### Thermal -/

@[simp] theorem State.thermalSettle_tlm (s : State) (old : Tlm) : (State.thermalSettle s old).tlm = { s.tlm with level := s.tlm.levelNow } := by
  unfold State.thermalSettle
  dsimp only
  (repeat' split) <;> simp

/-- The limiter once settings are in force (R54, R58 to R60). -/
theorem State.thermalForce_tlm (s : State) (set : ThermalSet) :
    (s.thermalForce set true).tlm.set = set ∧ (s.thermalForce set true).tlm.enabled = true
      ∧ (s.thermalForce set true).tlm.locked = true ∧ (s.thermalForce set true).tlm.sensor = s.tlm.sensor
      ∧ (s.thermalForce set true).tlm.level =
        max (s.thermalForce set true).tlm.sensor (s.thermalForce set true).tlm.hotHold := by
  have hforce (v : State) (old : Tlm) :
      ((v.settleFailSafe old).thermalSettle old).tlm = { v.tlm with level := v.tlm.levelNow } := by
    rw [State.thermalSettle_tlm, show (v.settleFailSafe old).tlm = v.tlm by simp]
  unfold State.thermalForce
  dsimp only
  rw [hforce]
  split <;> exact ⟨rfl, Bool.or_true _, Bool.or_true _, rfl, if_pos (Bool.or_true _)⟩

/-- Settles O23. -/
theorem thermalEnableLocks : Obligations.ThermalEnableLocks := by
  intro s tag hs hload
  have hout (a : Answer) : s.received.outsideLoad a = a := State.outsideLoad_of_ne (s := s.received) hload a
  have henable (body : Option ThermalBody) (set : ThermalSet)
      (hserve : s.received.serve (.thermalEnable body) = okOnly (s.received.thermalForce set true)) :
      ∃ t, exec (.thermalEnable tag body) s = .next t ∧ t.tlm = (s.received.thermalForce set true).tlm := by
    obtain ⟨w, p, hw, hex, -⟩ := exec_answered hs (c := .thermalEnable tag body) rfl hserve rfl
    have hframe := (State.finishWork_frame (s.received.thermalForce set true)).2.2
    rw [hw] at hframe
    exact ⟨_, hex, hframe⟩
  refine ⟨fun hlock => ⟨fun b hflags hvalid => ?_, fun b hbad => ?_, ?_⟩, fun hlock => ⟨?_, fun b hflags => ?_⟩⟩
  · obtain ⟨t, hex, ht⟩ := henable (some b) (thermalSetOf b)
      ((hout _).trans (by simp [State.received, hlock, hflags, hvalid]))
    obtain ⟨hset, hon, hlocked, hsensor, hlevel⟩ := State.thermalForce_tlm s.received (thermalSetOf b)
    exact ⟨t, hex, ht ▸ hset, ht ▸ hon, ht ▸ hlocked, ht ▸ hsensor, ht ▸ hlevel⟩
  · refine exec_refused hs rfl rfl ((hout _).trans ?_)
    have hno : (thermalFlagsOk b && (thermalSetOf b).valid) = false := by
      rcases hbad with hbad | hbad <;> simp [hbad]
    simp [State.received, hlock, hno]
  · obtain ⟨t, hex, ht⟩ := henable none s.tlm.set ((hout _).trans (by simp [State.received, hlock]))
    obtain ⟨hset, hon, hlocked, -, -⟩ := State.thermalForce_tlm s.received s.tlm.set
    exact ⟨t, hex, ht ▸ hset, ht ▸ hon, ht ▸ hlocked⟩
  · exact exec_unchanged hs rfl (st := .ok) (f := fun _ => []) ((hout _).trans (by simp [State.received, hlock, okOnly])) rfl
  · have hserve : s.received.serve (.thermalEnable (some b)) =
        ⟨s.received, if thermalSetOf b = s.tlm.set then .ok else .locked, fun _ => []⟩ := by
      refine (hout _).trans ?_
      by_cases hsame : thermalSetOf b = s.tlm.set <;>
        simp [State.received, hlock, hflags, hsame, okOnly, refuse]
    exact exec_unchanged hs rfl hserve rfl

/-! ### Faults cleared -/

/-- Settles O29. -/
theorem faultClearClearsMarkers : Obligations.FaultClearClearsMarkers := by
  intro s tag rows hs
  have hrefused (hbad : rows.toNat = 0 ∨ 2 ^ 21 ≤ rows.toNat) :
      s.received.serve (.faultClear rows) = ⟨s.received, .badValue, State.faultRowsBytes⟩ := if_pos hbad
  refine ⟨fun hlow hhigh => ?_, fun hbad => exec_unchanged hs rfl (hrefused hbad) rfl⟩
  have hserve : s.received.serve (.faultClear rows) =
      okWith { s.received with fmn := s.fmn.clearMarkers rows.toNat } State.faultRowsBytes := if_neg (by omega)
  obtain ⟨p, hex, hslot⟩ := exec_idle hs (c := .faultClear tag rows) rfl hserve rfl (by rfl) (by rfl)
  exact ⟨_, hex, fun r => List.getElem?_mapIdx, rfl, rfl, rfl, hslot, rfl⟩

end Sys2Proof.Machine
end

section
/-! PROOFS. The Fault Monitor (R164 to R175): what a raise does by the response of its phase, and the requests that
acknowledge and set. -/

namespace Sys2Proof.Machine

/-! ### What a raise does -/

/-- The action that a response leaves in `work` (R169 to R171). -/
def Response.action (a : Response) (row : Nat) : List Action :=
  match a with
  | .bar => [.bar (rowTenant row)]
  | .reseek => [.reseek]
  | .halt => [.halt]
  | .none | .note | .cap => []

/-- The fault table once a response's action has begun. -/
def Fmn.begun (f : Fmn) (a : Response) : Fmn := { f with capOn := f.capOn || decide (a = .cap) }

theorem State.beginAction_eq (s : State) (row : Nat) (a : Response) : ∃ c m, s.beginAction row a = { s with
    fmn := s.fmn.begun a, lau.ceiling := c, mp := m, work.acts := s.work.acts ++ a.action row }
    ∧ c = (if a = .cap then min s.lau.hostCap (min s.tlm.cap s.fmn.capSet) else s.lau.ceiling) := by
  have hsame (h : s.fmn.begun a = s.fmn) (hacts : a.action row = []) : s = { s with
      fmn := s.fmn.begun a, lau.ceiling := s.lau.ceiling, mp := s.mp, work.acts := s.work.acts ++ a.action row } := by
    rw [h, hacts, List.append_nil]
  cases a with
  | cap =>
    obtain ⟨m, hm⟩ := State.recomputeCeiling_eq { s with fmn.capOn := true }
    refine ⟨_, m, hm.trans ?_, rfl⟩
    simp [Fmn.begun, Response.action, State.ceilingNow, Fmn.cap]
  | note | none => exact ⟨_, s.mp, hsame (by simp [Fmn.begun]) rfl, rfl⟩
  | bar | reseek | halt => exact ⟨_, s.mp, by simp [State.beginAction, Fmn.begun, Response.action], rfl⟩

theorem State.noteReplaced_eq (s : State) (old : Option Outstanding) (r : Nat) :
    ∃ m, s.noteReplaced old r = { s with mp := m } := by
  unfold State.noteReplaced
  split
  · split
    · exact ⟨_, rfl⟩
    · exact ⟨_, rfl⟩
  · exact ⟨_, rfl⟩

/-- A response taken: the record is written and its action begins (R168 to R171). -/
theorem State.takeResponse_eq (s : State) (x : Raise) (resp : Response) : ∃ c m, s.takeResponse x resp = { s with
    fmn := (s.fmn.respond x resp s.dsu.time).begun (actsAs resp x.phase), lau.ceiling := c, mp := m
    work.acts := s.work.acts ++ (actsAs resp x.phase).action x.row }
    ∧ c = (if actsAs resp x.phase = .cap then min s.lau.hostCap (min s.tlm.cap s.fmn.capSet) else s.lau.ceiling) := by
  obtain ⟨c, m, hbegin, hc⟩ := State.beginAction_eq { s with fmn := s.fmn.respond x resp s.dsu.time } x.row
    (actsAs resp x.phase)
  obtain ⟨m', hnote⟩ := State.noteReplaced_eq
    ((State.beginAction { s with fmn := s.fmn.respond x resp s.dsu.time } x.row (actsAs resp x.phase)).noteFault x.row)
    s.fmn.out x.row
  have hcap : (s.fmn.respond x resp s.dsu.time).capSet = s.fmn.capSet := by
    unfold Fmn.respond
    cases s.fmn.out <;> rfl
  refine ⟨c, m', ?_, by rw [hc]; simp only [hcap]⟩
  show State.noteReplaced _ _ _ = _
  rw [hnote, hbegin]
  rfl

/-- The row latched with no response taken (R166). -/
def FaultRow.latch (w : FaultRow) : FaultRow := { w with latched := true, done := some .latched }

/-- The row masked (R167). -/
def FaultRow.mask (w : FaultRow) : FaultRow := { w with latched := true, masked := true, done := some .masked }

/-- A raise with no response in force, or with NONE, latches its row (R166). -/
theorem State.answerRaise_latched {s : State} {x : Raise}
    (h : s.fmn.response (rowClass x.row) x.phase = none ∨ s.fmn.response (rowClass x.row) x.phase = some .none) :
    ∃ m, s.answerRaise x = { s with fmn := s.fmn.modifyRow x.row FaultRow.latch, mp := m } := by
  unfold State.answerRaise
  rcases h with h | h <;> rw [h] <;> exact ⟨_, rfl⟩

/-- A raise whose response ranks no higher than that of the outstanding record is masked (R167). -/
theorem State.answerRaise_masked {s : State} {x : Raise} {resp : Response} {o : Outstanding}
    (h : s.fmn.response (rowClass x.row) x.phase = some resp) (hresp : resp ≠ .none) (ho : s.fmn.out = some o)
    (hrank : resp.rank ≤ o.rank) :
    ∃ m, s.answerRaise x = { s with fmn := s.fmn.modifyRow x.row FaultRow.mask, mp := m } := by
  unfold State.answerRaise
  rw [h]
  cases resp with
  | none => exact absurd rfl hresp
  | _ =>
    simp only [ho, if_pos hrank]
    exact ⟨_, rfl⟩

/-- A raise whose response ranks above every outstanding record is taken (R168). -/
theorem State.answerRaise_taken {s : State} {x : Raise} {resp : Response}
    (h : s.fmn.response (rowClass x.row) x.phase = some resp) (hresp : resp ≠ .none)
    (hrank : ∀ o, s.fmn.out = some o → o.rank < resp.rank) : s.answerRaise x = s.takeResponse x resp := by
  unfold State.answerRaise
  rw [h]
  cases resp with
  | none => exact absurd rfl hresp
  | _ =>
    cases ho : s.fmn.out with
    | none => rfl
    | some o => simp only [if_neg (Nat.not_le.2 (hrank o ho))]

/-- What a raise can do: the fault table, the ceiling, the notices, and the action of the response in force. -/
theorem State.raise_eq (s : State) (x : Raise) : ∃ f c m as, s.raise x = { s with
    fmn := f, lau.ceiling := c, mp := m, work.acts := s.work.acts ++ as }
    ∧ (as = [] ∨ (s.fmn.row x.row).active = false ∧ ∃ resp, s.fmn.response (rowClass x.row) x.phase = some resp
      ∧ as = (actsAs resp x.phase).action x.row) := by
  unfold State.raise
  split
  · exact ⟨s.fmn, s.lau.ceiling, s.mp, [], by simp, .inl rfl⟩
  · next hact =>
    cases hr : s.fmn.response (rowClass x.row) x.phase with
    | none =>
      obtain ⟨m, hm⟩ := State.answerRaise_latched (s := s.recordRaise x) (x := x) (.inl hr)
      exact ⟨_, s.lau.ceiling, m, [], by rw [hm, List.append_nil]; rfl, .inl rfl⟩
    | some resp =>
      by_cases hnone : resp = .none
      · obtain ⟨m, hm⟩ := State.answerRaise_latched (s := s.recordRaise x) (x := x) (.inr (hnone ▸ hr))
        exact ⟨_, s.lau.ceiling, m, [], by rw [hm, List.append_nil]; rfl, .inl rfl⟩
      · by_cases hrank : ∀ o, s.fmn.out = some o → o.rank < resp.rank
        · obtain ⟨c, m, ht, -⟩ := State.takeResponse_eq (s.recordRaise x) x resp
          refine ⟨_, c, m, _, (State.answerRaise_taken (s := s.recordRaise x) hr hnone hrank).trans ht,
            .inr ⟨by simpa using hact, resp, rfl, rfl⟩⟩
        · push Not at hrank
          obtain ⟨o, ho, hle⟩ := hrank
          obtain ⟨m, hm⟩ := State.answerRaise_masked (s := s.recordRaise x) (x := x) hr hnone ho hle
          exact ⟨_, s.lau.ceiling, m, [], by rw [hm, List.append_nil]; rfl, .inl rfl⟩

theorem State.clear_eq (s : State) (r : Nat) : ∃ f m, s.clear r = { s with fmn := f, mp := m } := by
  unfold State.clear
  split
  · dsimp only
    split
    · exact ⟨_, _, rfl⟩
    · exact ⟨_, _, rfl⟩
  · exact ⟨s.fmn, s.mp, rfl⟩

/-! ### FAULT_ACK and FAULT_SET -/

/-- The response in force for a raise (R166). -/
theorem Fmn.response_eq {f : Fmn} {cls : Nat} {pair : ResponsePair} (h : f.table[cls]? = some pair) {p : Phase}
    (hp : p ≠ .halt) : f.response cls p = some (if p.bringupSet then pair.bringup else pair.service) := by
  unfold Fmn.response
  rw [h]
  dsimp only
  rw [if_neg hp]
  split <;> rfl

theorem Fmn.response_halt (f : Fmn) (cls : Nat) : f.response cls .halt = none := by
  unfold Fmn.response
  split <;> rfl

theorem Fmn.respond_secRaises (f : Fmn) (x : Raise) (resp : Response) (now : SiteTime) :
    (f.respond x resp now).secRaises = f.secRaises := by
  unfold Fmn.respond
  cases f.out <;> rfl

/-- The row of a raise once its response is taken: it keeps what the raise recorded. -/
theorem Fmn.respond_row (f : Fmn) (x : Raise) (resp : Response) (now : SiteTime) (h : x.row < f.rows.length) :
    ∃ l, (f.respond x resp now).row x.row = { f.row x.row with
      done := some (if actsAs resp x.phase = resp then .taken else .takenAsNote), latched := l } := by
  unfold Fmn.respond
  cases f.out with
  | none => exact ⟨_, Fmn.row_modifyRow_same f x.row _ h⟩
  | some o =>
    dsimp only
    by_cases ho : x.row = o.row
    · refine ⟨true, ?_⟩
      show Fmn.row (Fmn.modifyRow _ o.row _) x.row = _
      rw [← ho, Fmn.row_modifyRow_same _ _ _ (by simpa using h), Fmn.row_modifyRow_same f x.row _ h]
    · refine ⟨(f.row x.row).latched, ?_⟩
      show Fmn.row (Fmn.modifyRow _ o.row _) x.row = _
      rw [Fmn.row_modifyRow_other _ _ ho, Fmn.row_modifyRow_same f x.row _ h]

/-- The row of a replaced record is latched (R168). -/
theorem Fmn.respond_replaced {f : Fmn} {o : Outstanding} (ho : f.out = some o) (x : Raise) (resp : Response)
    (now : SiteTime) (h : o.row < f.rows.length) : ((f.respond x resp now).row o.row).latched = true := by
  unfold Fmn.respond
  rw [ho]
  show (Fmn.row (Fmn.modifyRow _ o.row _) o.row).latched = true
  rw [Fmn.row_modifyRow_same _ _ _ (by simpa using h)]

theorem Fmn.respond_out (f : Fmn) (x : Raise) (resp : Response) (now : SiteTime) :
    (f.respond x resp now).out = some ⟨x.row, actsAs resp x.phase, (actsAs resp x.phase).rank, now, x.phase⟩ := rfl

theorem State.recordRaise_row (s : State) (x : Raise) (h : x.row < s.fmn.rows.length) :
    (s.recordRaise x).fmn.row x.row = { s.fmn.row x.row with
      active := true, time := some s.dsu.time, detail := x.detail, count := (s.fmn.row x.row).count + 1 } :=
  Fmn.row_modifyRow_same s.fmn x.row _ h

/-- A raise with no response in force, or with NONE (R166). -/
theorem State.raise_latched {s : State} {x : Raise} (hx : x.row < s.fmn.rows.length)
    (hact : (s.fmn.row x.row).active = false)
    (hresp : s.fmn.response (rowClass x.row) x.phase = none ∨ s.fmn.response (rowClass x.row) x.phase = some .none) :
    ∃ m, s.raise x = { s.recordRaise x with fmn := (s.recordRaise x).fmn.modifyRow x.row FaultRow.latch, mp := m }
      ∧ (s.raise x).fmn.row x.row = ((s.recordRaise x).fmn.row x.row).latch := by
  obtain ⟨m, hm⟩ := State.answerRaise_latched (s := s.recordRaise x) hresp
  have hraise : s.raise x = _ := (if_neg (by simp [hact])).trans hm
  refine ⟨m, hraise, ?_⟩
  rw [hraise]
  exact Fmn.row_modifyRow_same _ _ _ (by simpa [State.recordRaise] using hx)

theorem State.raise_masked {s : State} {x : Raise} {resp : Response} {o : Outstanding} (hx : x.row < s.fmn.rows.length)
    (hact : (s.fmn.row x.row).active = false) (h : s.fmn.response (rowClass x.row) x.phase = some resp)
    (hresp : resp ≠ .none) (ho : s.fmn.out = some o) (hrank : resp.rank ≤ o.rank) :
    ∃ m, s.raise x = { s.recordRaise x with fmn := (s.recordRaise x).fmn.modifyRow x.row FaultRow.mask, mp := m }
      ∧ (s.raise x).fmn.row x.row = ((s.recordRaise x).fmn.row x.row).mask := by
  obtain ⟨m, hm⟩ := State.answerRaise_masked (s := s.recordRaise x) h hresp ho hrank
  have hraise : s.raise x = _ := (if_neg (by simp [hact])).trans hm
  refine ⟨m, hraise, ?_⟩
  rw [hraise]
  exact Fmn.row_modifyRow_same _ _ _ (by simpa [State.recordRaise] using hx)

theorem State.raise_taken {s : State} {x : Raise} {resp : Response} (hact : (s.fmn.row x.row).active = false)
    (h : s.fmn.response (rowClass x.row) x.phase = some resp) (hresp : resp ≠ .none)
    (hrank : ∀ o, s.fmn.out = some o → o.rank < resp.rank) : s.raise x = (s.recordRaise x).takeResponse x resp :=
  (if_neg (by simp [hact])).trans (State.answerRaise_taken (s := s.recordRaise x) h hresp hrank)

/-- A response acts as itself, but for a RESEEK before PROVE (R171). -/
theorem actsAs_eq (resp : Response) (p : Phase) :
    actsAs resp p = if resp = .reseek ∧ (p = .load ∨ p = .align ∨ p = .seek) then .note else resp := by
  simp [actsAs, or_assoc]

/-- A raise that is taken (R168 to R171). -/
theorem State.raise_taken_eq {s : State} {x : Raise} {resp : Response} (hact : (s.fmn.row x.row).active = false)
    (h : s.fmn.response (rowClass x.row) x.phase = some resp) (hresp : resp ≠ .none)
    (hrank : ∀ o, s.fmn.out = some o → o.rank < resp.rank) {acted : Response} (hacted : actsAs resp x.phase = acted) :
    ∃ m, s.raise x = { s.recordRaise x with
      fmn := ((s.recordRaise x).fmn.respond x resp s.dsu.time).begun acted
      lau.ceiling := if acted = .cap then min s.lau.hostCap (min s.tlm.cap s.fmn.capSet) else s.lau.ceiling
      mp := m, work.acts := s.work.acts ++ acted.action x.row } := by
  obtain ⟨c, m, ht, hc⟩ := State.takeResponse_eq (s.recordRaise x) x resp
  subst hacted
  refine ⟨m, (State.raise_taken hact h hresp hrank).trans (ht.trans ?_)⟩
  rw [hc]
  rfl

/-- A raise of an inactive row is recorded on it and counted, whatever the response (R164). -/
theorem State.raise_recorded {s : State} {x : Raise} (hx : x.row < s.fmn.rows.length)
    (hact : (s.fmn.row x.row).active = false) :
    (∃ d l m, (s.raise x).fmn.row x.row =
      { (s.recordRaise x).fmn.row x.row with done := d, latched := l, masked := m })
    ∧ (s.raise x).fmn.secRaises = s.fmn.secRaises + 1 := by
  have hrow : x.row < (s.recordRaise x).fmn.rows.length := by simpa [State.recordRaise] using hx
  by_cases hnone : s.fmn.response (rowClass x.row) x.phase = none ∨ s.fmn.response (rowClass x.row) x.phase = some .none
  · obtain ⟨m, ht, hb⟩ := State.raise_latched hx hact hnone
    exact ⟨⟨_, _, _, hb⟩, by rw [ht]; rfl⟩
  · obtain ⟨h1, h2⟩ := not_or.1 hnone
    obtain ⟨resp, hresp⟩ := Option.ne_none_iff_exists'.1 h1
    have hne : resp ≠ .none := fun h => h2 (h ▸ hresp)
    by_cases hrank : ∀ o, s.fmn.out = some o → o.rank < resp.rank
    · obtain ⟨m, ht⟩ := State.raise_taken_eq hact hresp hne hrank rfl
      obtain ⟨l, hl⟩ := Fmn.respond_row (s.recordRaise x).fmn x resp s.dsu.time hrow
      rw [ht]
      exact ⟨⟨_, _, _, hl⟩, Fmn.respond_secRaises (s.recordRaise x).fmn x resp s.dsu.time⟩
    · push Not at hrank
      obtain ⟨o, ho, hle⟩ := hrank
      obtain ⟨m, ht, hb⟩ := State.raise_masked hx hact hresp hne ho hle
      exact ⟨⟨_, _, _, hb⟩, by rw [ht]; rfl⟩

/-- The record of the outstanding response acknowledged (R172). -/
theorem State.acknowledge_eq (s : State) (r : Nat) : ∃ m,
    ({ s with fmn := { s.fmn with out := none, capOn := false } } : State).recomputeCeiling.noteFault r = { s with
      fmn := { s.fmn with out := none, capOn := false }
      lau.ceiling := min s.lau.hostCap (min s.tlm.cap 7), mp := m } := by
  obtain ⟨m, hm⟩ := State.recomputeCeiling_eq { s with fmn := { s.fmn with out := none, capOn := false } }
  rw [hm]
  exact ⟨_, rfl⟩

/-- An item of a FAULT_SET body is read at its place in the body. -/
theorem setTable_getElem? {t : List ResponsePair} {b : Bytes} {k : Nat} {p : ResponsePair} (hp : t[k]? = some p)
    (hk : 2 * k + 1 < b.length) : (setTable t b)[k]? =
      some ⟨newResponse p.bringup (b.getD (2 * k) 0), newResponse p.service (b.getD (2 * k + 1) 0)⟩ := by
  have hlow : 2 * k < b.length := by omega
  simp [setTable, hp, List.getD_eq_getElem?_getD, hk, hlow]

/-- The requests' part of O28 (R172, R174). -/
theorem faultRequestsAnswered {s : State} (hs : s.ready) (tag : Byte) :
    (∀ (r : Byte) o, s.fmn.out = some o → o.row = r.toNat → r.toNat ≤ 20 →
      ∃ t, exec (.faultAck tag r) s = .next t ∧ t.fmn = { s.fmn with out := none, capOn := false }
        ∧ t.lau.ceiling = min s.lau.hostCap (min s.tlm.cap 7) ∧ t.replies 0x39 tag .ok []
        ∧ { t with mp := s.mp, lau := s.lau, fmn := s.fmn } = s)
    ∧ (∀ (r : Byte) o, s.fmn.out = some o → o.row ≠ r.toNat → r.toNat ≤ 20 →
      exec (.faultAck tag r) s = .next (s.answer 0x39 tag .badValue (1 :: e1 o.row)))
    ∧ (∀ r : Byte, s.fmn.out = none → r.toNat ≤ 20 →
      exec (.faultAck tag r) s = .next (s.answer 0x39 tag .badValue [0, 0])) := by
  have hknown {r : Byte} (hr : r.toNat ≤ 20) : ¬ 20 < r.toNat := Nat.not_lt.2 hr
  refine ⟨fun r o ho hrow hr => ?_, fun r o ho hrow hr => ?_, fun r ho hr => ?_⟩
  · obtain ⟨m, hm⟩ := State.acknowledge_eq s.received r.toNat
    have hserve : s.received.serve (.faultAck r) = okOnly _ :=
      (if_neg (hknown hr)).trans ((if_pos (by simp [State.received, ho, hrow])).trans (congrArg okOnly hm))
    obtain ⟨p, hex, hslot⟩ := exec_idle hs (c := .faultAck tag r) rfl hserve rfl (by rfl) (by rfl)
    exact ⟨_, hex, rfl, rfl, hslot, rfl⟩
  · have hserve : s.received.serve (.faultAck r) = ⟨s.received, .badValue, fun _ => eOpt 1 (some (e1 o.row))⟩ := by
      refine (if_neg (hknown hr)).trans ((if_neg (by simp [State.received, ho, hrow])).trans ?_)
      simp [State.received, ho]
    exact exec_unchanged hs rfl hserve rfl
  · have hserve : s.received.serve (.faultAck r) = ⟨s.received, .badValue, fun _ => eOpt 1 none⟩ := by
      refine (if_neg (hknown hr)).trans ((if_neg (by simp [State.received, ho])).trans ?_)
      simp [State.received, ho]
    exact exec_unchanged hs rfl hserve rfl

/-- Settles O28. -/
theorem faultAckAndSet : Obligations.FaultAckAndSet := by
  refine ⟨fun s tag hs => ?_, fun s x pair hlen hx hpair => ?_⟩
  · obtain ⟨hack, hother, hfree⟩ := faultRequestsAnswered hs tag
    have hout {a : Answer} (hload : s.spc.phase ≠ .load) : s.received.outsideLoad a = a :=
      State.outsideLoad_of_ne (s := s.received) hload a
    have hc {b : Bytes} (cap : Byte) (hb : b.length = 24) :
        requestOf (.faultSet tag b cap) = some ⟨0x3B, tag, .faultSet b cap⟩ :=
      congrArg (some ∘ Request.mk 0x3B tag) (if_pos hb)
    refine ⟨hack, hother, hfree, fun r hr => exec_refused hs rfl rfl (if_pos hr),
      fun cap b hload hb hbad => exec_refused hs (hc cap hb) rfl ((hout hload).trans (if_neg (by simp [hbad]))),
      fun cap b hload hb hok => ?_⟩
    obtain ⟨m, hm⟩ := State.recomputeCeiling_eq { s.received with
      fmn.table := setTable s.fmn.table b, fmn.capSet := if cap = 0xFF then s.fmn.capSet else cap.toNat }
    have hserve : s.received.serve (.faultSet b cap) = okWith _ (fun t => t.fmn.bytes) :=
      (hout hload).trans ((if_pos hok).trans (congrArg (okWith · fun t => t.fmn.bytes) hm))
    obtain ⟨p, hex, hslot⟩ := exec_idle hs (hc cap hb) hserve rfl (by rfl) (by rfl)
    exact ⟨_, hex, rfl, fun k q hq hk => setTable_getElem? hq (by omega), rfl, rfl, rfl⟩
  · intro early resp acted t a b
    have hlt : x.row < s.fmn.rows.length := hlen ▸ hx
    have hresp (hp : x.phase ≠ .halt) : s.fmn.response (rowClass x.row) x.phase = some resp := by
      rw [Fmn.response_eq hpair hp]
      simp [resp, early, Phase.bringupSet, or_assoc]
    have hacted : actsAs resp x.phase = acted := actsAs_eq resp x.phase
    have hrec := State.recordRaise_row s x hlt
    refine ⟨fun hact => if_pos hact, fun hact => ⟨?_, fun h => ?_, fun hp hnone => ⟨fun o ho hrank => ?_, fun hrank => ?_⟩⟩⟩
    · obtain ⟨⟨d, l, m, hb⟩, hcount⟩ := State.raise_recorded hlt hact
      have hb' : b = _ := hb
      rw [hb', hrec]
      exact ⟨rfl, rfl, rfl, rfl, hcount⟩
    · have hlatched : s.fmn.response (rowClass x.row) x.phase = none ∨
          s.fmn.response (rowClass x.row) x.phase = some .none := by
        by_cases hp : x.phase = .halt
        · exact .inl (by rw [hp, Fmn.response_halt])
        · exact .inr ((hresp hp).trans (congrArg some (h.resolve_left hp)))
      obtain ⟨m, ht, hb⟩ := State.raise_latched hlt hact hlatched
      have ht' : t = _ := ht
      have hb' : b = _ := hb
      rw [hb', hrec, ht']
      exact ⟨rfl, rfl, rfl, rfl, rfl, rfl⟩
    · obtain ⟨m, ht, hb⟩ := State.raise_masked hlt hact (hresp hp) hnone ho hrank
      have ht' : t = _ := ht
      have hb' : b = _ := hb
      rw [hb', hrec, ht']
      exact ⟨rfl, rfl, rfl, rfl, rfl, rfl⟩
    · obtain ⟨m, ht⟩ := State.raise_taken_eq hact (hresp hp) hnone hrank hacted
      have hrow : x.row < (s.recordRaise x).fmn.rows.length := by simpa [State.recordRaise] using hlt
      obtain ⟨l, hl⟩ := Fmn.respond_row (s.recordRaise x).fmn x resp s.dsu.time hrow
      have ht' : t = _ := ht
      have hb : b = _ := (congrArg (fun u => u.fmn.row x.row) ht).trans hl
      rw [hb, ht', hacted]
      refine ⟨by simp [Fmn.begun, Fmn.respond_out, hacted], rfl, fun o ho horow => ?_, fun hcap => ?_, fun hnote => ?_,
        fun hbar => ?_, fun hreseek => ?_, fun hhalt => ?_⟩
      · have hreplaced : o.row < (s.recordRaise x).fmn.rows.length := by simpa [State.recordRaise, hlen] using horow
        exact Fmn.respond_replaced (f := (s.recordRaise x).fmn) ho x resp s.dsu.time hreplaced
      · simp [Fmn.begun, hcap]
      · simp [hnote, Response.action, State.recordRaise]
      · simp [hbar, Response.action]
      · simp [hreseek, Response.action]
      · simp [hhalt, Response.action]

end Sys2Proof.Machine
end

section
/-! PROOFS. A computation gives out no more than the frame has: what the guarantee step, the test step and the excess step
take adds up to at most R (R121 to R128). -/

namespace Sys2Proof.Machine

theorem Four.total_of (f : Fin 4 → Nat) : (Four.of f).total = ∑ i, f i := (Fin.sum_univ_four f).symm

theorem Four.total_eq_sum (q : Four Nat) : q.total = ∑ i, q.get i := (Fin.sum_univ_four q.get).symm

/-- Shares of `r` in proportion to weights, each rounded down, are no more than `r` together. -/
theorem sum_mul_div_le {f : Fin 4 → Nat} {t : Nat} (r : Nat) (h : ∑ i, f i ≤ t) : ∑ i, f i * r / t ≤ r := by
  have hsplit : ∑ i, f i * r / t ≤ (∑ i, f i * r) / t := by
    rw [Fin.sum_univ_four, Fin.sum_univ_four]
    have hadd (a b : Nat) : a / t + b / t ≤ (a + b) / t := Nat.div_add_div_le_add_div
    have h01 := hadd (f 0 * r) (f 1 * r)
    have h012 := hadd (f 0 * r + f 1 * r) (f 2 * r)
    have h0123 := hadd (f 0 * r + f 1 * r + f 2 * r) (f 3 * r)
    omega
  calc ∑ i, f i * r / t ≤ (∑ i, f i * r) / t := hsplit
    _ = (∑ i, f i) * r / t := by rw [Finset.sum_mul]
    _ ≤ t * r / t := Nat.div_le_div_right (Nat.mul_le_mul_right r h)
    _ ≤ r := Nat.div_le_of_le_mul le_rfl

/-! ### One block each by rank -/

/-- Tenant `j` stands before `i` in descending order of key, the lower number first among equal keys. -/
def before (keys : Four Nat) (j i : Fin 4) : Bool :=
  decide (keys.get i < keys.get j) || (keys.get j = keys.get i && decide (j < i))

theorem before_iff (keys : Four Nat) (j i : Fin 4) :
    before keys j i = true ↔ keys.get i < keys.get j ∨ (keys.get j = keys.get i ∧ j < i) := by
  simp [before]

theorem rankOf_eq (keys : Four Nat) (i : Fin 4) :
    rankOf keys i = (Finset.univ.filter (fun j => before keys j i = true)).card := by
  rw [Finset.card_filter, Fin.sum_univ_four]
  show (tenants.filter (fun j => before keys j i)).length = _
  simp only [tenants, List.filter_cons, List.filter_nil]
  split <;> split <;> split <;> split <;> simp

theorem rankOf_lt_of_before {keys : Four Nat} {j i : Fin 4} (h : before keys j i = true) :
    rankOf keys j < rankOf keys i := by
  rw [rankOf_eq, rankOf_eq]
  refine Finset.card_lt_card ((Finset.ssubset_iff_of_subset fun k hk => ?_).2 ⟨j, by simpa using h, by simp [before]⟩)
  simp only [Finset.mem_filter, Finset.mem_univ, true_and, before_iff] at h hk ⊢
  omega

theorem rankOf_injective (keys : Four Nat) : Function.Injective (rankOf keys) := by
  intro i j h
  by_contra hne
  have hlt : before keys i j = true ∨ before keys j i = true := by
    simp only [before_iff]
    omega
  rcases hlt with hlt | hlt <;> exact absurd (rankOf_lt_of_before hlt) (by omega)

/-- At most `n` tenants are of the first `n` ranks. -/
theorem oneEach_total_le (keys : Four Nat) (n : Nat) : (oneEach keys n).total ≤ n := by
  rw [oneEach, Four.total_of]
  calc ∑ i, (if keys.get i ≠ 0 ∧ rankOf keys i < n then 1 else 0)
      ≤ ∑ i, (if rankOf keys i < n then 1 else 0) := by
        refine Finset.sum_le_sum fun i _ => ?_
        split
        · next h => rw [if_pos h.2]
        · exact Nat.zero_le _
    _ = (Finset.univ.filter (fun i => rankOf keys i < n)).card := by rw [Finset.card_filter]
    _ ≤ (Finset.range n).card := Finset.card_le_card_of_injOn (rankOf keys) (fun i hi => by simpa using hi) (rankOf_injective keys).injOn
    _ = n := Finset.card_range n

/-! ### The steps of a computation -/

/-- The guarantee step gives out no more than R (R124). -/
theorem scaleClaims_total_le (claims : Four Nat) (r : Nat) : (scaleClaims claims r claims.total).total ≤ r := by
  have hfloors : ∑ i, claims.get i * r / claims.total ≤ r :=
    sum_mul_div_le r (Four.total_eq_sum claims).ge
  unfold scaleClaims
  dsimp only
  generalize hrems : Four.of (fun i => if claims.get i = 0 then 0 else claims.get i * r % claims.total + 1) = rems
  have hextra := oneEach_total_le rems (r - (Four.of fun i => claims.get i * r / claims.total).total)
  rw [Four.total_of] at hextra
  simp only [Four.total_of, Four.get_of, Finset.sum_add_distrib, ← Four.total_eq_sum]
  omega

/-- What a round of the excess step gives by weight is no more than what there is (R127). -/
theorem excess_round_le (r : Nat) (weights wants : Four Nat) :
    ∑ i, min (if wants.get i = 0 then 0 else r * weights.get i
      / (Four.of (fun i => if wants.get i = 0 then 0 else weights.get i)).total) (wants.get i) ≤ r := by
  have hshare := sum_mul_div_le (f := fun i => if wants.get i = 0 then 0 else weights.get i) r
    (Four.total_of (fun i => if wants.get i = 0 then 0 else weights.get i)).ge
  refine le_trans (Finset.sum_le_sum fun i _ => ?_) hshare
  by_cases h : wants.get i = 0
  · simp [h]
  · simp only [if_neg h, Nat.mul_comm r]
    exact Nat.min_le_left _ _

/-- The excess step gives out no more than R' (R127, R128). -/
theorem excess_total_le (fuel r : Nat) (weights wants given : Four Nat) (rounds : Nat) :
    (excess fuel r weights wants given rounds).given.total ≤ given.total + r := by
  induction fuel generalizing r wants given rounds with
  | zero => exact Nat.le_add_right _ _
  | succ fuel ih =>
    have hround := excess_round_le r weights wants
    unfold excess
    dsimp only
    split
    · exact Nat.le_add_right _ _
    · simp only [Four.get_of, ← Four.total_of] at hround ⊢
      split
      · refine le_trans (ih _ _ _ _) ?_
        rw [Four.total_of, Finset.sum_add_distrib, ← Four.total_eq_sum, ← Four.total_of]
        omega
      · generalize Four.of (fun i => if wants.get i = 0 then 0 else r * weights.get i
          % (Four.of (fun i => if wants.get i = 0 then 0 else weights.get i)).total + 1) = keys
        have hextra := oneEach_total_le keys
        simp only [Four.total_of, Finset.sum_add_distrib, ← Four.total_eq_sum] at hround ⊢
        refine le_trans (Nat.add_le_add_left (hextra _) _) ?_
        omega

/-- What the guarantee step gives, and what it leaves spare, is within R (R123, R124). -/
theorem share_base_spare_le (x : ShareIn) : (share x).base.total + (share x).spare ≤ (share x).r := by
  by_cases h : (share x).s ≤ (share x).r
  · rw [share_base_of_fit h, share_spare_of_fit h]
    exact (Nat.add_sub_of_le h).le
  · have hscaled : (share x).scaled = true := decide_eq_true (Nat.lt_of_not_le h)
    have hbase : (share x).base = if (share x).scaled then scaleClaims _ (share x).r (share x).s else _ := rfl
    have hspare : (share x).spare = if (share x).scaled then 0 else (share x).r - (share x).s := rfl
    rw [hbase, hspare, if_pos hscaled, if_pos hscaled]
    exact scaleClaims_total_le _ _

theorem MapCounts.used_eq (c : MapCounts) : c.used = c.test + c.ten.total := by
  simp only [MapCounts.used, Four.total, Nat.add_assoc]

/-- What each tenant is given: what it is owed, its base, and its part of what the excess step gives out, which is no more
than R'. -/
theorem share_ten (x : ShareIn) : ∃ given : Four Nat, given.total ≤ (share x).rExcess ∧ (share x).counts.ten =
    Four.of (fun i => (x.tenants.get i).owed + (share x).base.get i + given.get i) := by
  have hgiven := excess_total_le 5 (share x).rExcess (Four.of (fun i => (x.tenants.get i).weight))
    (Four.of (fun i => (x.tenants.get i).usable (blockBytes x.prof) - (share x).base.get i)) ⟨0, 0, 0, 0⟩ 0
  refine ⟨_, hgiven.trans (Nat.zero_add _).le, ?_⟩
  simp only [share, Four.get_of]

theorem share_used (x : ShareIn) : (share x).counts.used ≤ (share x).counts.test
    + (Four.of (fun i => (x.tenants.get i).owed)).total + (share x).base.total + (share x).rExcess := by
  obtain ⟨given, hgiven, hten⟩ := share_ten x
  rw [MapCounts.used_eq, hten]
  simp only [Four.total_of, Finset.sum_add_distrib, ← Four.total_eq_sum]
  omega

/-- Settles O47: what each step gives is taken from what the steps before it left. -/
theorem sharesFitTheFrame : Obligations.SharesFitTheFrame := by
  intro x howed
  have hused := share_used x
  have hbase := share_base_spare_le x
  have htest := share_test_le_spare x
  have hr : (share x).r = 62 - (Four.of (fun i => (x.tenants.get i).owed)).total := rfl
  rw [share_rExcess] at hused
  omega

end Sys2Proof.Machine
end

section
/-! PROOFS. A tenant's stream from one part's port to the other's: what filling a block takes from the queue is what
delivering it gives to the egress buffer (R112 to R114). -/

namespace Sys2Proof.Machine

/-! ### A packet with its length bytes -/

/-- A packet as it stands in the stream: its length in 2 bytes, then its bytes. -/
def wire (p : Bytes) : Bytes := le 2 p.length ++ p

@[simp] theorem wire_length (p : Bytes) : (wire p).length = p.length + 2 := by
  simp [wire, Nat.add_comm]

theorem wire_take_two (p : Bytes) : (wire p).take 2 = le 2 p.length := List.take_left' (by simp)

theorem wire_drop_two (p : Bytes) : (wire p).drop 2 = p := List.drop_left' (by simp)

theorem readLe_wire {p : Bytes} (h : goodPacket p) : readLe ((wire p).take 2) = p.length := by
  rw [wire_take_two]
  exact readLe_le 2 _ (by have := h.2; norm_num; omega)

/-- No part of a good packet reads as a bad length. -/
theorem badPrefix_take {p : Bytes} (h : goodPacket p) (k : Nat) : badPrefix ((wire p).take k) = false := by
  by_cases hk : k = 2
  · have h1 := h.1
    have h2 := h.2
    simp [badPrefix, hk, readLe_wire h]
    omega
  · have h1 := h.1
    have hlen : ¬ ((wire p).take k).length = 2 := by simp; omega
    rw [badPrefix, decide_eq_false hlen, Bool.false_and]

/-- The bytes in progress are a whole packet when they are all of it. -/
theorem wholePacket_take {p : Bytes} (h : goodPacket p) {k : Nat} (hk : k ≤ p.length + 2) :
    wholePacket ((wire p).take k) = decide (k = p.length + 2) := by
  have hlen : ((wire p).take k).length = k := by simp; omega
  by_cases h2 : 2 ≤ k
  · rw [wholePacket, hlen, List.take_take, Nat.min_eq_left h2, readLe_wire h]
    simp [h2]
  · have h1 := h.1
    rw [wholePacket, hlen, decide_eq_false h2, Bool.false_and, decide_eq_false (by omega)]

theorem wire_drop {p : Bytes} {k : Nat} (hk : k < p.length + 2) :
    ∃ b, (wire p).drop k = b :: (wire p).drop (k + 1) ∧ (wire p).take k ++ [b] = (wire p).take (k + 1) :=
  ⟨(wire p)[k]'(by simpa using hk), List.drop_eq_getElem_cons (by simpa using hk), List.take_concat_get' _ _ _⟩

/-! ### Reading a packet -/

/-- Part of a packet read packet after packet leaves it in progress. -/
theorem readStream_part {p : Bytes} (h : goodPacket p) (done : List Bytes) {k m : Nat} (hk : k + m < p.length + 2) :
    readStream ((wire p).take k) (((wire p).drop k).take m) done = ⟨(wire p).take (k + m), done, false⟩ := by
  induction m generalizing k with
  | zero => rfl
  | succ m ih =>
    obtain ⟨b, hdrop, htake⟩ := wire_drop (p := p) (k := k) (by omega)
    have hwhole := wholePacket_take h (k := k + 1) (by omega)
    rw [decide_eq_false (by omega)] at hwhole
    rw [hdrop, List.take_succ_cons]
    simp only [readStream, htake, badPrefix_take h, hwhole, Bool.false_eq_true, if_false]
    rw [ih (by omega), Nat.add_right_comm, Nat.add_assoc]

/-- A packet read to its end is done, and reading goes on behind it. -/
theorem readStream_whole {p : Bytes} (h : goodPacket p) (rest : Bytes) (done : List Bytes) {k n : Nat}
    (hk : k + n + 1 = p.length + 2) :
    readStream ((wire p).take k) ((wire p).drop k ++ rest) done = readStream [] rest (done ++ [p]) := by
  induction n generalizing k with
  | zero =>
    obtain ⟨b, hdrop, htake⟩ := wire_drop (p := p) (k := k) (by omega)
    have hend : (wire p).drop (k + 1) = [] := List.drop_eq_nil_of_le (by simp; omega)
    have hall : (wire p).take (k + 1) = wire p := List.take_of_length_le (by simp; omega)
    have hwhole := wholePacket_take h (k := k + 1) (by omega)
    rw [decide_eq_true (by omega)] at hwhole
    rw [hdrop, hend]
    simp only [List.cons_append, List.nil_append, readStream, htake, badPrefix_take h, hwhole, Bool.false_eq_true, if_false,
      if_true]
    rw [hall, wire_drop_two]
  | succ n ih =>
    obtain ⟨b, hdrop, htake⟩ := wire_drop (p := p) (k := k) (by omega)
    have hwhole := wholePacket_take h (k := k + 1) (by omega)
    rw [decide_eq_false (by omega)] at hwhole
    rw [hdrop, List.cons_append]
    simp only [readStream, htake, badPrefix_take h, hwhole, Bool.false_eq_true, if_false]
    exact ih (by omega)

theorem take_ne_nil {p : Bytes} {k : Nat} (hk : 0 < k) : (wire p).take k ≠ [] := by
  refine List.ne_nil_of_length_pos ?_
  simp
  omega

/-- Bytes that continue a packet leave it in progress. -/
theorem readRest_part {p : Bytes} (h : goodPacket p) {k m : Nat} (h0 : 0 < k) (hk : k + m < p.length + 2) :
    readRest ((wire p).take k) (((wire p).drop k).take m) = ⟨(wire p).take (k + m), [], false⟩ := by
  induction m generalizing k with
  | zero => rfl
  | succ m ih =>
    obtain ⟨b, hdrop, htake⟩ := wire_drop (p := p) (k := k) (by omega)
    have hwhole := wholePacket_take h (k := k + 1) (by omega)
    rw [decide_eq_false (by omega)] at hwhole
    rw [hdrop, List.take_succ_cons]
    simp only [readRest, take_ne_nil h0, htake, badPrefix_take h, hwhole, Bool.false_eq_true, if_false]
    rw [ih (by omega) (by omega), Nat.add_right_comm, Nat.add_assoc]

/-- Bytes that end the packet in progress complete it. -/
theorem readRest_whole {p : Bytes} (h : goodPacket p) {k n : Nat} (h0 : 0 < k) (hk : k + n + 1 = p.length + 2) :
    readRest ((wire p).take k) ((wire p).drop k) = ⟨[], [p], false⟩ := by
  induction n generalizing k with
  | zero =>
    obtain ⟨b, hdrop, htake⟩ := wire_drop (p := p) (k := k) (by omega)
    have hend : (wire p).drop (k + 1) = [] := List.drop_eq_nil_of_le (by simp; omega)
    have hall : (wire p).take (k + 1) = wire p := List.take_of_length_le (by simp; omega)
    have hwhole := wholePacket_take h (k := k + 1) (by omega)
    rw [decide_eq_true (by omega)] at hwhole
    rw [hdrop, hend]
    simp only [readRest, take_ne_nil h0, htake, badPrefix_take h, hwhole, Bool.false_eq_true, if_false, if_true]
    rw [hall, wire_drop_two]
    rfl
  | succ n ih =>
    obtain ⟨b, hdrop, htake⟩ := wire_drop (p := p) (k := k) (by omega)
    have hwhole := wholePacket_take h (k := k + 1) (by omega)
    rw [decide_eq_false (by omega)] at hwhole
    rw [hdrop]
    simp only [readRest, take_ne_nil h0, htake, badPrefix_take h, hwhole, Bool.false_eq_true, if_false]
    exact ih (by omega) (by omega)

/-! ### Filling a block -/

/-- A send offset lies within the packet at the head of the queue. -/
def offsetOk : List Bytes → Nat → Prop
  | [], off => off = 0
  | p :: _, off => off < p.length + 2

/-- The bytes of the packet at the head that have been sent. -/
def sentPart : List Bytes → Nat → Bytes
  | [], _ => []
  | p :: _, off => (wire p).take off

/-- The stream bytes still to be sent. -/
def unsentBytes (q : List Bytes) (off : Nat) : Nat := (q.map (fun p => p.length + 2)).sum - off

/-- What filling a block from a packet boundary takes, and what reading it gives: the packets taken whole, and the part of
the next. -/
theorem fillFrom_zero {q : List Bytes} (hq : ∀ p ∈ q, goodPacket p) (room pos : Nat) :
    let f := fillFrom q 0 room pos
    offsetOk f.queue f.sendOff ∧ unsentBytes f.queue f.sendOff = unsentBytes q 0 - room
      ∧ f.start = (if q = [] ∨ room = 0 then none else some pos)
      ∧ ∃ sent, q = sent ++ f.queue
        ∧ ∀ done, readStream [] f.data done = ⟨sentPart f.queue f.sendOff, done ++ sent, false⟩ := by
  induction q generalizing room pos with
  | nil => exact ⟨rfl, by simp [fillFrom, unsentBytes], by simp [fillFrom], [], rfl, fun done => by simp [fillFrom, readStream, sentPart]⟩
  | cons p ps ih =>
    have hp := hq p List.mem_cons_self
    by_cases hroom : room = 0
    · simp only [fillFrom, if_pos hroom]
      exact ⟨by simp [offsetOk], by simp [hroom], by simp [hroom], [], rfl, fun done => by simp [readStream, sentPart]⟩
    · by_cases hfit : p.length + 2 ≤ room
      · obtain ⟨hoff, hleft, -, sent, hsent, hread⟩ := ih (fun x hx => hq x (List.mem_cons_of_mem _ hx))
          (room - (p.length + 2)) (pos + (p.length + 2))
        have hfill : fillFrom (p :: ps) 0 room pos =
            { fillFrom ps 0 (room - (p.length + 2)) (pos + (p.length + 2)) with
              data := wire p ++ (fillFrom ps 0 (room - (p.length + 2)) (pos + (p.length + 2))).data
              start := some pos } := by
          have hlen : (le 2 p.length ++ p).length = p.length + 2 := wire_length p
          simp [fillFrom, hroom, hlen, hfit, wire]
        rw [hfill]
        refine ⟨hoff, hleft.trans ?_, by simp [hroom], p :: sent, by simp [← hsent], fun done => ?_⟩
        · simp only [unsentBytes, List.map_cons, List.sum_cons]
          omega
        · have hwhole := readStream_whole hp (fillFrom ps 0 (room - (p.length + 2)) (pos + (p.length + 2))).data done
            (k := 0) (n := p.length + 1) (by omega)
          simp only [List.take_zero, List.drop_zero] at hwhole
          rw [hwhole, hread, List.append_assoc, List.singleton_append]
      · have hfill : fillFrom (p :: ps) 0 room pos = ⟨(wire p).take room, some pos, p :: ps, room⟩ := by
          have hlen : (le 2 p.length ++ p).length = p.length + 2 := wire_length p
          simp [fillFrom, hroom, hlen, hfit, wire]
        rw [hfill]
        refine ⟨Nat.lt_of_not_le hfit, ?_, by simp [hroom], [], rfl, fun done => ?_⟩
        · simp [unsentBytes]
        · have hpart := readStream_part hp done (k := 0) (m := room) (by omega)
          simpa [sentPart] using hpart

/-- What a block filled in the middle of a packet holds: the rest of the packet and what follows it, or a part. -/
theorem fillFrom_rest {p : Bytes} (ps : List Bytes) {off room pos : Nat} (hoff : 0 < off) (hroom : 0 < room)
    (hfit : p.length + 2 - off ≤ room) : fillFrom (p :: ps) off room pos =
      { fillFrom ps 0 (room - (p.length + 2 - off)) (pos + (p.length + 2 - off)) with
        data := (wire p).drop off ++ (fillFrom ps 0 (room - (p.length + 2 - off)) (pos + (p.length + 2 - off))).data } := by
  have hlen : ((le 2 p.length ++ p).drop off).length = p.length + 2 - off := by
    rw [List.length_drop]
    exact congrArg (· - off) (wire_length p)
  simp [fillFrom, hroom.ne', hoff.ne', hlen, hfit, wire]

theorem fillFrom_part {p : Bytes} (ps : List Bytes) {off room pos : Nat} (hoff : 0 < off) (hroom : 0 < room)
    (hfit : ¬ p.length + 2 - off ≤ room) :
    fillFrom (p :: ps) off room pos = ⟨((wire p).drop off).take room, none, p :: ps, off + room⟩ := by
  have hlen : ((le 2 p.length ++ p).drop off).length = p.length + 2 - off := by
    rw [List.length_drop]
    exact congrArg (· - off) (wire_length p)
  simp only [fillFrom, if_neg hroom.ne', if_neg hoff.ne', hlen, if_neg hfit]
  rfl

/-! ### Delivering a block -/

/-- The receiver waits for what the sender sends next: a packet's start, or the rest of the packet in progress. -/
def Reassembly.awaits (r : Reassembly) (q : List Bytes) (off : Nat) : Prop :=
  (off = 0 ∧ r = .waitStart) ∨ r = .inStream (sentPart q off)

/-- A port that takes packets takes them all while its buffer has room. -/
theorem deliver_all {t : Tenant} (hentry : t.entry.isSome = true) (hlink : t.link = true) (ps : List Bytes)
    (hroom : occupancy t.egress + occupancy ps ≤ 16384) :
    ps.foldl Tenant.deliver t = { t with egress := t.egress ++ ps } := by
  induction ps generalizing t with
  | nil => simp
  | cons p ps ih =>
    simp only [occupancy, List.map_cons, List.sum_cons] at hroom
    have hnone : t.entry.isNone = false := by
      rw [← Option.not_isSome, hentry]
      rfl
    have hone : t.deliver p = { t with egress := t.egress ++ [p] } := by
      have hfit : occupancy t.egress + p.length ≤ 16384 := by
        simp only [occupancy]
        omega
      simp [Tenant.deliver, hnone, hlink, hfit]
    rw [List.foldl_cons, hone, ih (t := { t with egress := t.egress ++ [p] }) hentry hlink]
    · simp
    · simp only [occupancy, List.map_append, List.map_cons, List.map_nil, List.sum_append, List.sum_singleton]
      omega

/-- Packets read to their ends go on, and reading stands where the bytes end. -/
theorem readFrom_delivers {t : Tenant} (hentry : t.entry.isSome = true) (hlink : t.link = true) {data buf : Bytes}
    {sent : List Bytes} (hread : readStream [] data [] = ⟨buf, sent, false⟩)
    (hroom : occupancy t.egress + occupancy sent ≤ 16384) :
    t.readFrom data = { t with egress := t.egress ++ sent, reasm := .inStream buf } := by
  simp [Tenant.readFrom, Tenant.takeReading, hread, deliver_all hentry hlink sent hroom]

theorem fillFrom_data_ne_nil {p : Bytes} (ps : List Bytes) {off room : Nat} (pos : Nat) (hoff : off < p.length + 2)
    (hroom : 0 < room) : (fillFrom (p :: ps) off room pos).data ≠ [] := by
  have hlen : 0 < ((le 2 p.length ++ p).drop off).length := by
    rw [List.length_drop, show (le 2 p.length ++ p).length = p.length + 2 from wire_length p]
    omega
  have hne := List.ne_nil_of_length_pos hlen
  simp only [fillFrom, if_neg hroom.ne']
  split
  · exact fun h => hne (List.append_eq_nil_iff.1 h).1
  · exact fun h => (List.take_eq_nil_iff.1 h).elim (fun h0 => absurd h0 hroom.ne') hne

theorem fillFrom_nothing {ps : List Bytes} {room : Nat} (pos : Nat) (h : ps = [] ∨ room = 0) :
    (fillFrom ps 0 room pos).data = [] := by
  cases ps with
  | nil => rfl
  | cons p ps => simp [fillFrom, show room = 0 by simpa using h]

theorem occupancy_append (a b : List Bytes) : occupancy (a ++ b) = occupancy a + occupancy b := by
  simp [occupancy]

/-- A block that begins at a packet's start, taken where a start is awaited. -/
theorem block_from_start {b : Tenant} {data : Bytes} (hdata : data ≠ [])
    (hwait : b.reasm = .waitStart ∨ b.reasm = .inStream []) : b.block data (some 0) = b.readFrom data := by
  unfold Tenant.block
  rw [if_neg hdata]
  rcases hwait with h | h
  · simp [h]
  · simp [h, readRest, Tenant.takeReading]

/-- A block within the packet in progress. -/
theorem block_part {b : Tenant} {p : Bytes} (hp : goodPacket p) {off m : Nat} (h0 : 0 < off) (hm : 0 < m)
    (hoff : off + m < p.length + 2) (hwait : b.reasm = .inStream ((wire p).take off)) :
    b.block (((wire p).drop off).take m) none = { b with reasm := .inStream ((wire p).take (off + m)) } := by
  have hne : ((wire p).drop off).take m ≠ [] := List.ne_nil_of_length_pos (by simp; omega)
  unfold Tenant.block
  rw [if_neg hne, hwait]
  simp [readRest_part hp h0 hoff, Tenant.takeReading]

/-- A block that ends the packet in progress, and holds nothing more. -/
theorem block_end {b : Tenant} {p : Bytes} (hp : goodPacket p) {off : Nat} (h0 : 0 < off) (hoff : off < p.length + 2)
    (hwait : b.reasm = .inStream ((wire p).take off)) (hentry : b.entry.isSome = true) (hlink : b.link = true)
    (hroom : occupancy b.egress + p.length ≤ 16384) :
    b.block ((wire p).drop off) none = { b with egress := b.egress ++ [p], reasm := .inStream [] } := by
  have hne : (wire p).drop off ≠ [] := List.ne_nil_of_length_pos (by simp; omega)
  have hwhole := readRest_whole hp (k := off) (n := p.length + 1 - off) h0 (by omega)
  have hdeliver := deliver_all hentry hlink [p] (by simpa [occupancy] using hroom)
  unfold Tenant.block
  rw [if_neg hne, hwait]
  simp only [hwhole, Tenant.takeReading, hdeliver, Bool.false_eq_true, if_false]

/-- A block that ends the packet in progress and begins others behind it. -/
theorem block_end_start {b : Tenant} {p : Bytes} (hp : goodPacket p) {off : Nat} (data : Bytes) (h0 : 0 < off)
    (hoff : off < p.length + 2) (hwait : b.reasm = .inStream ((wire p).take off)) (hentry : b.entry.isSome = true)
    (hlink : b.link = true) (hroom : occupancy b.egress + p.length ≤ 16384) :
    b.block ((wire p).drop off ++ data) (some (p.length + 2 - off)) =
      ({ b with egress := b.egress ++ [p] } : Tenant).readFrom data := by
  have hlen : ((wire p).drop off).length = p.length + 2 - off := by simp
  have hne : (wire p).drop off ++ data ≠ [] := List.ne_nil_of_length_pos (by simp; omega)
  have hwhole := readRest_whole hp (k := off) (n := p.length + 1 - off) h0 (by omega)
  have hdeliver := deliver_all hentry hlink [p] (by simpa [occupancy] using hroom)
  unfold Tenant.block
  rw [if_neg hne, hwait]
  simp only [List.take_left' hlen, List.drop_left' hlen, hwhole, Tenant.takeReading, hdeliver, ne_eq, not_true_eq_false,
    decide_false, Bool.or_false, Bool.false_eq_true, if_false]
  rw [hwait]

/-- A block that the sender fills is taken by the receiver: the packets that it completes go on to the egress buffer. -/
theorem block_delivers {b : Tenant} {q : List Bytes} {off bb : Nat} (hentry : b.entry.isSome = true) (hlink : b.link = true)
    (hq : ∀ p ∈ q, goodPacket p) (hoff : offsetOk q off) (hbb : 0 < bb)
    (hroom : occupancy b.egress + occupancy q ≤ 16384) (hwait : b.reasm.awaits q off) :
    let f := fillFrom q off bb 0
    offsetOk f.queue f.sendOff ∧ unsentBytes f.queue f.sendOff = unsentBytes q off - bb
      ∧ ∃ sent r, q = sent ++ f.queue ∧ b.block f.data f.start = { b with egress := b.egress ++ sent, reasm := r }
        ∧ r.awaits f.queue f.sendOff := by
  cases q with
  | nil =>
    obtain rfl : off = 0 := hoff
    refine ⟨rfl, by simp [fillFrom, unsentBytes], [], b.reasm, rfl, ?_, ?_⟩
    · simp [fillFrom, Tenant.block]
    · exact hwait
  | cons p ps =>
    have hp := hq p List.mem_cons_self
    have hps : ∀ x ∈ ps, goodPacket x := fun x hx => hq x (List.mem_cons_of_mem _ hx)
    by_cases h0 : off = 0
    · subst h0
      obtain ⟨hoff', hleft, hstart, sent, hsent, hread⟩ := fillFrom_zero hq bb 0
      have hne := fillFrom_data_ne_nil ps (off := 0) 0 (by omega) hbb (p := p)
      rw [if_neg (by simp [hbb.ne'])] at hstart
      refine ⟨hoff', hleft, sent, _, hsent, ?_, .inr rfl⟩
      rw [hstart, block_from_start hne (hwait.imp (·.2) (fun h => h.trans (by simp [sentPart])))]
      refine readFrom_delivers hentry hlink (hread []) ?_
      have hocc := congrArg occupancy hsent
      rw [occupancy_append] at hocc
      omega
    · have hpos : 0 < off := Nat.pos_of_ne_zero h0
      have hlt : off < p.length + 2 := hoff
      have hin : b.reasm = .inStream ((wire p).take off) := hwait.elim (fun h => absurd h.1 h0) id
      have hocc : occupancy (p :: ps) = p.length + occupancy ps := by simp [occupancy]
      by_cases hfit : p.length + 2 - off ≤ bb
      · obtain ⟨hoff', hleft, hstart, sent, hsent, hread⟩ := fillFrom_zero hps (bb - (p.length + 2 - off))
          (0 + (p.length + 2 - off))
        have hnone := fillFrom_nothing (ps := ps) (room := bb - (p.length + 2 - off)) (0 + (p.length + 2 - off))
        rw [fillFrom_rest ps hpos hbb hfit]
        generalize fillFrom ps 0 (bb - (p.length + 2 - off)) (0 + (p.length + 2 - off)) = f at hoff' hleft hstart hsent hread hnone
        refine ⟨hoff', hleft.trans ?_, p :: sent, .inStream (sentPart f.queue f.sendOff), by simp [← hsent], ?_, .inr rfl⟩
        · simp only [unsentBytes, List.map_cons, List.sum_cons]
          omega
        · have hocc' := congrArg occupancy hsent
          rw [occupancy_append] at hocc'
          split at hstart
          · next hend =>
            have hdata := hnone hend
            rw [hdata] at hread
            obtain ⟨hpart, hsent0⟩ : [] = sentPart f.queue f.sendOff ∧ [] = sent := by simpa [readStream] using hread []
            rw [hdata, hstart, ← hpart, ← hsent0, List.append_nil]
            exact block_end hp hpos hlt hin hentry hlink (by omega)
          · rw [hstart, Nat.zero_add, block_end_start hp f.data hpos hlt hin hentry hlink (by omega),
              readFrom_delivers (t := { b with egress := b.egress ++ [p] }) hentry hlink (hread [])]
            · simp
            · show occupancy (b.egress ++ [p]) + occupancy ([] ++ sent) ≤ 16384
              rw [occupancy_append, List.nil_append, show occupancy [p] = p.length by simp [occupancy]]
              omega
      · rw [fillFrom_part ps hpos hbb hfit]
        refine ⟨show off + bb < p.length + 2 by omega, by simp only [unsentBytes]; omega, [],
          .inStream ((wire p).take (off + bb)), rfl, ?_, .inr rfl⟩
        rw [List.append_nil]
        exact block_part hp hpos hbb (by omega) hin

/-! ### All the blocks -/

/-- As many blocks as the stream needs carry the whole queue across. -/
theorem crossBlocks_all {bb n : Nat} (hbb : 0 < bb) {a b : Tenant} (hentry : b.entry.isSome = true) (hlink : b.link = true)
    (hq : ∀ p ∈ a.queue, goodPacket p) (hoff : offsetOk a.queue a.sendOff)
    (hroom : occupancy b.egress + occupancy a.queue ≤ 16384) (hwait : b.reasm.awaits a.queue a.sendOff)
    (hn : unsentBytes a.queue a.sendOff ≤ n * bb) :
    (crossBlocks bb n a b).1.queue = [] ∧ (crossBlocks bb n a b).2.egress = b.egress ++ a.queue
      ∧ (crossBlocks bb n a b).2.counts = b.counts := by
  induction n generalizing a b with
  | zero =>
    have hempty : a.queue = [] := by
      cases h : a.queue with
      | nil => rfl
      | cons p ps =>
        rw [h] at hoff hn
        simp only [unsentBytes, offsetOk, List.map_cons, List.sum_cons] at hn hoff
        omega
    exact ⟨hempty, by rw [hempty, List.append_nil]; rfl, rfl⟩
  | succ n ih =>
    obtain ⟨hoff', hleft, sent, r, hsent, hblock, hwait'⟩ := block_delivers hentry hlink hq hoff hbb hroom hwait
    simp only [crossBlocks]
    generalize fillFrom a.queue a.sendOff bb 0 = f at hoff' hleft hsent hblock hwait'
    rw [hblock]
    have hocc : occupancy a.queue = occupancy sent + occupancy f.queue := by
      rw [hsent]
      simp [occupancy]
    obtain ⟨hqueue, hegress, hcounts⟩ := ih (a := { a with queue := f.queue, sendOff := f.sendOff })
      (b := { b with egress := b.egress ++ sent, reasm := r }) hentry hlink
      (fun p hp => hq p (hsent ▸ List.mem_append_right sent hp)) hoff'
      (by
        simp only [occupancy, List.map_append, List.sum_append] at hocc hroom ⊢
        omega)
      hwait' (by
        rw [Nat.add_mul, Nat.one_mul] at hn
        simp only [hleft]
        omega)
    exact ⟨hqueue, by rw [hegress, hsent, List.append_assoc], hcounts⟩

/-- Settles O48, by induction on the blocks. -/
theorem packetsCrossWholeAndInOrder : Obligations.PacketsCrossWholeAndInOrder := by
  intro bb n a b hbb hq hoff hentry hlink hegress hroom hreasm hn
  have hwait : b.reasm.awaits a.queue a.sendOff := by
    rw [hoff]
    refine hreasm.imp (fun h => ⟨rfl, h⟩) (fun h => h.trans ?_)
    cases a.queue <;> simp [sentPart]
  have hall := crossBlocks_all (n := n) hbb hentry hlink hq (by rw [hoff]; cases a.queue <;> simp [offsetOk])
    (by simpa [hegress, occupancy] using hroom) hwait (by simpa [hoff, unsentBytes] using hn)
  simpa [hegress] using hall

end Sys2Proof.Machine
end

section
/-! PROOFS. Reset and restart: every block at the values it then has, but for what HOT_N asserted brings at once (R1, R9, R62,
R98). -/

namespace Sys2Proof.Machine

/-! ### A raise that leaves the phase and the tenants -/

theorem Response.action_stays {a : Response} (h : a ≠ .reseek ∧ a ≠ .halt ∧ a ≠ .bar) (r : Nat) : a.action r = [] := by
  cases a <;> simp_all [Response.action]

theorem Fmn.response_mem {f : Fmn} {cls : Nat} {p : Phase} {resp : Response} (h : f.response cls p = some resp) :
    ∃ pair, f.table[cls]? = some pair ∧ resp ∈ [pair.bringup, pair.service] := by
  cases hp : f.table[cls]? with
  | none => simp [Fmn.response, hp] at h
  | some pair =>
    refine ⟨pair, rfl, ?_⟩
    by_cases hhalt : p = .halt
    · rw [hhalt, Fmn.response_halt] at h
      cases h
    · rw [Fmn.response_eq hp hhalt, Option.some.injEq] at h
      rw [← h]
      split <;> simp

/-- A raise whose answer reaches neither the phase nor a tenant leaves no action. -/
theorem State.raise_stays {s : State} {x : Raise} (h : s.fmn.phaseStays x.row) :
    ∃ f c m, s.raise x = { s with fmn := f, lau.ceiling := c, mp := m } := by
  obtain ⟨f, c, m, as, heq, has⟩ := State.raise_eq s x
  have hnil : as = [] := by
    rcases has with has | ⟨hinactive, resp, hresp, has⟩
    · exact has
    · rcases h with hactive | hstays
      · rw [hactive] at hinactive
        cases hinactive
      · obtain ⟨pair, hpair, hmem⟩ := Fmn.response_mem hresp
        have hnot := hstays pair hpair resp hmem
        rw [has, actsAs_eq]
        split
        · rfl
        · exact Response.action_stays hnot _
  refine ⟨f, c, m, heq.trans ?_⟩
  simp only [hnil, List.append_nil]

/-! ### HOT_N -/

/-- A change of the limiter, where the answer to THERMAL reaches neither the phase nor a tenant. -/
theorem State.thermalSettle_stays {s : State} (h : s.fmn.phaseStays rowThermal) (old : Tlm) :
    ∃ f c m, s.thermalSettle old = { s with
      tlm.level := s.tlm.levelNow, fmn := f, lau.ceiling := c, mp := m } := by
  have hnote : ∃ m, (if s.tlm.levelNow ≠ old.level ∨ s.tlm.sensor ≠ old.sensor ∨ s.tlm.hotHold ≠ old.hotHold
      ∨ s.tlm.failSafe ≠ old.failSafe then ({ s with tlm.level := s.tlm.levelNow } : State).noteThermal
      else { s with tlm.level := s.tlm.levelNow }) = { s with tlm.level := s.tlm.levelNow, mp := m } := by
    split
    · exact ⟨_, rfl⟩
    · exact ⟨_, rfl⟩
  obtain ⟨m, hm⟩ := hnote
  obtain ⟨m', hc⟩ := State.recomputeCeiling_eq { s with tlm.level := s.tlm.levelNow, mp := m }
  unfold State.thermalSettle
  dsimp only
  rw [hm, hc]
  split
  · obtain ⟨f, c, m'', hr⟩ := State.raise_stays (s := { s with
      tlm.level := s.tlm.levelNow, mp := m', lau.ceiling := State.ceilingNow { s with tlm.level := s.tlm.levelNow, mp := m } })
      (x := ⟨rowThermal, 2, _⟩) h
    exact ⟨f, c, m'', hr⟩
  · split
    · obtain ⟨f, m'', hr⟩ := State.clear_eq { s with
        tlm.level := s.tlm.levelNow, mp := m', lau.ceiling := State.ceilingNow { s with tlm.level := s.tlm.levelNow, mp := m } }
        rowThermal
      exact ⟨f, _, m'', hr⟩
    · exact ⟨_, _, _, rfl⟩

/-- No response of the default table to THERMAL reaches the phase. -/
theorem Fmn.default_stays : ({} : Fmn).phaseStays rowThermal := by
  refine .inr fun p hp x hx => ?_
  obtain rfl : (⟨.note, .note⟩ : ResponsePair) = p := Option.some.inj hp
  simp at hx
  simp [hx]

/-- What HOT_N asserted brings after reset. -/
theorem State.sampleHot_eq {s : State} (h : s.fmn = {}) : ∃ t f c m,
    s.sampleHot = { s with tlm := t, fmn := f, lau.ceiling := c, mp := m } ∧ m.inbound = s.mp.inbound
      ∧ m.line = s.mp.line ∧ m.baud = s.mp.baud := by
  have hinner := (State.InnerOf.refl (Q := View.any) s).hotTaken false
  have hport := hinner.port_eq
  have heq : ∃ t f c m, s.sampleHot = { s with tlm := t, fmn := f, lau.ceiling := c, mp := m } := by
    unfold State.sampleHot State.hotTaken
    split
    · obtain ⟨f, c, m, heq⟩ := State.thermalSettle_stays (s := { s with tlm := s.tlm.hotAssert })
        (by rw [h]; exact Fmn.default_stays) s.tlm
      exact ⟨_, f, c, m, heq⟩
    · exact ⟨s.tlm, s.fmn, s.lau.ceiling, s.mp, rfl⟩
  obtain ⟨t, f, c, m, heq⟩ := heq
  refine ⟨t, f, c, m, heq, ?_, ?_, ?_⟩
  · rw [← hport.2.2.1]
    exact (congrArg (fun x : State => x.mp.inbound) heq).symm
  · rw [← hport.1]
    exact (congrArg (fun x : State => x.mp.line) heq).symm
  · have hbaud : s.sampleHot.mp.baud = s.mp.baud := by
      have hp := hinner.port
      simp only [Mp.still, Mp.mk.injEq] at hp
      simp [State.sampleHot, hp]
    rw [← hbaud]
    exact (congrArg (fun x : State => x.mp.baud) heq).symm

theorem State.sampleHot_free {s : State} (hpin : s.pins.hotN = true) (hset : s.tlm.set.hotHigh = false) : s.sampleHot = s := by
  have hhot : s.hot = false := by simp [State.hot, hotAsserted, hpin, hset]
  simp [State.sampleHot, State.hotTaken, hhot]

/-! ### Reset -/

theorem Mp.startLine_baud (m : Mp) : m.startLine.baud = m.baud := by
  unfold Mp.startLine
  split
  · rfl
  · split
    · next x hx =>
      obtain h | h : m.takeReply = some x ∨ m.takeNotice = some x := by
        unfold Mp.nextFrame at hx
        cases hr : m.takeReply with
        | none => exact .inr (by simpa [hr] using hx)
        | some y => exact .inl (by simpa [hr] using hx)
      · unfold Mp.takeReply at h
        (repeat' split at h) <;> cases h <;> rfl
      · unfold Mp.takeNotice at h
        split at h <;> cases h
        rfl
    · rfl

/-- With no frame to send, the port has nothing to do. -/
theorem State.close_still {s : State} (h : s.calm) (hnext : s.mp.nextFrame = none) (hline : s.mp.line = none)
    (hdue : s.mp.restartDue = false) : s.close = s := by
  rw [State.close_calm h, Mp.startLine_free hline hdue, hnext]

/-- Reset with HOT_N asserted, before what it brings. -/
def State.hotBase (s : State) (a b : Bool) : State := ({ s with pins.hotN := false } : State).resetBase a b

theorem State.hotBase_tlm (s : State) (a b : Bool) : (s.hotBase a b).sampleHot.tlm =
    { hotHold := 2, level := 2, gateHot := true } := rfl

theorem State.hotBase_thermal (s : State) (a b : Bool) : (s.hotBase a b).sampleHot.rowActive 5 := rfl

theorem State.hotBase_ceiling (s : State) (a b : Bool) : (s.hotBase a b).sampleHot.lau.ceiling = 2 := rfl

/-- Settles O30. -/
theorem resetPutsResetValues : Obligations.ResetPutsResetValues := by
  intro s b1 b0
  have hexec : exec (.reset b1 b0) s = .next (s.resetBase b1 b0).sampleHot.close := rfl
  rw [hexec]
  refine ⟨fun hhot => ?_, fun hhot => ?_⟩
  · rw [State.sampleHot_free (s := s.resetBase b1 b0) hhot rfl, State.close_still ⟨rfl, rfl, rfl⟩ rfl rfl rfl]
    rfl
  · have hbase : s.resetBase b1 b0 = s.hotBase b1 b0 := by
      unfold State.hotBase
      rw [← hhot]
    have htlm := State.hotBase_tlm s b1 b0
    have hrow := State.hotBase_thermal s b1 b0
    have hceiling := State.hotBase_ceiling s b1 b0
    obtain ⟨t, f, c, m, heq, hin, -, hbaud⟩ := State.sampleHot_eq (s := s.hotBase b1 b0) rfl
    rw [hbase]
    rw [heq] at htlm hrow hceiling ⊢
    rw [State.close_calm ⟨rfl, rfl, hin⟩]
    exact ⟨_, rfl, congrArg Tlm.hotHold htlm, congrArg Tlm.level htlm, hrow, hceiling, rfl, rfl,
      (Mp.startLine_baud m).trans hbaud⟩

/-! ### Restart -/

theorem exec_restart {s : State} {o : RestartOpts} (hdue : s.mp.restartDue = true) (hopts : s.mp.restart = some o) :
    exec .restart s = .next (s.restartTo o).close := by
  show Host.Outcome.next s.restartDue.close = _
  simp [State.restartDue, hopts, hdue]

/-- Settles O31. -/
theorem siteRestartPutsRestartValues : Obligations.SiteRestartPutsRestartValues := by
  refine ⟨fun s tag o hs hphase => ⟨fun ho => ?_, fun ho => ?_⟩, fun s noImage hhot hsave hdue hopts => ?_⟩
  · have hserve : s.received.serve (.siteRestart o) = okOnly { s.received with
        mp.restart := some ⟨o.toNat.testBit 0, o.toNat.testBit 1⟩ } :=
      (if_neg (not_not_intro hphase)).trans (if_neg (Nat.not_lt.2 ho))
    rw [exec_request (c := .siteRestart tag o) rfl, State.submit_answered hs hserve rfl rfl rfl]
    rfl
  · have hserve : s.received.serve (.siteRestart o) = refuse s.received .badValue :=
      (if_neg (not_not_intro hphase)).trans (if_pos ho)
    rw [exec_request (c := .siteRestart tag o) rfl, State.submit_answered hs hserve rfl rfl rfl]
    rfl
  · rw [exec_restart hdue hopts, State.restartTo_eq]
    simp only [Bool.false_and, Bool.false_eq_true, if_false]
    rw [State.sampleHot_free (s := s.restartBase ⟨false, noImage⟩) hhot rfl,
      State.close_still ⟨rfl, rfl, rfl⟩ rfl rfl rfl]
    simp only [State.restartBase, Il.restarted, hsave, Bool.false_eq_true, if_false]
    rfl

/-- The loop of a restart with KEEP_TIME, by the table of R98. -/
theorem Dsu.restarted_lost {d : Dsu} (h : d.loop = .track ∨ d.loop = .acquire) (hring : d.ring ≠ []) :
    d.restarted.loop = .holdover ∧ d.restarted.hclock = 0 ∧ d.restarted.c = d.ringMean ∧ d.restarted.i = -d.ringMean
      ∧ d.restarted.u = if d.loop = .track then 50 else Config.uSat := by
  rcases h with h | h <;> simp [Dsu.restarted, Dsu.lostState, Dsu.moveTo, Dsu.enterHoldover, Dsu.ringMean, h, hring]

theorem Dsu.restarted_free {d : Dsu} (h : d.loop = .free ∨ (d.loop = .track ∨ d.loop = .acquire) ∧ d.ring = []) :
    d.restarted.loop = .free ∧ d.restarted.c = d.c ∧ d.restarted.i = d.i ∧ d.restarted.u = Config.uSat := by
  rcases h with h | ⟨h | h, hring⟩
  · simp [Dsu.restarted, Dsu.moveTo, h]
  · simp [Dsu.restarted, Dsu.lostState, Dsu.moveTo, h, hring]
  · simp [Dsu.restarted, Dsu.lostState, Dsu.moveTo, h, hring]

theorem Dsu.restarted_holdover {d : Dsu} (h : d.loop = .holdover) : d.restarted.loop = .holdover
    ∧ d.restarted.hclock = d.hclock ∧ d.restarted.c = d.c ∧ d.restarted.i = d.i ∧ d.restarted.u = d.u := by
  simp [Dsu.restarted, h]

/-- What every restart with KEEP_TIME keeps, and what it drops (R98). -/
theorem Dsu.restarted_kept (d : Dsu) : d.restarted.time = d.time ∧ d.restarted.residue = d.residue
    ∧ d.restarted.ring = d.ring ∧ d.restarted.steps = d.steps ∧ d.restarted.pendStep = none ∧ d.restarted.pendSec = none
    ∧ d.restarted.acq = 0 ∧ d.restarted.trk = 0 ∧ d.restarted.p = 0 ∧ d.restarted.report = none
    ∧ d.restarted.set = {} := by
  by_cases hring : d.ring = []
  · cases h : d.loop <;> simp [Dsu.restarted, Dsu.lostState, Dsu.moveTo, h, hring]
  · cases h : d.loop <;> simp [Dsu.restarted, Dsu.lostState, Dsu.moveTo, Dsu.enterHoldover, h, hring]

/-- Settles O32. -/
theorem restartKeepsTime : Obligations.RestartKeepsTime := by
  intro s noImage hdue hopts
  have hnote : ∃ m, (if (true && decide ((s.restartBase ⟨true, noImage⟩).dsu.loop ≠ s.dsu.loop)) = true
      then (s.restartBase ⟨true, noImage⟩).noteTime else s.restartBase ⟨true, noImage⟩) =
        { s.restartBase ⟨true, noImage⟩ with mp := m } ∧ m.inbound = [] := by
    split
    · exact ⟨_, rfl, (State.InnerOf.refl (Q := View.any) _).noteTime.port_eq.2.2.1⟩
    · exact ⟨_, rfl, rfl⟩
  obtain ⟨m, hm, hin⟩ := hnote
  obtain ⟨t, f, c, m', hhot, hin', -⟩ := State.sampleHot_eq (s := { s.restartBase ⟨true, noImage⟩ with mp := m }) rfl
  rw [exec_restart hdue hopts, State.restartTo_eq, hm, hhot, State.close_calm ⟨rfl, rfl, hin'.trans hin⟩]
  refine ⟨_, rfl, ?_⟩
  obtain ⟨htime, hresidue, hring, hsteps, hstep, hsec, hacq, htrk, hp, hreport, hset⟩ := Dsu.restarted_kept s.dsu
  exact ⟨htime, hresidue, hring, hsteps, hstep, hsec, hacq, htrk, hp, hreport, hset, Dsu.restarted_lost,
    fun hl hr => Dsu.restarted_free (.inr ⟨hl, hr⟩), Dsu.restarted_holdover, fun hl => Dsu.restarted_free (.inl hl)⟩

end Sys2Proof.Machine
end

section
/-! PROOFS. The end of an event that leaves no action: what a computation that takes nothing back makes of the run at the
head, and what the start of a run does (R119, R125, R147, R150). -/

namespace Sys2Proof.Machine

/-! ### A computation with no grant held -/

/-- With no grant held a computation takes none back (R126). -/
theorem share_not_revoked {x : ShareIn} (h : x.grant = none) : (share x).revoked = false := by
  simp [share_revoked, h]

theorem share_tReq (x : ShareIn) : (share x).tReq = if (share x).revoked then 0 else x.tReq := rfl

theorem State.handNewest_sha (s : State) (counts : MapCounts) (prof : Nat) (kind : TriggerKind) :
    (s.handNewest counts prof kind).sha = s.sha := by
  simp

/-- What a computation leaves of the grant and the request (R119, R125, R126). -/
theorem State.computeShare_sha (s : State) (t : Trigger) (o : ShareOut) : (s.computeShare t o).sha =
    { newest := ⟨o.counts, s.shareIn.prof, some (o.kind t)⟩, grant := o.grant, tReq := o.tReq
      record := some (o.record s.shareIn t) } :=
  State.handNewest_sha _ _ _ _

/-- The two ends of a computation with no grant held: none is given, or the run in WAITING is given its grant. -/
theorem State.compute_free {s : State} (h : s.sha.grant = none) (t : Trigger) : ∃ a,
    (s.compute t = s.withAlloc a ∧ a.sha.grant = none ∧ a.sha.tReq = s.sha.tReq)
    ∨ (s.compute t = (s.withAlloc a).grantGiven ∧ a.sha.grant = some s.sha.tReq ∧ a.sha.tReq = s.sha.tReq
      ∧ 0 < s.sha.tReq) := by
  have hrevoked : (share s.shareIn).revoked = false := share_not_revoked h
  have htReq : (share s.shareIn).tReq = s.sha.tReq := by
    rw [share_tReq, hrevoked]
    rfl
  have hgrant := share_grant s.shareIn
  rw [hrevoked] at hgrant
  have hsha := State.computeShare_sha s t (share s.shareIn)
  obtain ⟨a, ha⟩ := State.computeShare_eq s t (share s.shareIn)
  rw [ha] at hsha
  have hasha : a.sha = _ := hsha
  refine ⟨a, ?_⟩
  unfold State.compute
  dsimp only
  rw [ha, hrevoked]
  by_cases hgave : (share s.shareIn).gave = true
  · have hpos : 0 < s.sha.tReq := by
      have hg := share_gave s.shareIn
      rw [hgave] at hg
      simp only [Bool.true_eq, Bool.and_eq_true, decide_eq_true_eq] at hg
      exact hg.1.1.1
    rw [if_pos hgave]
    refine .inr ⟨rfl, ?_, ?_, hpos⟩
    · rw [hasha]
      exact hgrant.trans ((if_neg (by simp)).trans (if_pos hgave))
    · rw [hasha]
      exact htReq
  · rw [if_neg hgave]
    refine .inl ⟨rfl, ?_, ?_⟩
    · rw [hasha]
      exact hgrant.trans ((if_neg (by simp)).trans ((if_neg hgave).trans h))
    · rw [hasha]
      exact htReq

/-! ### The work left, with no action in it -/

/-- What the end of an event may change where no run ends in it. -/
structure Advanced where
  alloc : Allocated
  queue : List Run
  kept : List SvcMsg
  svc : List SvcMsg

/-- The state with that changed. -/
def State.advance (s : State) (x : Advanced) : State :=
  { s.withAlloc x.alloc with
    lfr := { (s.withAlloc x.alloc).lfr with tx := { (s.withAlloc x.alloc).lfr.tx with svc := x.svc } }
    stu := { s.stu with queue := x.queue, kept := x.kept, removed := [] }
    work := {} }

/-- The run given its grant is STARTING (R149). -/
def Run.granted (r : Run) : Run := { r with state := .starting, grantLeft := none }

/-- The queue once a grant is given: a run in WAITING takes it, and no other. -/
def grantHead (q : List Run) : List Run :=
  match q with
  | [] => []
  | r :: rs => if r.state = .waiting then r.granted :: rs else r :: rs

/-- A grant reaches the run at the head (R149, R150). -/
theorem State.grantGiven_eq (s : State) : ∃ k v m, s.grantGiven = { s with
    stu.kept := k, stu.queue := grantHead s.stu.queue, lfr.tx.svc := v, mp := m } := by
  have hsame (hg : s.grantGiven = s) (hq : grantHead s.stu.queue = s.stu.queue) : ∃ k v m, s.grantGiven = { s with
      stu.kept := k, stu.queue := grantHead s.stu.queue, lfr.tx.svc := v, mp := m } :=
    ⟨s.stu.kept, s.lfr.tx.svc, s.mp, by rw [hg, hq]⟩
  cases hq : s.stu.queue with
  | nil => exact hq ▸ hsame (by simp [State.grantGiven, Stu.active, hq]) (by simp [grantHead, hq])
  | cons r rs =>
    by_cases hwait : r.state = .waiting
    · have hactive := Stu.active_cons hq (r := r) (by simp [hwait])
      unfold State.grantGiven
      simp only [hactive, if_pos hwait, grantHead]
      unfold State.offer
      split
      · exact ⟨_, _, _, by simp only [State.setActive, hq]; rfl⟩
      · exact ⟨_, _, _, by simp only [State.setActive, hq]; rfl⟩
    · refine hq ▸ hsame ?_ (by simp [grantHead, hq, hwait])
      unfold State.grantGiven
      split
      · next q hactive =>
        obtain rfl : r = q := by
          have := Stu.active_queue hactive
          rw [hq] at this
          exact (List.cons.inj this).1
        exact if_neg hwait
      · rfl

/-- The ends of an event with no grant held: none is given, or the run in WAITING is given its grant. -/
def Advanced.from (x : Advanced) (s : State) : Prop :=
  (x.queue = s.stu.queue ∧ x.alloc.sha.grant = none ∧ x.alloc.sha.tReq = s.sha.tReq)
    ∨ (x.queue = grantHead s.stu.queue ∧ x.alloc.sha.grant = some s.sha.tReq ∧ x.alloc.sha.tReq = s.sha.tReq
      ∧ 0 < s.sha.tReq)

/-- A state with no action left and no run due, with no grant held: the rest of the event gives a grant at most. -/
theorem State.doWork_free {s : State} (h : s.settled) (hgrant : s.sha.grant = none) (n : Nat) : ∃ x : Advanced,
    (State.doWork (n + 1) s).endEvent = s.advance x ∧ x.from s := by
  have hwork : ({ s.work with alloc := none, phase := none } : Work) = {} := by rw [← h.1, ← h.2]
  cases ht : s.work.alloc with
  | none =>
    refine ⟨⟨s.unallocated, s.stu.queue, s.stu.kept, s.lfr.tx.svc⟩, ?_, .inl ⟨rfl, hgrant, rfl⟩⟩
    rw [State.doWork_done h ht, State.advance, ← hwork, ← ht]
    rfl
  | some t =>
    obtain ⟨a, ⟨hcompute, hg, htReq⟩ | ⟨hgave, hg, htReq, hpos⟩⟩ :=
      State.compute_free (s := { s with work.alloc := none }) hgrant t
    · refine ⟨⟨a, s.stu.queue, s.stu.kept, s.lfr.tx.svc⟩, ?_, .inl ⟨rfl, hg, htReq⟩⟩
      rw [State.doWork_computed h ht hcompute h rfl, State.advance, ← hwork]
      rfl
    · obtain ⟨k, v, m, heq⟩ := State.grantGiven_eq (State.withAlloc { s with work.alloc := none } a)
      refine ⟨⟨{ a with mp := m }, grantHead s.stu.queue, k, v⟩, ?_, .inr ⟨rfl, hg, htReq, hpos⟩⟩
      rw [State.doWork_computed h ht (hgave.trans heq) h rfl, State.advance, ← hwork]
      rfl

/-- The end of an event that leaves no action and no run due, with no grant held. -/
theorem State.finishWork_free {s : State} (h : s.settled) (hgrant : s.sha.grant = none) :
    ∃ x : Advanced, s.finishWork = s.advance x ∧ x.from s := by
  rw [State.finishWork_endEvent]
  exact State.doWork_free h hgrant 47

/-- An event whose first work is the run at the head. -/
theorem State.workStep_due {s : State} (hacts : s.work.acts = []) (hdue : s.work.runDue = true) :
    s.workStep = ({ s with work.runDue := false } : State).startRun := by
  simp [State.workStep, State.actStep, hacts, hdue]

/-- The end of an event that starts the run at the head, with no grant held after that. -/
theorem State.finishWork_started {s u : State} (hacts : s.work.acts = []) (hdue : s.work.runDue = true)
    (hstart : ({ s with work.runDue := false } : State).startRun = u) (hu : u.settled) (hgrant : u.sha.grant = none) :
    ∃ x : Advanced, s.finishWork = u.advance x ∧ x.from u := by
  rw [State.finishWork_endEvent, State.doWork, State.workStep_due hacts hdue, hstart]
  exact State.doWork_free hu hgrant 46

/-- With no run in the queue there is none to start: an event that leaves no action ends with one allocation at most. -/
theorem State.finishWork_quiet {s : State} (hacts : s.work.acts = []) (hq : s.stu.queue = []) :
    ∃ a, s.finishWork = s.allocated a := by
  by_cases hdue : s.work.runDue = true
  · have hstart : ({ s with work.runDue := false } : State).startRun = { s with work.runDue := false } := by
      simp [State.startRun, hq]
    obtain ⟨a, ha⟩ := State.doWork_allocated (s := { s with work.runDue := false }) ⟨hacts, rfl⟩ (Stu.active_empty hq) 46
    refine ⟨a, ?_⟩
    rw [State.finishWork_endEvent, State.doWork, State.workStep_due hacts hdue, hstart, ha]
    rfl
  · exact State.finishWork_allocated ⟨hacts, by simpa using hdue⟩ (Stu.active_empty hq)

/-! ### The start of a run -/

/-- A run that leaves QUEUED for the first state of its kind (R147). -/
def Run.begun (r : Run) : Run :=
  if r.entry.kind = .linkPattern then { r with state := .waiting, grantLeft := some Config.grantFrames }
  else { r with state := .running }

/-- The run at the head becomes active: a link pattern run asks for its grant (R147, R149). -/
theorem State.startRun_eq {s : State} {r : Run} {rs : List Run} (hq : s.stu.queue = r :: rs) (hr : r.state = .queued)
    (hkind : r.entry.kind ≠ .sensorCheck) : ∃ a m, s.startRun = { s with
      stu.queue := r.begun :: rs
      sha.tReq := if r.entry.kind = .linkPattern then r.entry.blocks else s.sha.tReq
      work.alloc := a, mp := m } := by
  unfold State.startRun Run.begun
  simp only [hq, hr, if_true]
  split
  · next hk =>
    have hwant (t : State) (x : Trigger) : ∃ a, t.wantAlloc x = { t with work.alloc := a } := by
      unfold State.wantAlloc
      split
      · exact ⟨_, rfl⟩
      · exact ⟨_, rfl⟩
      · exact ⟨t.work.alloc, rfl⟩
    simp only [hk, if_true, State.testRequest, State.setActive, hq, List.tail_cons]
    obtain ⟨a, ha⟩ := hwant { s with
      stu.queue := { r with state := .waiting, grantLeft := some Config.grantFrames } :: rs
      sha.tReq := r.entry.blocks } .test
    rw [ha]
    exact ⟨a, _, rfl⟩
  · next hk =>
    refine ⟨s.work.alloc, (State.noteTest { s with stu.queue := { r with state := .running } :: rs }).mp, ?_⟩
    rw [if_neg (by simp [hk]), if_neg (by simp [hk])]
    simp only [State.setActive, hq, List.tail_cons]
    rfl
  · next hk => exact absurd hk hkind

/-- A run that has begun, and what it has asked for or been given (R147, R149, R150). -/
structure Run.Began (r q : Run) (x : Sha) : Prop where
  idx : q.idx = r.idx
  entry : q.entry = r.entry
  id : q.id = r.id
  round : q.round = r.round
  left : q.state ≠ .queued
  cross : r.entry.kind = .refCross → q.state = .running
  pattern : r.entry.kind = .linkPattern →
    (q.state = .waiting ∧ q.grantLeft = some 40000 ∧ x.tReq = r.entry.blocks ∧ x.grant = none)
      ∨ (q.state = .starting ∧ q.grantLeft = none ∧ x.grant = some r.entry.blocks)

/-- The run at the head begins in an event that leaves no action, with no grant held. -/
theorem State.finishWork_begins {s : State} {r : Run} {rs : List Run} (hacts : s.work.acts = [])
    (hdue : s.work.runDue = true) (hq : s.stu.queue = r :: rs) (hr : r.state = .queued)
    (hkind : r.entry.kind ≠ .sensorCheck) (hgrant : s.sha.grant = none) : ∃ x q,
      s.finishWork = s.advance x ∧ x.queue = q :: rs ∧ r.Began q x.alloc.sha := by
  obtain ⟨a, m, hstart⟩ := State.startRun_eq (s := { s with work.runDue := false }) hq hr hkind
  obtain ⟨x, hx, hfrom⟩ := State.finishWork_started hacts hdue hstart ⟨hacts, rfl⟩ hgrant
  refine ⟨x, ?_⟩
  by_cases hpat : r.entry.kind = .linkPattern
  · have hbegun : r.begun = { r with state := .waiting, grantLeft := some Config.grantFrames } := if_pos hpat
    rcases hfrom with ⟨hqueue, hg, htReq⟩ | ⟨hqueue, hg, -, -⟩
    · refine ⟨r.begun, hx, hqueue, ?_⟩
      rw [hbegun]
      exact ⟨rfl, rfl, rfl, rfl, by simp, by simp [hpat], fun _ => .inl ⟨rfl, rfl, htReq.trans (if_pos hpat), hg⟩⟩
    · refine ⟨r.begun.granted, hx, hqueue.trans (if_pos (by rw [hbegun])), ?_⟩
      rw [hbegun]
      exact ⟨rfl, rfl, rfl, rfl, by simp [Run.granted], by simp [hpat],
        fun _ => .inr ⟨rfl, rfl, hg.trans (congrArg some (if_pos hpat))⟩⟩
  · have hbegun : r.begun = { r with state := .running } := if_neg hpat
    have hqueue : x.queue = r.begun :: rs := by
      rcases hfrom with ⟨hqueue, -, -⟩ | ⟨hqueue, -, -, -⟩
      · exact hqueue
      · exact hqueue.trans (if_neg (by simp [hbegun]))
    refine ⟨r.begun, hx, hqueue, ?_⟩
    rw [hbegun]
    exact ⟨rfl, rfl, rfl, rfl, by simp, fun _ => rfl, fun h => absurd h hpat⟩

end Sys2Proof.Machine
end

section
/-! PROOFS. Moves between phases with no run in the queue: the phase record, the tenants, and what is told of them (R3, R105,
R107). -/

namespace Sys2Proof.Machine

/-! ### What tenants and phases tell -/

/-- What telling of tenants changes: the tenants, the fault rows cleared with them, the notices, an allocation wanted. -/
structure Telling where
  tpt : Four Tenant
  fmn : Fmn
  mp : Mp
  alloc : Option Trigger

/-- The state with that changed. -/
def State.telling (s : State) (x : Telling) : State := { s with tpt := x.tpt, fmn := x.fmn, mp := x.mp, work.alloc := x.alloc }

/-- `t` is `s` with tenants told of: no fault row has become active. -/
def State.Tells (s t : State) : Prop :=
  ∃ x, t = s.telling x ∧ ∀ r, (x.fmn.row r).active = true → (s.fmn.row r).active = true

namespace State.Tells

variable {s t u : State}

theorem refl (s : State) : Tells s s := ⟨⟨s.tpt, s.fmn, s.mp, s.work.alloc⟩, rfl, fun _ => id⟩

theorem trans (h : Tells s t) (g : Tells t u) : Tells s u := by
  obtain ⟨x, rfl, hx⟩ := h
  obtain ⟨y, rfl, hy⟩ := g
  exact ⟨y, rfl, fun r hr => hx r (hy r hr)⟩

theorem port (h : Tells s t) (m : Mp) : Tells s { t with mp := m } := by
  obtain ⟨x, rfl, hx⟩ := h
  exact ⟨{ x with mp := m }, rfl, hx⟩

theorem notify (h : Tells s t) (k : NoticeKind) (n : Nat) (c : Bytes) : Tells s (t.notify k n c) := h.port _

theorem modTenant (h : Tells s t) (i : Fin 4) (f : Tenant → Tenant) : Tells s (t.modTenant i f) := by
  obtain ⟨x, rfl, hx⟩ := h
  exact ⟨{ x with tpt := _ }, rfl, hx⟩

theorem tellTenant (h : Tells s t) (i : Fin 4) (c : TenantCause) : Tells s (t.tellTenant i c) :=
  (h.modTenant i _).notify _ _ _

theorem wantAlloc (h : Tells s t) (a : Trigger) : Tells s (t.wantAlloc a) := by
  have hwant (b : Option Trigger) : Tells t { t with work.alloc := b } := ⟨⟨t.tpt, t.fmn, t.mp, b⟩, rfl, fun _ => id⟩
  refine h.trans ?_
  unfold State.wantAlloc
  split
  · exact hwant _
  · exact hwant _
  · exact refl t

theorem moveTenant (h : Tells s t) (i : Fin 4) (st : TenantState) (c : TenantCause) : Tells s (t.moveTenant i st c) :=
  ((h.modTenant i _).tellTenant i c).wantAlloc _

theorem clear (h : Tells s t) (r : Nat) : Tells s (t.clear r) := by
  have hactive := State.clear_active t r
  obtain ⟨f, m, hf⟩ := State.clear_eq t r
  rw [hf] at hactive ⊢
  refine h.trans ⟨⟨t.tpt, f, m, t.work.alloc⟩, rfl, fun q hq => ?_⟩
  have hq' := (hactive q).symm.trans hq
  split at hq'
  · cases hq'
  · exact hq'

theorem activate (h : Tells s t) (i : Fin 4) (c : TenantCause) : Tells s (t.activate i c) := (h.moveTenant i _ c).clear _

theorem tryActive (h : Tells s t) (c : TenantCause) (i : Fin 4) : Tells s (t.tryActive c i) := by
  unfold State.tryActive
  split
  · exact h.activate i c
  · exact h

theorem hold (h : Tells s t) (c : TenantCause) (i : Fin 4) : Tells s (t.hold c i) := by
  unfold State.hold
  split
  · exact h.moveTenant i _ c
  · exact h.moveTenant i _ c
  all_goals exact h

theorem bar (h : Tells s t) (i : Fin 4) (c : TenantCause) : Tells s (t.bar i c) := by
  unfold State.bar
  split
  case h_1 | h_2 | h_3 => exact (h.modTenant i _).moveTenant i _ c
  all_goals exact h

theorem unbar (h : Tells s t) (i : Fin 4) : Tells s (t.unbar i) := by
  unfold State.unbar
  split
  · exact (h.moveTenant i _ _).tryActive _ i
  all_goals exact h

theorem forTenants {f : State → Fin 4 → State} (hf : ∀ t i, Tells s t → Tells s (f t i)) (h : Tells s t) :
    Tells s (t.forTenants f) := by
  unfold State.forTenants
  generalize tenants = l
  induction l generalizing t with
  | nil => exact h
  | cons x xs ih => exact ih (hf t x h)

end State.Tells

/-! ### Moves between phases -/

/-- With no run in the queue none is stopped. -/
theorem State.removeRuns_empty {s : State} (h : s.stu.queue = []) (w : Run → Bool) : s.removeRuns w = s := by
  simp [State.removeRuns, h]

theorem State.abortQuietly_empty {s : State} (h : s.stu.queue = []) (c : PhaseCause) (w : Run → Bool) :
    s.abortQuietly c w = s := by
  simp [State.abortQuietly, Stu.active_empty h]

theorem State.stopRuns_empty {s : State} (h : s.stu.queue = []) (c : PhaseCause) : s.stopRuns c = s := by
  rw [State.stopRuns, State.abortQuietly_empty h, State.removeRuns_empty h]

theorem State.roundOver_empty {s : State} (h : s.stu.queue = []) (c : PhaseCause) : s.roundOver c = s := by
  rw [State.roundOver, State.abortQuietly_empty h, State.removeRuns_empty h]

theorem State.Tells.leaveEffects {s t : State} (h : State.Tells s t) (hq : s.stu.queue = []) (old p : Phase)
    (c : PhaseCause) : State.Tells s (t.leaveEffects old p c) := by
  have hempty {u : State} (hu : State.Tells s u) : u.stu.queue = [] := by
    obtain ⟨x, rfl, -⟩ := hu
    exact hq
  cases old with
  | prove =>
    have hstop : (if p = .service then t.roundOver c else t.stopRuns c) = t := by
      rw [State.roundOver_empty (hempty h), State.stopRuns_empty (hempty h), ite_self]
    simp only [State.leaveEffects, hstop]
    exact h.clear _
  | service =>
    have hheld : State.Tells s (t.forTenants (fun s i => s.hold .phase i)) :=
      State.Tells.forTenants (fun _ i ht => ht.hold _ i) h
    simp only [State.leaveEffects, State.stopRuns_empty (hempty hheld)]
    exact hheld
  | load | align | seek | recover | halt => exact h

/-- The phase record after a move (R3, R19). -/
def Spc.moved (x : Spc) (p : Phase) (c : PhaseCause) : Spc :=
  { x with
    phase := p, left := x.phase, cause := c, prove := .idle, roundNo := 0, retry := none, recover := none
    winSlots := 0, winSum := 0, led := false }

/-- The state with the phase moved, before anything is told of it. -/
def State.movedTo (s : State) (p : Phase) (c : PhaseCause) : State :=
  { s with spc := s.spc.moved p c, work.phase := s.work.phase.or (some s.spc.phase) }

/-- With no run in the queue a move of the phase changes the phase record and tells the tenants. -/
theorem State.movePhase_tells {s : State} (hq : s.stu.queue = []) (p : Phase) (c : PhaseCause) (v : ProveState) (n : Nat) :
    State.Tells (s.movedTo p c) (s.movePhase p c v n) := by
  have hnote : ∃ m, (if s.spc.phase = .align then s.noteAlign else s) = { s with mp := m } := by
    split
    · exact ⟨_, rfl⟩
    · exact ⟨s.mp, rfl⟩
  obtain ⟨m, hm⟩ := hnote
  unfold State.movePhase
  dsimp only
  rw [hm]
  refine State.Tells.leaveEffects (s := s.movedTo p c) (State.Tells.notify ?_ _ _ _) hq _ _ _
  exact (State.Tells.refl (s.movedTo p c)).port m

/-- With no run in the queue SERVICE is entered by that and by what the tenants make of it (R103). -/
theorem State.enterService_tells {s : State} (hq : s.stu.queue = []) (c : PhaseCause) (v : ProveState) (n : Nat) :
    State.Tells (s.movedTo .service c) (s.enterService c v n) :=
  State.Tells.forTenants (fun _ i ht => ht.tryActive _ i) (State.movePhase_tells hq .service c v n)

/-- What entering SERVICE makes of the tenants (R103). -/
theorem State.enterService_tpt {s : State} (hphase : s.spc.phase ≠ .service) (c : PhaseCause) (v : ProveState) (n : Nat) :
    (s.enterService c v n).tpt = Four.of (fun i => (s.tpt.get i).tried .service .phase) := by
  have hspc : (s.movePhase .service c v n).spc.phase = .service := by rw [State.movePhase_spc]
  have htpt : (s.movePhase .service c v n).tpt = s.tpt := by rw [State.movePhase_tpt, if_neg hphase]
  unfold State.enterService
  rw [State.forTenants_tpt (g := fun _ t => t.tried .service .phase) (fun t => t.spc.phase = .service)
    (fun t i ht => ⟨by rw [State.tryActive_tpt, ht], by simpa using ht⟩) hspc, htpt]

/-! ### Requests that move a tenant or the phase -/

/-- A request whose owner does no more than tell of tenants, where the state it begins from has no work but an allocation
and no run in the queue. -/
theorem exec_told {s : State} (h : s.ready) {c : Instr} {kind tag : Byte} {body : ReqBody} {u v : State} {st : Status}
    {f : State → Bytes} (hc : requestOf c = some ⟨kind, tag, body⟩) (ha : s.received.serve body = ⟨u, st, f⟩)
    (hbody : body.isRestart = false) (hv : v.settled) (hq : v.stu.queue = []) (hu : State.Tells v u) :
    ∃ x a p, u = v.telling x ∧ exec c s = .next { (v.telling x).allocated a with mp := p }
      ∧ p.slot = some ⟨kind + 0x80, tag, e1 st.code ++ f ((v.telling x).allocated a), false⟩ := by
  obtain ⟨x, rfl, -⟩ := hu
  obtain ⟨a, p, hex, hslot⟩ := exec_allocated h hc ha hbody hv (Stu.active_empty hq)
  exact ⟨x, a, p, rfl, hex, hslot⟩

theorem State.received_settled {s : State} (h : s.ready) : s.received.settled := by
  have hwork : s.work = {} := h.1.1.1
  exact ⟨by simp [State.received, hwork], by simp [State.received, hwork]⟩

/-- Settles O16. -/
theorem serviceEntryActivatesTenants : Obligations.ServiceEntryActivatesTenants := by
  intro s tag hs hq hphase
  have hserve : s.received.serve .proveForce = okOnly (s.received.enterService .proveForce .idle 0) := if_pos hphase
  have hservice : s.received.spc.phase ≠ .service := by
    rw [show s.received.spc.phase = .prove from hphase]
    decide
  have htpt := State.enterService_tpt hservice .proveForce .idle 0
  have htells := State.enterService_tells (s := s.received) hq .proveForce .idle 0
  have hsettled : (s.received.movedTo .service .proveForce).settled := State.received_settled hs
  obtain ⟨x, a, p, hx, hex, -⟩ := exec_told hs (c := .proveForce tag) rfl hserve (by rfl) hsettled hq htells
  rw [hx] at htpt
  refine ⟨_, hex, fun i => ?_⟩
  have hget : x.tpt.get i = (s.tpt.get i).tried .service .phase := (congrArg (Four.get · i) htpt).trans (Four.get_of _ i)
  show if _ then (x.tpt.get i).state = TenantState.active ∧ (x.tpt.get i).permit = true
    else (x.tpt.get i).state = (s.tpt.get i).state ∧ (x.tpt.get i).permit = (s.tpt.get i).permit
  rw [hget]
  unfold Tenant.tried
  by_cases h : (s.tpt.get i).state = .held ∧ (s.tpt.get i).link = true ∧ (s.tpt.get i).fit = some .fit
  · rw [if_pos h, if_pos ⟨h.1, rfl, h.2⟩]
    exact ⟨rfl, rfl⟩
  · rw [if_neg h, if_neg fun h' => h ⟨h'.1, h'.2.2⟩]
    exact ⟨rfl, rfl⟩

/-- Settles O25. -/
theorem tenantBarAndUnbar : Obligations.TenantBarAndUnbar := by
  intro s tag i hs hq hload
  have hout (a : Answer) : s.received.outsideLoad a = a := State.outsideLoad_of_ne (s := s.received) hload a
  have hbar : s.received.serve (.tenantBar (BitVec.ofNat 8 i.val)) =
      if (s.tpt.get i).state = .vacant then refuse s.received .badValue else okOnly (s.received.bar i .barRequest) :=
    (hout _).trans (State.withTenant_lt s.received i _)
  have hunbar : s.received.serve (.tenantUnbar (BitVec.ofNat 8 i.val)) = okOnly (s.received.unbar i) :=
    (hout _).trans (State.withTenant_lt s.received i _)
  refine ⟨fun h => ?_, fun h => exec_refused hs rfl rfl (hbar.trans (if_pos h)), fun h => ?_, fun h => ?_, fun h => ?_⟩
  · have hserve := hbar.trans (if_neg (by rcases h with h | h | h <;> simp [h]))
    obtain ⟨x, a, p, hx, hex, hslot⟩ := exec_told hs (c := .tenantBar tag _) rfl hserve rfl (State.received_settled hs) hq
      ((State.Tells.refl s.received).bar i .barRequest)
    have htpt := State.bar_tpt s.received i .barRequest
    rw [hx] at htpt
    replace htpt : x.tpt = s.tpt.set i ((s.tpt.get i).bar .barRequest) := htpt
    have hnew : x.tpt.get i = (s.tpt.get i).flush.moved .barred .barRequest := by
      rw [htpt, Four.get_set_same]
      exact if_pos h
    refine ⟨_, hex, ?_⟩
    show (x.tpt.get i).state = _ ∧ (x.tpt.get i).permit = _ ∧ (x.tpt.get i).queue = _ ∧ (x.tpt.get i).fit = _
      ∧ (x.tpt.get i).egress = _ ∧ (x.tpt.get i).counts.flushed = _ ∧ _ ∧ ∀ j, j ≠ i → x.tpt.get j = _
    rw [hnew]
    exact ⟨rfl, rfl, rfl, rfl, rfl, rfl, hslot, fun j hj => by rw [htpt, Four.get_set_other _ _ hj]⟩
  · have hserve := hbar.trans (if_neg (by simp [h]))
    have hsame : s.received.bar i .barRequest = s.received := by
      unfold State.bar
      rw [show (s.received.tpt.get i).state = .barred from h]
    exact exec_plain hs (c := .tenantBar tag _) rfl (hserve.trans (congrArg okOnly hsame)) rfl rfl rfl rfl
  · obtain ⟨x, a, p, hx, hex, hslot⟩ := exec_told hs (c := .tenantUnbar tag _) rfl hunbar rfl (State.received_settled hs) hq
      ((State.Tells.refl s.received).unbar i)
    have htpt : (s.received.unbar i).tpt =
        s.received.tpt.set i (((s.tpt.get i).moved .held .unbar).tried s.spc.phase .unbar) := by
      unfold State.unbar
      rw [show (s.received.tpt.get i).state = .barred from h]
      simp only [State.tryActive_tpt, State.moveTenant_tpt', Four.get_set_same, Four.set_set, State.moveTenant_frame]
      rfl
    rw [hx] at htpt
    replace htpt : x.tpt = s.tpt.set i _ := htpt
    refine ⟨_, hex, hslot, ?_⟩
    show (x.tpt.get i).state = _ ∧ ∀ j, j ≠ i → x.tpt.get j = _
    rw [htpt, Four.get_set_same]
    refine ⟨?_, fun j hj => Four.get_set_other _ _ hj⟩
    unfold Tenant.tried Tenant.moved
    by_cases hc : s.spc.phase = .service ∧ (s.tpt.get i).link = true ∧ (s.tpt.get i).fit = some .fit
    · rw [if_pos hc, if_pos ⟨rfl, hc⟩]
    · rw [if_neg hc, if_neg fun h' => hc h'.2]
  · have hsame : s.received.unbar i = s.received := by
      unfold State.unbar
      split
      · next h' => exact absurd h' h
      all_goals rfl
    exact exec_plain hs (c := .tenantUnbar tag _) rfl (hunbar.trans (congrArg okOnly hsame)) rfl rfl rfl rfl

end Sys2Proof.Machine
end

section
/-! PROOFS. Bring-up rounds: the runs that a round asks for, and what the end of the event makes of them (R16, R17, R147,
R159). -/

namespace Sys2Proof.Machine

/-! ### The runs of a round -/

theorem Stu.entriesOf_eq (u : Stu) (sch : Schedule) :
    u.entriesOf sch = ((u.plan.zipIdx.filter (fun p => decide (p.1.schedule = sch))).map (·.2)) := by
  unfold Stu.entriesOf
  induction u.plan.zipIdx with
  | nil => rfl
  | cons p ps ih =>
    by_cases h : p.1.schedule = sch
    · simp [h, ih]
    · simp [h, ih]

theorem Stu.entriesOf_nodup (u : Stu) (sch : Schedule) : (u.entriesOf sch).Nodup := by
  rw [Stu.entriesOf_eq]
  refine List.Nodup.sublist (List.filter_sublist.map _) ?_
  rw [List.zipIdx_map_snd]
  exact List.nodup_range'

theorem Stu.entriesOf_plan {u : Stu} {sch : Schedule} {i : Nat} (h : i ∈ u.entriesOf sch) : ∃ e, u.plan[i]? = some e := by
  rw [Stu.entriesOf_eq] at h
  obtain ⟨p, hp, rfl⟩ := List.mem_map.1 h
  have hp' := (List.mem_filter.1 hp).1
  exact ⟨p.1, List.mem_zipIdx_iff_getElem?.1 hp'⟩

/-- A request for an entry with no run there makes one at the tail (R147). -/
theorem State.requestRun_new {s : State} {i : Nat} {e : PlanEntry} (he : s.stu.plan[i]? = some e)
    (hnew : i ∉ s.stu.queue.map (·.idx)) (b : Bool) : s.requestRun i b = { s with
      stu.queue := s.stu.queue ++ [{ idx := i, entry := e, id := nextRunId s.stu.runId, round := b }]
      stu.runId := nextRunId s.stu.runId
      work.runDue := s.work.runDue || s.stu.queue.isEmpty } := by
  have hnone : ¬ (s.stu.runOf i).isSome = true := by
    simpa [Stu.runOf] using hnew
  unfold State.requestRun
  rw [he]
  exact if_neg hnone

/-- A run that a round has asked for. -/
structure Run.OfRound (r : Run) (plan : List PlanEntry) : Prop where
  round : r.round = true
  state : r.state = .queued
  entry : plan[r.idx]? = some r.entry

/-- Runs asked for one after another stand in the queue in that order. -/
theorem requestRuns_eq {s : State} {is : List Nat} (hplan : ∀ i ∈ is, ∃ e, s.stu.plan[i]? = some e) (hnodup : is.Nodup)
    (hnew : ∀ i ∈ is, i ∉ s.stu.queue.map (·.idx)) : ∃ rs id, is.foldl (fun s i => s.requestRun i true) s = { s with
      stu.queue := s.stu.queue ++ rs, stu.runId := id
      work.runDue := s.work.runDue || (s.stu.queue.isEmpty && !is.isEmpty) }
      ∧ rs.map (·.idx) = is ∧ ∀ r ∈ rs, r.OfRound s.stu.plan := by
  induction is generalizing s with
  | nil => exact ⟨[], s.stu.runId, by simp, rfl, fun r hr => absurd hr List.not_mem_nil⟩
  | cons i is ih =>
    obtain ⟨e, he⟩ := hplan i List.mem_cons_self
    obtain ⟨hi, hnodup'⟩ := List.nodup_cons.1 hnodup
    have hone := State.requestRun_new he (hnew i List.mem_cons_self) true
    obtain ⟨rs, id, heq, hidx, hround⟩ := ih (s := s.requestRun i true)
      (fun j hj => by rw [hone]; exact hplan j (List.mem_cons_of_mem _ hj)) hnodup' (fun j hj => by
        rw [hone]
        have hj' := hnew j (List.mem_cons_of_mem _ hj)
        have hne : j ≠ i := fun h => hi (h ▸ hj)
        simpa [hne] using hj')
    rw [hone] at heq hround
    refine ⟨{ idx := i, entry := e, id := nextRunId s.stu.runId, round := true } :: rs, id, ?_, by simp [hidx], ?_⟩
    · rw [List.foldl_cons, hone, heq]
      simp
    · intro r hr
      rcases List.mem_cons.1 hr with rfl | hr
      · exact ⟨rfl, rfl, he⟩
      · exact hround r hr

/-- A round asked for on an empty queue (R159). -/
theorem State.requestRound_eq {s : State} (hq : s.stu.queue = []) : ∃ rs id, s.requestRound = { s with
      stu.queue := rs, stu.runId := id, work.runDue := s.work.runDue || !(s.stu.entriesOf .bringup).isEmpty }
      ∧ rs.map (·.idx) = s.stu.entriesOf .bringup ∧ ∀ r ∈ rs, r.OfRound s.stu.plan := by
  obtain ⟨rs, id, heq, hidx, hround⟩ := requestRuns_eq (s := s) (is := s.stu.entriesOf .bringup)
    (fun i hi => Stu.entriesOf_plan hi) (Stu.entriesOf_nodup _ _) (fun i _ => by simp [hq])
  refine ⟨rs, id, ?_, hidx, hround⟩
  rw [State.requestRound, heq]
  simp [hq]

/-- The event of a round asked for ends with its runs in the queue, the first of them begun. -/
theorem State.finishWork_round {s : State} (hq : s.stu.queue = []) (hacts : s.work.acts = [])
    (hne : s.stu.entriesOf .bringup ≠ []) (hstay : s.runsStay) : ∃ x id,
      s.requestRound.finishWork = ({ s with stu.runId := id } : State).advance x
      ∧ x.queue.map (·.idx) = s.stu.entriesOf .bringup ∧ ∀ r ∈ x.queue, r.round = true := by
  obtain ⟨rs, id, heq, hidx, hround⟩ := State.requestRound_eq hq
  cases rs with
  | nil => exact absurd hidx.symm hne
  | cons r rs =>
    have hr := hround r List.mem_cons_self
    have hkind : r.entry.kind ≠ .sensorCheck := hstay.1 _ (List.mem_of_getElem? hr.entry)
    rw [heq]
    obtain ⟨x, q, hx, hqueue, hq⟩ := State.finishWork_begins (s := { s with
      stu.queue := r :: rs, stu.runId := id, work.runDue := s.work.runDue || !(s.stu.entriesOf .bringup).isEmpty })
      hacts (by simp [hne]) rfl hr.state hkind hstay.2
    refine ⟨x, id, hx, ?_, ?_⟩
    · rw [hqueue, ← hidx, List.map_cons, List.map_cons, hq.idx]
    · rw [hqueue]
      intro p hp
      rcases List.mem_cons.1 hp with rfl | hp
      · exact hq.round.trans hr.round
      · exact (hround p (List.mem_cons_of_mem _ hp)).round

/-! ### Entry to PROVE -/

theorem State.Tells.movedTo {s t : State} (h : State.Tells s t) (p : Phase) (c : PhaseCause) :
    State.Tells (s.movedTo p c) (t.movedTo p c) := by
  obtain ⟨x, rfl, hx⟩ := h
  exact ⟨x, rfl, hx⟩

/-- With no BRINGUP entry the entry to PROVE goes on to SERVICE (R16). -/
theorem State.enterProve_service {s : State} (hq : s.stu.queue = []) (hentries : s.stu.entriesOf .bringup = [])
    (c : PhaseCause) : State.Tells ((s.movedTo .prove c).movedTo .service .proveEmpty) (s.enterProve c) := by
  have hprove := State.movePhase_tells hq .prove c .passed 0
  have hq' : (s.movePhase .prove c .passed 0).stu.queue = [] := by
    obtain ⟨x, hx, -⟩ := hprove
    rw [hx]
    exact hq
  unfold State.enterProve
  rw [if_pos hentries]
  exact (hprove.movedTo .service .proveEmpty).trans (State.enterService_tells hq' .proveEmpty .passed 0)

/-- PROVE entered, in round 1 (R16). -/
def State.roundOne (s : State) (c : PhaseCause) : State :=
  { s.movedTo .prove c with spc := { (s.movedTo .prove c).spc with prove := .round, roundNo := 1 } }

/-- With BRINGUP entries the entry to PROVE asks for a round (R16). -/
theorem State.enterProve_round {s : State} (hq : s.stu.queue = []) (hentries : s.stu.entriesOf .bringup ≠ [])
    (c : PhaseCause) : ∃ v, State.Tells (s.roundOne c) v ∧ s.enterProve c = v.requestRound := by
  obtain ⟨x, hx, hrows⟩ := State.movePhase_tells hq .prove c .round 1
  unfold State.enterProve
  rw [if_neg hentries]
  dsimp only
  rw [hx]
  exact ⟨_, ⟨x, rfl, hrows⟩, rfl⟩

/-- The end of an event that enters PROVE with a round. -/
theorem State.finishWork_enterProve {s : State} (hq : s.stu.queue = []) (hacts : s.work.acts = [])
    (hentries : s.stu.entriesOf .bringup ≠ []) (hstay : s.runsStay) (c : PhaseCause) : ∃ y x id,
      (s.enterProve c).finishWork = (({ (s.roundOne c).telling y with stu.runId := id } : State)).advance x
      ∧ (∀ r, (y.fmn.row r).active = true → (s.fmn.row r).active = true)
      ∧ x.queue.map (·.idx) = s.stu.entriesOf .bringup ∧ ∀ r ∈ x.queue, r.round = true := by
  obtain ⟨v, ⟨y, rfl, hrows⟩, heq⟩ := State.enterProve_round hq hentries c
  obtain ⟨x, id, hx, hidx, hround⟩ := State.finishWork_round (s := (s.roundOne c).telling y) hq hacts hentries hstay
  exact ⟨y, x, id, heq ▸ hx, hrows, hidx, hround⟩

end Sys2Proof.Machine
end

section
/-! PROOFS. Commands that are no request, and the entry to UP (R4, R6, R25). -/

namespace Sys2Proof.Machine

/-! ### The end of a command that is no request -/

/-- A calm part's event ends with its work done, and with the frame that may begin. -/
theorem exec_ends {c : Instr} {s u w : State} (hs : s.calm) (hex : exec c s = .next u.close)
    (hu : State.InnerOf View.consistent s u) (hw : u.finishWork = w) : ∃ m, exec c s = .next { w with mp := m } := by
  have hin : w.mp.inbound = [] := by
    rw [← hw]
    exact hu.finishWork.port_eq.2.2.1.trans hs.2.2
  rw [hex, State.close, hw, State.settlePort_calm hin]
  exact ⟨_, rfl⟩

/-! ### The entry to UP -/

/-- An entry to UP handed over, with the wish, the fault table and the notices it leaves. -/
def State.upTaken (s : State) (l : Lau) (f : Fmn) (m : Mp) : State :=
  { s with lfr.rx.upDue := none, lau := l, fmn := f, mp := m }

/-- What an entry to UP brings before the phase moves (R25, R44, R48). -/
theorem State.clear_adaptUp_eq (s : State) (fc : Bool) : ∃ l f m, (s.clear rowLinkLoss).adaptUp fc =
    { s with lau := l, fmn := f, mp := m } ∧ (f.row 1).active = false := by
  have hrow := State.clear_active s rowLinkLoss 1
  rw [if_pos (show 1 = rowLinkLoss from rfl)] at hrow
  obtain ⟨f, m, hclear⟩ := State.clear_eq s rowLinkLoss
  rw [hclear] at hrow ⊢
  have hwish (t : State) (w : Nat) : ∃ l m, t.setWish w = { t with lau := l, mp := m } := by
    unfold State.setWish
    split
    · exact ⟨t.lau, t.mp, rfl⟩
    · exact ⟨_, _, rfl⟩
  unfold State.adaptUp
  dsimp only
  have hwin : ∃ l, (if fc = true then
      ({ s with fmn := f, mp := m, lau := { s.lau with winOn := true, winSlots := 0, winSum := 0 } } : State)
      else { s with fmn := f, mp := m }) = { s with fmn := f, mp := m, lau := l } := by
    split
    · exact ⟨_, rfl⟩
    · exact ⟨s.lau, rfl⟩
  obtain ⟨l, hl⟩ := hwin
  rw [hl]
  split
  · next v _ =>
    obtain ⟨l', m', hw⟩ := hwish { s with fmn := f, mp := m, lau := l } v
    exact ⟨l', f, m', hw, hrow⟩
  · exact ⟨l, f, m, rfl, hrow⟩

theorem exec_rxFramerUp {s : State} {fc : Bool} (h : s.lfr.rx.upDue = some fc) :
    exec .rxFramerUp s = .next (({ s with lfr.rx.upDue := none } : State).rxUp fc).close := by
  show Host.Outcome.next s.deliverUp.close = _
  unfold State.deliverUp
  rw [h]

/-- An entry to UP moves the phase from SEEK and from RECOVER (R4, R6). -/
theorem State.rxUp_eq (s : State) (fc : Bool) : ∃ l f m, (f.row 1).active = false ∧
    ({ s with lfr.rx.upDue := none } : State).rxUp fc = match s.spc.phase with
      | .seek => (s.upTaken l f m).enterProve .linkUp
      | .recover => (s.upTaken l f m).enterService .linkUp .idle 0
      | .load | .align | .prove | .service | .halt => s.upTaken l f m := by
  obtain ⟨l, f, m, hup, hrow⟩ := State.clear_adaptUp_eq { s with lfr.rx.upDue := none } fc
  refine ⟨l, f, m, hrow, ?_⟩
  unfold State.rxUp
  dsimp only
  rw [hup]
  cases s.spc.phase <;> rfl

/-- Settles O39. -/
theorem entryToUpMovesPhase : Obligations.EntryToUpMovesPhase := by
  intro s fc hs hq hdue _
  obtain ⟨l, f, m, hrow, hrise⟩ := State.rxUp_eq s fc
  have hinner : State.InnerOf View.consistent s (({ s with lfr.rx.upDue := none } : State).rxUp fc) :=
    ((State.InnerOf.refl s).change (u := { s with lfr.rx.upDue := none }) rfl).rxUp fc
  have hexec := exec_rxFramerUp hdue
  have hacts : s.work.acts = [] := by rw [hs.1]
  have hrows {x : Telling} (hx : ∀ r, (x.fmn.row r).active = true → (f.row r).active = true) :
      (x.fmn.row 1).active = false := by
    by_contra hactive
    rw [hx 1 (by simpa using hactive)] at hrow
    cases hrow
  rw [hrise] at hinner hexec
  refine ⟨fun hphase => ?_, fun hphase hentries => ?_, fun hphase hentries hstay => ?_, fun hrecover hseek => ?_⟩
  · simp only [hphase] at hinner hexec
    obtain ⟨x, hx, hfall⟩ := State.enterService_tells (s := s.upTaken l f m) hq .linkUp .idle 0
    rw [hx] at hinner hexec
    obtain ⟨a, ha⟩ := State.finishWork_quiet (s := ((s.upTaken l f m).movedTo .service .linkUp).telling x) hacts hq
    obtain ⟨p, hex⟩ := exec_ends hs hexec hinner ha
    exact ⟨_, hex, rfl, rfl, rfl, rfl, hrows hfall⟩
  · simp only [hphase] at hinner hexec
    obtain ⟨x, hx, hfall⟩ := State.enterProve_service (s := s.upTaken l f m) hq hentries .linkUp
    rw [hx] at hinner hexec
    obtain ⟨a, ha⟩ := State.finishWork_quiet
      (s := (((s.upTaken l f m).movedTo .prove .linkUp).movedTo .service .proveEmpty).telling x) hacts hq
    obtain ⟨p, hex⟩ := exec_ends hs hexec hinner ha
    exact ⟨_, hex, rfl, rfl, rfl, rfl, hrows hfall⟩
  · simp only [hphase] at hinner hexec
    obtain ⟨y, x, id, hx, hfall, hidx, hround⟩ :=
      State.finishWork_enterProve (s := s.upTaken l f m) hq hacts hentries hstay .linkUp
    obtain ⟨p, hex⟩ := exec_ends hs hexec hinner hx
    exact ⟨_, hex, rfl, rfl, hphase, rfl, rfl, rfl, ⟨hidx, hround⟩, rfl, hrows hfall⟩
  · have hstays : ({ s with lfr.rx.upDue := none } : State).rxUp fc = s.upTaken l f m := by
      rw [hrise]
      split
      · next h => exact absurd h hseek
      · next h => exact absurd h hrecover
      all_goals rfl
    rw [← hrise, hstays] at hinner hexec
    obtain ⟨p, hex⟩ := exec_ends hs hexec hinner (State.finishWork_idle hs.1 hs.2.1)
    exact ⟨_, hex, rfl, rfl, rfl, rfl, hrow⟩

end Sys2Proof.Machine
end

section
/-! PROOFS. The operations of the Self-Test Unit, each as one equation: what it writes, and what a raise of TEST_FAIL may
write with it. -/

namespace Sys2Proof.Machine

/-- What a raise or a clear may write: the fault table, the ceiling, the notices, and actions behind those there. -/
structure Raised where
  fmn : Fmn
  ceiling : Nat
  mp : Mp
  acts : List Action

/-- The state with that written. -/
def State.withRaised (s : State) (x : Raised) : State :=
  { s with fmn := x.fmn, lau.ceiling := x.ceiling, mp := x.mp, work.acts := s.work.acts ++ x.acts }

/-- Nothing has been raised. -/
def State.unraised (s : State) : Raised := ⟨s.fmn, s.lau.ceiling, s.mp, []⟩

theorem State.withRaised_unraised (s : State) : s.withRaised s.unraised = s := by
  simp [State.withRaised, State.unraised]

theorem State.raise_withRaised (s : State) (x : Raise) : ∃ y, s.raise x = s.withRaised y
    ∧ (y.acts = [] ∨ (s.fmn.row x.row).active = false ∧ ∃ resp, s.fmn.response (rowClass x.row) x.phase = some resp
      ∧ y.acts = (actsAs resp x.phase).action x.row) := by
  obtain ⟨f, c, m, as, heq, has⟩ := State.raise_eq s x
  exact ⟨⟨f, c, m, as⟩, heq, has⟩

theorem State.clear_withRaised (s : State) (r : Nat) : ∃ y, s.clear r = s.withRaised y ∧ y.acts = [] := by
  obtain ⟨f, m, heq⟩ := State.clear_eq s r
  refine ⟨⟨f, s.lau.ceiling, m, []⟩, heq.trans ?_, rfl⟩
  simp [State.withRaised]

/-! ### The end of a run -/

/-- A run's record in the result log (R161). -/
def State.recordOf (s : State) (r : Run) (o : RunOutcome) (c : RunCause) : LogRecord :=
  ⟨r.idx, r.entry.kind, r.id, r.round, o, c, s.dsu.time, s.spc.phase, r.entry.blocks, r.fig⟩

theorem State.settleOutcome_eq (s : State) (r : Run) (o : RunOutcome) : ∃ d x,
    s.settleOutcome r o = { s.withRaised x with stu.decisive := d }
      ∧ (o ≠ .fail → x.acts = []) ∧ (o = .aborted → x.fmn = s.fmn ∧ x.ceiling = s.lau.ceiling) := by
  have hsame (d : List Decisive) : ({ s with stu.decisive := d } : State) =
      { s.withRaised s.unraised with stu.decisive := d } := by rw [State.withRaised_unraised]
  cases o with
  | aborted => exact ⟨s.stu.decisive, s.unraised, hsame _, fun _ => rfl, fun _ => ⟨rfl, rfl⟩⟩
  | fail =>
    unfold State.settleOutcome
    dsimp only
    split
    · obtain ⟨y, hy, -⟩ := State.raise_withRaised { s with stu.decisive := s.stu.decisive.set r.idx .fail }
        ⟨rowTestFail, r.idx, s.raisePhase⟩
      exact ⟨_, y, hy, by simp, by simp⟩
    · exact ⟨_, s.unraised, hsame _, by simp, by simp⟩
  | pass =>
    unfold State.settleOutcome
    dsimp only
    split
    · obtain ⟨y, hy, hacts⟩ := State.clear_withRaised { s with stu.decisive := s.stu.decisive.set r.idx .pass } rowTestFail
      exact ⟨_, y, hy, fun _ => hacts, by simp⟩
    · exact ⟨_, s.unraised, hsame _, fun _ => rfl, by simp⟩

/-- The active run ends: its record, what its outcome raises or clears, and its removal (R148, R161, R162). -/
theorem State.finishRun_eq (s : State) (r : Run) (o : RunOutcome) (c : RunCause) : ∃ d x,
    s.finishRun r o c = { s.withRaised x with
      stu := { s.stu with
        log := (s.recordOf r o c :: s.stu.log).take 16, decisive := d, queue := s.stu.queue.tail }
      work := { s.work with acts := s.work.acts ++ x.acts, runDue := !s.stu.queue.tail.isEmpty } }
      ∧ (o ≠ .fail → x.acts = []) ∧ (o = .aborted → x.fmn = s.fmn ∧ x.ceiling = s.lau.ceiling) := by
  obtain ⟨d, x, hout, hacts, hsame⟩ := State.settleOutcome_eq (s.logRun r o c) r o
  refine ⟨d, ⟨x.fmn, x.ceiling, (s.finishRun r o c).mp, x.acts⟩, ?_, hacts, hsame⟩
  unfold State.finishRun
  rw [hout]
  rfl

/-- Waiting runs are removed (R148). -/
theorem State.removeRuns_eq (s : State) (w : Run → Bool) : ∃ g m, s.removeRuns w = { s with
    stu := { s.stu with
      queue := s.stu.queue.filter (fun r => !(decide (r.state = .queued) && w r)), removed := g }, mp := m } := by
  unfold State.removeRuns
  dsimp only
  split
  · next h =>
    refine ⟨s.stu.removed, s.mp, ?_⟩
    have hall : s.stu.queue.filter (fun r => !(decide (r.state = .queued) && w r)) = s.stu.queue := by
      refine List.filter_eq_self.2 fun r hr => ?_
      have hnone : s.stu.queue.filter (fun r => decide (r.state = .queued) && w r) = [] := by simpa using h
      simpa [imp_iff_not_or] using List.filter_eq_nil_iff.1 hnone r hr
    rw [hall]
  · exact ⟨_, _, rfl⟩

/-- What an abort gives back (R153). -/
theorem State.giveBack_eq (s : State) (r : Run) (c : RunCause) : ∃ k a, s.giveBack r c = { s with
    stu.kept := k, work.alloc := a
    sha := if r.entry.kind = .linkPattern ∧ ¬ (c = .revoked ∨ r.state = .draining) then
      { s.sha with tReq := 0, grant := none } else s.sha } := by
  have hrelease (t : State) : ∃ a, t.testRelease = { t with
      work.alloc := a, sha := { t.sha with tReq := 0, grant := none } } := by
    unfold State.testRelease State.wantAlloc
    split
    · exact ⟨_, rfl⟩
    · exact ⟨_, rfl⟩
    · exact ⟨_, rfl⟩
  have htail (hk : r.entry.kind = .linkPattern) (k : List SvcMsg) : ∃ k' a,
      (if (decide (c = .revoked) || decide (r.state = .draining)) = true then ({ s with stu.kept := k } : State)
        else State.testRelease { s with stu.kept := k }) = { s with
      stu.kept := k', work.alloc := a
      sha := if r.entry.kind = .linkPattern ∧ ¬ (c = .revoked ∨ r.state = .draining) then
        { s.sha with tReq := 0, grant := none } else s.sha } := by
    by_cases hd : c = .revoked ∨ r.state = .draining
    · rw [if_pos (by simpa using hd), if_neg (fun h => h.2 hd)]
      exact ⟨k, s.work.alloc, rfl⟩
    · rw [if_neg (by simpa using hd), if_pos ⟨hk, hd⟩]
      obtain ⟨a, ha⟩ := hrelease { s with stu.kept := k }
      exact ⟨k, a, ha⟩
  unfold State.giveBack
  by_cases hk : r.entry.kind = .linkPattern
  · rw [if_pos hk]
    by_cases hs : r.state = .starting
    · simp only [if_pos hs]
      exact htail hk _
    · simp only [if_neg hs]
      exact htail hk s.stu.kept
  · rw [if_neg hk, if_neg (fun h => hk h.1)]
    exact ⟨s.stu.kept, s.work.alloc, rfl⟩

theorem State.giveBack_queue (s : State) (r : Run) (c : RunCause) : (s.giveBack r c).stu.queue = s.stu.queue := by
  obtain ⟨k, a, h⟩ := State.giveBack_eq s r c
  rw [h]

end Sys2Proof.Machine
end

section
/-! PROOFS. The edits that the work at the end of an event is made of (log 5), so that what every edit leaves alone is left
alone by the end of an event. -/

namespace Sys2Proof.Machine

/-! ### The edits -/

/-- The rows that the end of an event may raise: LINK_LOSS, PROVE_FAIL, REF_LOSS, TEST_FAIL and HOLDOVER_LIMIT. -/
def raisedRow (r : Nat) : Prop := r = 1 ∨ r = 2 ∨ r = 7 ∨ r = 8 ∨ (9 ≤ r ∧ r < 13)

/-- What the end of an event may make of the Self-Test Unit. -/
structure Stu.Works (u v : Stu) : Prop where
  plan : v.plan = u.plan
  empty : u.queue = [] → v.queue = [] ∧ v.log = u.log
  chk : v.chk = u.chk ∨ v.chk = u.chk.idle
  runId : v.runId = u.runId
  stale : v.stale = u.stale
  due : v.due = u.due

theorem Stu.Works.refl (u : Stu) : u.Works u := ⟨rfl, fun h => ⟨h, rfl⟩, .inl rfl, rfl, rfl, rfl⟩

/-- What the work at the end of an event comes from: a run that may begin or end, and the three actions of responses. -/
inductive Cause where
  | run | bar | reseek | halt

/-- The cause that an action of a response stands for. -/
def Action.cause : Action → Cause
  | .bar _ => .bar
  | .reseek => .reseek
  | .halt => .halt

/-- Causes that may move the phase. -/
def moves (C : Cause → Prop) : Prop := C .run ∨ C .reseek ∨ C .halt

/-- The rows that it may clear: those that it may raise but for LINK_LOSS, and PROFILE_FLOOR where the framer restarts. -/
def clearedRow (C : Cause → Prop) (r : Nat) : Prop :=
  r = 2 ∨ (r = 3 ∧ C .reseek) ∨ r = 7 ∨ r = 8 ∨ (9 ≤ r ∧ r < 13)

/-- What a move may make of the record of the site's phase. -/
structure Spc.Moves (x y : Spc) : Prop where
  phase : y.phase = x.phase ∨ y.phase ≠ .load
  record : y.record = x.record
  window : y.winSlots = x.winSlots ∧ y.winSum = x.winSum ∧ y.led = x.led ∨ y.winSlots = 0 ∧ y.winSum = 0 ∧ y.led = false

/-- One edit of the work at the end of an event, by one of the causes `C`. -/
inductive State.Edit (C : Cause → Prop) : State → State → Prop
  | port (s : State) (m : Mp) : Edit C s { s with mp := m }
  | work (s : State) (w : Work) (h : ∀ a ∈ w.acts, a ∈ s.work.acts) : Edit C s { s with work := w }
  | raise (s : State) (hC : moves C) {r : Nat} (h : raisedRow r) (d : Nat) : Edit C s (s.raiseNow r d)
  | clear (s : State) (hC : moves C) {r : Nat} (h : clearedRow C r) : Edit C s (s.clear r)
  | bar (s : State) (hC : C .bar) (i : Fin 4) (c : TenantCause) : Edit C s (s.bar i c)
  | hold (s : State) (hC : moves C) (c : TenantCause) (i : Fin 4) : Edit C s (s.hold c i)
  | tryActive (s : State) (hC : moves C) (c : TenantCause) (i : Fin 4) : Edit C s (s.tryActive c i)
  | dropPeer (s : State) (hC : C .reseek) (h : s.lfr.rx.framer ≠ .hunt) : Edit C s s.dropPeer
  | adaptDown (s : State) (hC : C .reseek) (h : s.lfr.rx.framer ≠ .hunt) : Edit C s s.adaptDown
  | refDown (s : State) (hC : C .reseek) : Edit C s ({ s with rfm.sec.framerOk := false }.refDown .l)
  | hunt (s : State) (hC : C .reseek) (h : s.lfr.rx.framer ≠ .hunt) : Edit C s { s with lfr.rx.framer := .hunt }
  | unconfirm (s : State) (hC : C .reseek) (h : s.lfr.rx.framer ≠ .hunt) :
    Edit C s { s with lfr.rx.framer := .hunt, lfr.rx.run := 0, lfr.rx.peer := none }
  | site (s : State) (hC : moves C) (c : Spc) (h : s.spc.Moves c) : Edit C s { s with spc := c }
  | halted (s : State) (hC : C .halt) : Edit C s { s with lfr.tx.framer := .halted, lfr.tx.haltDue := true }
  | stopRead (s : State) (hC : C .halt) (h : s.il.state = .reading) : Edit C s { s with il.state := .empty }
  | alloc (s : State) (a : Allocated)
    (h : s.stu.queue = [] → s.sha.tReq = 0 → s.sha.grant = none → a.sha.tReq = 0 ∧ a.sha.grant = none) :
    Edit C s (s.withAlloc a)
  | runs (s : State) (u : Stu) (h : s.stu.Works u) : Edit C s { s with stu := u }
  | offer (s : State) (hC : C .run) (m : SvcMsg) : Edit C s (s.offer m)

/-- `t` comes from `s` by such edits. -/
def State.Worked (C : Cause → Prop) (s t : State) : Prop := Relation.ReflTransGen (State.Edit C) s t

/-- What every edit keeps, all of them keep. -/
theorem State.Worked.keeps {C : Cause → Prop} {P : State → Prop} {s t : State} (h : s.Worked C t)
    (hP : ∀ a b, State.Edit C a b → P a → P b) (hs : P s) : P t := by
  induction h with
  | refl => exact hs
  | tail _ he ih => exact hP _ _ he ih

/-- The work left in a state comes from these causes. -/
def State.within (s : State) (C : Cause → Prop) : Prop :=
  (∀ a ∈ s.work.acts, C a.cause) ∧ (C .run ∨ s.stu.queue = [])

/-- A computation with no request and no grant gives none. -/
theorem State.computeShare_none {s : State} (htReq : s.sha.tReq = 0) (hgrant : s.sha.grant = none) (t : Trigger) :
    (s.computeShare t (share s.shareIn)).sha.tReq = 0 ∧ (s.computeShare t (share s.shareIn)).sha.grant = none := by
  have hrevoked : (share s.shareIn).revoked = false := share_not_revoked hgrant
  have hgave : (share s.shareIn).gave = false := by
    rw [share_gave]
    have hreq : s.shareIn.tReq = 0 := htReq
    simp [hreq]
  rw [State.computeShare_sha]
  refine ⟨?_, ?_⟩
  · show (share s.shareIn).tReq = 0
    rw [share_tReq, hrevoked]
    exact htReq
  · show (share s.shareIn).grant = none
    rw [share_grant, hrevoked, hgave]
    exact hgrant

namespace State.Worked

variable {C : Cause → Prop} {s t u : State}

theorem refl (s : State) : Worked C s s := Relation.ReflTransGen.refl

theorem then_ (h : Worked C s t) (e : Edit C t u) : Worked C s u := Relation.ReflTransGen.tail h e

theorem trans (h : Worked C s t) (g : Worked C t u) : Worked C s u := Relation.ReflTransGen.trans h g

theorem ite {c : Prop} [Decidable c] (ht : c → Worked C s t) (hu : ¬ c → Worked C s u) : Worked C s (if c then t else u) := by
  split
  · next h => exact ht h
  · next h => exact hu h

theorem forTenants {f : State → Fin 4 → State} (hf : ∀ t i, Worked C s t → Worked C s (f t i)) (h : Worked C s t) :
    Worked C s (t.forTenants f) := by
  unfold State.forTenants
  generalize tenants = l
  induction l generalizing t with
  | nil => exact h
  | cons x xs ih => exact ih (hf t x h)

/-! ### Each operation by its edits -/

theorem port (h : Worked C s t) (m : Mp) : Worked C s { t with mp := m } := h.then_ (.port t m)

theorem noteLink (h : Worked C s t) : Worked C s t.noteLink := h.port _
theorem noteProfile (h : Worked C s t) : Worked C s t.noteProfile := h.port _
theorem noteTest (h : Worked C s t) : Worked C s t.noteTest := h.port _
theorem noteImage (h : Worked C s t) : Worked C s t.noteImage := h.port _
theorem noteAlign (h : Worked C s t) : Worked C s t.noteAlign := h.port _
theorem notify (h : Worked C s t) (k : NoticeKind) (n : Nat) (c : Bytes) : Worked C s (t.notify k n c) := h.port _

theorem work (h : Worked C s t) (w : Work) (hw : ∀ a ∈ w.acts, a ∈ t.work.acts) : Worked C s { t with work := w } :=
  h.then_ (.work t w hw)

theorem wantAlloc (h : Worked C s t) (a : Trigger) : Worked C s (t.wantAlloc a) := by
  unfold State.wantAlloc
  split
  · exact h.work _ fun _ => id
  · exact h.work _ fun _ => id
  · exact h

theorem runs (h : Worked C s t) (v : Stu) (hv : t.stu.Works v) : Worked C s { t with stu := v } := h.then_ (.runs t v hv)

/-- The Self-Test Unit changed where a run is there. -/
theorem testRequest (h : Worked C s t) (hq : t.stu.queue ≠ []) (n : Nat) : Worked C s (t.testRequest n) :=
  (h.then_ (.alloc t { t.unallocated with sha := _ } fun he => absurd he hq)).wantAlloc _

theorem testRelease (h : Worked C s t) : Worked C s t.testRelease :=
  (h.then_ (.alloc t { t.unallocated with sha := { t.sha with tReq := 0, grant := none } }
    fun _ _ _ => ⟨rfl, rfl⟩)).wantAlloc _

theorem settleRelease (h : Worked C s t) : Worked C s t.settleRelease :=
  ite (fun _ => (h.runs { t.stu with lateRelease := false } ⟨rfl, fun he => ⟨he, rfl⟩, .inl rfl, rfl, rfl, rfl⟩).wantAlloc _)
    (fun _ => h)

theorem raiseNow (h : Worked C s t) (hC : moves C) {r : Nat} (hr : raisedRow r) (d : Nat) : Worked C s (t.raiseNow r d) :=
  h.then_ (.raise t hC hr d)

theorem clear (h : Worked C s t) (hC : moves C) {r : Nat} (hr : clearedRow C r) : Worked C s (t.clear r) :=
  h.then_ (.clear t hC hr)

theorem removeRuns (h : Worked C s t) (w : Run → Bool) : Worked C s (t.removeRuns w) := by
  unfold State.removeRuns
  dsimp only
  refine ite (fun _ => h) (fun _ => noteTest (h.runs _ ⟨rfl, fun he => ⟨?_, rfl⟩, .inl rfl, rfl, rfl, rfl⟩))
  simp [he]

/-- The head of the queue changed, where there is one. -/
theorem setActive (h : Worked C s t) (hq : t.stu.queue ≠ []) (r : Run) : Worked C s (t.setActive r) :=
  h.runs _ ⟨rfl, fun he => absurd he hq, .inl rfl, rfl, rfl, rfl⟩

theorem settleOutcome (h : Worked C s t) (hC : moves C) (r : Run) (o : RunOutcome) : Worked C s (t.settleOutcome r o) := by
  have hdec (d : List Decisive) : Worked C s { t with stu.decisive := d } :=
    h.runs _ ⟨rfl, fun he => ⟨he, rfl⟩, .inl rfl, rfl, rfl, rfl⟩
  cases o with
  | aborted => exact h
  | fail => exact ite (fun _ => (hdec _).raiseNow hC (by simp [raisedRow, rowTestFail]) _) (fun _ => hdec _)
  | pass => exact ite (fun _ => (hdec _).clear hC (by simp [clearedRow, rowTestFail])) (fun _ => hdec _)

theorem finishRun (h : Worked C s t) (hC : moves C) (hq : t.stu.queue ≠ []) (r : Run) (o : RunOutcome) (c : RunCause) :
    Worked C s (t.finishRun r o c) := by
  have hlog : Worked C s (t.logRun r o c) := h.runs _ ⟨rfl, fun he => absurd he hq, .inl rfl, rfl, rfl, rfl⟩
  have hout := hlog.settleOutcome hC r o
  have hqueue : ((t.logRun r o c).settleOutcome r o).stu.queue = t.stu.queue := by
    obtain ⟨d, x, heq, -⟩ := State.settleOutcome_eq (t.logRun r o c) r o
    rw [heq]
    rfl
  unfold State.finishRun
  dsimp only
  generalize (t.logRun r o c).settleOutcome r o = w at hout hqueue
  have htail : w.stu.Works { w.stu with queue := w.stu.queue.tail } :=
    ⟨rfl, fun he => absurd (hqueue ▸ he) hq, .inl rfl, rfl, rfl, rfl⟩
  exact noteTest ((hout.runs _ htail).work { w.work with runDue := !w.stu.queue.tail.isEmpty } fun _ => id)

theorem giveBack (h : Worked C s t) (r : Run) (c : RunCause) : Worked C s (t.giveBack r c) := by
  have hkept (k : List SvcMsg) : Worked C s { t with stu.kept := k } :=
    h.runs _ ⟨rfl, fun he => ⟨he, rfl⟩, .inl rfl, rfl, rfl, rfl⟩
  have hwait : Worked C s (if r.state = .starting then
        { t with stu.kept := t.stu.kept.filter (fun m => match m with
          | .testStart id _ _ => id ≠ r.id
          | _ => true) }
      else t) := ite (fun _ => hkept _) (fun _ => h)
  exact ite (fun _ => ite (fun _ => hwait) (fun _ => hwait.testRelease)) (fun _ => h)

theorem abortQuietly (h : Worked C s t) (hC : moves C) (c : PhaseCause) (w : Run → Bool) :
    Worked C s (t.abortQuietly c w) := by
  unfold State.abortQuietly
  split
  · next r hr =>
    have hq : t.stu.queue ≠ [] := fun he => by rw [Stu.active_empty he] at hr; cases hr
    exact ite (fun _ => (h.giveBack r _).finishRun hC (by rwa [State.giveBack_queue]) r _ _) (fun _ => h)
  · exact h

theorem roundOver (h : Worked C s t) (hC : moves C) (c : PhaseCause) : Worked C s (t.roundOver c) :=
  (h.abortQuietly hC c _).removeRuns _

theorem stopRuns (h : Worked C s t) (hC : moves C) (c : PhaseCause) : Worked C s (t.stopRuns c) :=
  (h.abortQuietly hC c _).removeRuns _

/-! ### Moves between phases -/

theorem hold (h : Worked C s t) (hC : moves C) (c : TenantCause) (i : Fin 4) : Worked C s (t.hold c i) :=
  h.then_ (.hold t hC c i)

theorem leaveEffects (h : Worked C s t) (hC : moves C) (old p : Phase) (c : PhaseCause) :
    Worked C s (t.leaveEffects old p c) := by
  cases old with
  | prove => exact clear (ite (fun _ => h.roundOver hC c) (fun _ => h.stopRuns hC c)) hC (by simp [clearedRow, rowProveFail])
  | service => exact (forTenants (fun _ i ht => ht.hold hC _ i) h).stopRuns hC c
  | load | align | seek | recover | halt => exact h

theorem site (h : Worked C s t) (hC : moves C) {c : Spc} (hc : t.spc.Moves c) : Worked C s { t with spc := c } :=
  h.then_ (.site t hC c hc)

theorem movePhase (h : Worked C s t) (hC : moves C) {p : Phase} (hp : p ≠ .load) (c : PhaseCause) (v : ProveState)
    (n : Nat) : Worked C s (t.movePhase p c v n) := by
  have hnote : Worked C s (if t.spc.phase = .align then t.noteAlign else t) := ite (fun _ => h.noteAlign) (fun _ => h)
  unfold State.movePhase
  dsimp only
  refine leaveEffects (notify ?_ _ _ _) hC _ _ _
  generalize (if t.spc.phase = .align then t.noteAlign else t) = w at hnote
  exact (hnote.site hC (c := { w.spc with
    phase := p, left := t.spc.phase, cause := c, prove := .idle, roundNo := 0, retry := none, recover := none
    winSlots := 0, winSum := 0, led := false }) ⟨.inr hp, rfl, .inr ⟨rfl, rfl, rfl⟩⟩).work _ fun _ => id

theorem tryActive (h : Worked C s t) (hC : moves C) (c : TenantCause) (i : Fin 4) : Worked C s (t.tryActive c i) :=
  h.then_ (.tryActive t hC c i)

theorem enterService (h : Worked C s t) (hC : moves C) (c : PhaseCause) (v : ProveState) (n : Nat) :
    Worked C s (t.enterService c v n) :=
  forTenants (fun _ i ht => ht.tryActive hC _ i) (h.movePhase hC (by decide) _ _ _)

theorem enterSeek (h : Worked C s t) (hC : moves C) (c : PhaseCause) : Worked C s (t.enterSeek c) :=
  h.movePhase hC (by decide) _ _ _

theorem enterRecover (h : Worked C s t) (hC : moves C) : Worked C s t.enterRecover := by
  have hm := h.movePhase hC (p := .recover) (by decide) .linkDown .idle 0
  exact hm.site hC ⟨.inl rfl, rfl, .inl ⟨rfl, rfl, rfl⟩⟩

theorem stopRead (h : Worked C s t) (hC : C .halt) : Worked C s t.stopRead := by
  unfold State.stopRead
  split
  · next hr => exact (h.then_ (.stopRead t hC hr)).noteImage
  · exact h

theorem enterHalt (h : Worked C s t) (hC : C .halt) (c : PhaseCause) : Worked C s (t.enterHalt c) := by
  have hm := h.movePhase (.inr (.inr hC)) (p := .halt) (by decide) c .idle 0
  exact ite (fun _ => hm.stopRead hC) (fun _ => (hm.then_ (.halted _ hC)).noteLink)

/-! ### Rounds and the ends of runs -/

theorem roundPassed (h : Worked C s t) (hC : moves C) : Worked C s t.roundPassed :=
  ite (fun _ => h.enterService hC _ _ _) (fun _ => h)

theorem roundFailed (h : Worked C s t) (hC : moves C) (i : Nat) : Worked C s (t.roundFailed i) :=
  ite (fun _ => ite (fun _ => (h.site hC (c := { t.spc with
      roundNo := t.spc.roundNo + 1, retry := some Config.retryFrames }) ⟨.inl rfl, rfl, .inl ⟨rfl, rfl, rfl⟩⟩).notify _ _ _)
    (fun _ => ((h.site hC (c := { t.spc with prove := .failed })
      ⟨.inl rfl, rfl, .inl ⟨rfl, rfl, rfl⟩⟩).notify _ _ _).raiseNow hC (by simp [raisedRow, rowProveFail]) _)) (fun _ => h)

theorem endRun (h : Worked C s t) (hC : moves C) (hq : t.stu.queue ≠ []) (r : Run) (o : RunOutcome) (c : RunCause) :
    Worked C s (t.endRun r o c) := by
  have hf := h.finishRun hC hq r o c
  exact ite (fun _ => ite (fun _ => ite (fun _ => hf) (fun _ => hf.noteTest.roundPassed hC))
    (fun _ => (hf.removeRuns _).noteTest.roundFailed hC _)) (fun _ => hf)

theorem abortRun (h : Worked C s t) (hC : moves C) (hq : t.stu.queue ≠ []) (r : Run) (c : RunCause) :
    Worked C s (t.abortRun r c) :=
  (h.giveBack r c).endRun hC (by rwa [State.giveBack_queue]) _ _ _

/-! ### The receive framer's DOWN and restart -/

theorem phaseDown (h : Worked C s t) (hC : moves C) : Worked C s t.phaseDown := by
  unfold State.phaseDown
  split
  · exact h.enterSeek hC _
  · exact h.enterRecover hC
  all_goals exact h

theorem checkerIdle (h : Worked C s t) : Worked C s { t with stu.chk := t.stu.chk.idle } :=
  h.runs _ ⟨rfl, fun he => ⟨he, rfl⟩, .inr rfl, rfl, rfl, rfl⟩

theorem testDown (h : Worked C s t) (hC : moves C) : Worked C s t.testDown := by
  have hs := h.settleRelease
  unfold State.testDown
  dsimp only
  split
  · next r hr =>
    have hq : t.settleRelease.stu.queue ≠ [] := fun he => by rw [Stu.active_empty he] at hr; cases hr
    split
    · exact (hs.abortRun hC hq r .linkDown).checkerIdle
    · exact hs.checkerIdle
  · exact hs.checkerIdle

theorem raiseLinkLoss (h : Worked C s t) (hC : moves C) : Worked C s t.raiseLinkLoss :=
  ite (fun _ => h.raiseNow hC (by simp [raisedRow, rowLinkLoss]) _) (fun _ => h)

/-- The framer's DOWN, from any state but HUNT. -/
theorem rxDown (h : Worked C s t) (hC : C .reseek) (hf : t.lfr.rx.framer ≠ .hunt) : Worked C s t.rxDown := by
  have hm : moves C := .inr (.inl hC)
  have hdrop := ((h.then_ (.dropPeer t hC hf)).noteLink).raiseLinkLoss hm
  have hframer : t.dropPeer.lfr.rx.framer = .down := rfl
  have hdown := hdrop.then_ (.adaptDown _ hC (by simp [hframer]))
  have hprof := ite (c := t.lfr.rx.prof = 0) (fun _ => hdown) (fun _ => hdown.noteProfile)
  have href := ((hprof.then_ (.refDown _ hC)).phaseDown hm).testDown hm
  refine noteLink (href.then_ (.hunt _ hC ?_))
  simp only [State.testDown_frame, State.phaseDown_frame, State.refDown_frame]
  split
  all_goals simp [hframer]

theorem restartRx (h : Worked C s t) (hC : C .reseek) : Worked C s t.restartRx := by
  unfold State.restartRx
  split
  case h_1 hr | h_2 hr | h_3 hr => exact h.rxDown hC (by simp [hr])
  case h_4 hr => exact (h.then_ (.unconfirm t hC (by simp [hr]))).noteLink
  all_goals exact h

theorem reseek (h : Worked C s t) (hC : C .reseek) (c : PhaseCause) : Worked C s (t.reseek c) := by
  have hs := (h.enterSeek (.inr (.inl hC)) c).work { (t.enterSeek c).work with phase := none } fun _ => id
  exact (hs.restartRx hC).work _ fun _ => id

/-! ### The work left in an event -/

theorem act (h : Worked C s t) (a : Action) (ha : C a.cause) : Worked C s (t.act a) := by
  cases a with
  | bar i => exact h.then_ (.bar t ha i _)
  | reseek => exact ite (fun _ => h.reseek ha _) (fun _ => h)
  | halt => exact ite (fun _ => h) (fun _ => h.enterHalt ha _)

theorem startRun (h : Worked C s t) (hC : C .run ∨ t.stu.queue = []) : Worked C s t.startRun := by
  unfold State.startRun
  split
  · exact h
  · next r rs hq =>
    have hne : t.stu.queue ≠ [] := by simp [hq]
    have hrun : C .run := hC.resolve_right hne
    refine ite (fun _ => ?_) (fun _ => h)
    split
    · exact ((h.setActive hne _).testRequest (by simp [State.setActive]) _).noteTest
    · exact (h.setActive hne _).noteTest
    · exact (h.setActive hne _).noteTest.endRun (.inl hrun) (by simp [State.setActive]) _ _ _

theorem computeShare (h : Worked C s t) (a : Trigger) : Worked C s (t.computeShare a (share t.shareIn)) := by
  obtain ⟨x, hx⟩ := State.computeShare_eq t a (share t.shareIn)
  have hnone := fun htReq hgrant => State.computeShare_none (s := t) htReq hgrant a
  rw [hx] at hnone ⊢
  exact h.then_ (.alloc t x fun _ => hnone)

theorem grantGiven (h : Worked C s t) (hC : C .run ∨ t.stu.queue = []) : Worked C s t.grantGiven := by
  unfold State.grantGiven
  split
  · next r hr =>
    have hne : t.stu.queue ≠ [] := fun he => by rw [Stu.active_empty he] at hr; cases hr
    exact ite (fun _ => ((h.setActive hne _).then_ (.offer _ (hC.resolve_right hne) _)).noteTest) (fun _ => h)
  · exact h

theorem revokeRun (h : Worked C s t) (hC : moves C) (hq : t.stu.queue ≠ []) (r : Run) : Worked C s (t.revokeRun r) :=
  (h.runs { t.stu with lateRelease := t.stu.lateRelease || t.releaseStands }
    ⟨rfl, fun he => ⟨he, rfl⟩, .inl rfl, rfl, rfl, rfl⟩).abortRun hC hq r .revoked

theorem compute (h : Worked C s t) (hC : C .run ∨ t.stu.queue = []) (a : Trigger) : Worked C s (t.compute a) := by
  have hc := h.computeShare a
  have hqueue : (t.computeShare a (share t.shareIn)).stu.queue = t.stu.queue := by simp
  unfold State.compute
  dsimp only
  generalize t.computeShare a (share t.shareIn) = c at hc hqueue
  rw [← hqueue] at hC
  refine ite (fun _ => hc.grantGiven hC) (fun _ => ite (fun _ => ?_) (fun _ => hc))
  split
  · next r hr =>
    have hne : c.stu.queue ≠ [] := fun he => by rw [Stu.active_empty he] at hr; cases hr
    exact hc.revokeRun (.inl (hC.resolve_right hne)) hne r
  · exact hc

theorem actStep (h : Worked C s t) (ht : t.within C) : Worked C s t.actStep := by
  unfold State.actStep
  split
  · next a as ha =>
    exact act (h.work { t.work with acts := as } fun b hb => ha ▸ List.mem_cons_of_mem a hb) _
      (ht.1 a (ha ▸ List.mem_cons_self))
  · exact ite (fun _ => startRun (h.work { t.work with runDue := false } fun _ => id) ht.2) (fun _ => h)

theorem workStep (h : Worked C s t) (ht : t.within C) : Worked C s t.workStep := by
  unfold State.workStep
  refine ite (fun _ => ?_) (fun _ => h.actStep ht)
  split
  · exact compute (h.work { t.work with alloc := none } fun _ => id) ht.2 _
  · exact h

/-- The work left is done by edits, as long as what the edits keep bounds its causes. -/
theorem doWork {I : State → Prop} (hI : ∀ a b, Edit C a b → I a → I b) (hwithin : ∀ a, I a → a.within C) (n : Nat)
    (h : Worked C s t) (ht : I t) : Worked C s (State.doWork n t) := by
  induction n generalizing t with
  | zero => exact h
  | succ n ih =>
    have hstep := (refl (C := C) t).workStep (hwithin t ht)
    exact ih (h.trans hstep) (hstep.keeps hI ht)

/-- The end of an event is made of edits, as long as what they keep bounds the causes of the work left. -/
theorem finishWork {I : State → Prop} (hI : ∀ a b, Edit C a b → I a → I b) (hwithin : ∀ a, I a → a.within C)
    (hs : I s) : Worked C s s.finishWork := by
  have hw := (refl (C := C) s).doWork hI hwithin 48 hs
  rw [State.finishWork_endEvent]
  generalize State.doWork 48 s = w at hw
  exact (hw.runs { w.stu with removed := [] } ⟨rfl, fun he => ⟨he, rfl⟩, .inl rfl, rfl, rfl, rfl⟩).work
    { w.work with phase := none } fun _ => id

/-- The end of any event. -/
theorem finishWork_any (s : State) : Worked (fun _ => True) s s.finishWork :=
  finishWork (I := fun _ => True) (fun _ _ _ _ => trivial) (fun _ _ => ⟨fun _ _ => trivial, .inl trivial⟩) trivial

end State.Worked

end Sys2Proof.Machine
end

section
/-! PROOFS. What the edits of an event's end leave alone, block by block. -/

namespace Sys2Proof.Machine

/-! ### The Fault Monitor -/

/-- What neither a raise nor a clear changes of the Fault Monitor. -/
def Fmn.settings (f : Fmn) : List ResponsePair × Nat × Nat × Nat := (f.table, f.capSet, f.lastRaises, f.rows.length)

theorem Fmn.modifyRow_settings (f : Fmn) (r : Nat) (g : FaultRow → FaultRow) : (f.modifyRow r g).settings = f.settings := by
  simp [Fmn.settings, Fmn.modifyRow]

theorem Fmn.respond_settings (f : Fmn) (x : Raise) (resp : Response) (now : SiteTime) :
    (f.respond x resp now).settings = f.settings := by
  unfold Fmn.respond
  cases f.out <;> simp [Fmn.settings, Fmn.modifyRow]

theorem State.recomputeCeiling_fmn (s : State) : s.recomputeCeiling.fmn = s.fmn := by
  obtain ⟨m, h⟩ := State.recomputeCeiling_eq s
  rw [h]

theorem State.beginAction_settings (s : State) (r : Nat) (a : Response) :
    (s.beginAction r a).fmn.settings = s.fmn.settings := by
  cases a with
  | cap => exact (congrArg Fmn.settings (State.recomputeCeiling_fmn _)).trans rfl
  | bar | reseek | halt | note | none => rfl

theorem State.takeResponse_settings (s : State) (x : Raise) (resp : Response) :
    (s.takeResponse x resp).fmn.settings = s.fmn.settings := by
  unfold State.takeResponse
  rw [State.noteReplaced_fmn]
  exact (State.beginAction_settings _ _ _).trans (Fmn.respond_settings _ _ _ _)

theorem State.answerRaise_settings (s : State) (x : Raise) : (s.answerRaise x).fmn.settings = s.fmn.settings := by
  unfold State.answerRaise
  split
  · exact Fmn.modifyRow_settings _ _ _
  · exact Fmn.modifyRow_settings _ _ _
  · split
    · split
      · exact Fmn.modifyRow_settings _ _ _
      · exact State.takeResponse_settings _ _ _
    · exact State.takeResponse_settings _ _ _

theorem State.raise_settings (s : State) (x : Raise) : (s.raise x).fmn.settings = s.fmn.settings := by
  unfold State.raise
  split
  · rfl
  · exact (State.answerRaise_settings _ _).trans (Fmn.modifyRow_settings s.fmn x.row _)

theorem State.clear_settings (s : State) (r : Nat) : (s.clear r).fmn.settings = s.fmn.settings := by
  unfold State.clear
  dsimp only
  split
  · split
    · exact Fmn.modifyRow_settings _ _ _
    · exact Fmn.modifyRow_settings _ _ _
  · rfl

/-- What is seen of a row of the fault table: whether it is active, and its detail. -/
def Fmn.seen (f : Fmn) (r : Nat) : Bool × Nat := ((f.row r).active, (f.row r).detail)

theorem Fmn.row_modifyRow (f : Fmn) (r q : Nat) (g : FaultRow → FaultRow) :
    (f.modifyRow r g).row q = f.row q ∨ (f.modifyRow r g).row q = g (f.row q) := by
  by_cases h : q = r
  · subst h
    by_cases hq : q < f.rows.length
    · exact .inr (Fmn.row_modifyRow_same f q g hq)
    · left
      simp [Fmn.row, Fmn.modifyRow, hq]
  · exact .inl (Fmn.row_modifyRow_other f g h)

/-- A change of a row that is none of its activity and detail is not seen. -/
theorem Fmn.modifyRow_seen (f : Fmn) (r q : Nat) {g : FaultRow → FaultRow}
    (h : ∀ w, (g w).active = w.active ∧ (g w).detail = w.detail) : (f.modifyRow r g).seen q = f.seen q := by
  unfold Fmn.seen
  rcases Fmn.row_modifyRow f r q g with hrow | hrow
  · rw [hrow]
  · rw [hrow, (h _).1, (h _).2]

theorem Fmn.respond_seen (f : Fmn) (x : Raise) (resp : Response) (now : SiteTime) (q : Nat) :
    (f.respond x resp now).seen q = f.seen q := by
  have hdone := Fmn.modifyRow_seen f x.row q
    (g := fun w => { w with done := some (if actsAs resp x.phase = resp then .taken else .takenAsNote) })
    (fun _ => ⟨rfl, rfl⟩)
  unfold Fmn.respond
  cases f.out with
  | none => exact hdone
  | some o => exact (Fmn.modifyRow_seen _ o.row q (g := fun w => { w with latched := true }) (fun _ => ⟨rfl, rfl⟩)).trans hdone

theorem State.beginAction_seen (s : State) (r : Nat) (a : Response) (q : Nat) :
    (s.beginAction r a).fmn.seen q = s.fmn.seen q := by
  cases a with
  | cap => exact (congrArg (fun f => Fmn.seen f q) (State.recomputeCeiling_fmn _)).trans rfl
  | bar | reseek | halt | note | none => rfl

theorem State.takeResponse_seen (s : State) (x : Raise) (resp : Response) (q : Nat) :
    (s.takeResponse x resp).fmn.seen q = s.fmn.seen q := by
  unfold State.takeResponse
  rw [State.noteReplaced_fmn]
  exact (State.beginAction_seen _ _ _ _).trans (Fmn.respond_seen _ _ _ _ _)

theorem State.answerRaise_seen (s : State) (x : Raise) (q : Nat) : (s.answerRaise x).fmn.seen q = s.fmn.seen q := by
  unfold State.answerRaise
  split
  · exact Fmn.modifyRow_seen _ _ _ fun _ => ⟨rfl, rfl⟩
  · exact Fmn.modifyRow_seen _ _ _ fun _ => ⟨rfl, rfl⟩
  · split
    · split
      · exact Fmn.modifyRow_seen _ _ _ fun _ => ⟨rfl, rfl⟩
      · exact State.takeResponse_seen _ _ _ _
    · exact State.takeResponse_seen _ _ _ _

/-- A raise is seen of its own row only, and of that only where it was inactive. -/
theorem State.raise_seen (s : State) (x : Raise) {q : Nat} (h : q ≠ x.row ∨ (s.fmn.row q).active = true) :
    (s.raise x).fmn.seen q = s.fmn.seen q := by
  unfold State.raise
  split
  · rfl
  · next hact =>
    have hq : q ≠ x.row := h.elim id fun ha hq => hact (hq ▸ ha)
    refine (State.answerRaise_seen _ _ _).trans ?_
    exact congrArg (fun w : FaultRow => (w.active, w.detail)) (Fmn.row_modifyRow_other s.fmn _ hq)

theorem State.clear_seen (s : State) {r q : Nat} (h : q ≠ r) : (s.clear r).fmn.seen q = s.fmn.seen q := by
  have hother := congrArg (fun w : FaultRow => (w.active, w.detail))
    (Fmn.row_modifyRow_other s.fmn (fun w => { w with active := false }) h)
  unfold State.clear
  dsimp only
  split
  · split
    · exact hother
    · exact hother
  · rfl

theorem State.clear_cap (s : State) (r : Nat) : (s.clear r).fmn.cap = s.fmn.cap := by
  unfold State.clear
  dsimp only
  split
  · split <;> rfl
  · rfl

theorem State.clear_ceiling {s : State} (r : Nat) (h : s.lau.ceiling = s.ceilingNow) :
    (s.clear r).lau.ceiling = (s.clear r).ceilingNow := by
  obtain ⟨f, m, heq⟩ := State.clear_eq s r
  have hset := State.clear_cap s r
  rw [heq] at hset ⊢
  exact h.trans (congrArg (fun c => min s.lau.hostCap (min s.tlm.cap c)) hset.symm)

theorem State.beginAction_ceiling {s : State} (r : Nat) (a : Response) (h : s.lau.ceiling = s.ceilingNow) :
    (s.beginAction r a).lau.ceiling = (s.beginAction r a).ceilingNow := by
  cases a with
  | cap =>
    obtain ⟨m, heq⟩ := State.recomputeCeiling_eq { s with fmn.capOn := true }
    exact (congrArg (fun t : State => t.lau.ceiling) heq).trans
      (congrArg (fun t : State => t.ceilingNow) heq).symm
  | bar | reseek | halt | note | none => exact h

theorem State.takeResponse_ceiling {s : State} (x : Raise) (resp : Response) (h : s.lau.ceiling = s.ceilingNow) :
    (s.takeResponse x resp).lau.ceiling = (s.takeResponse x resp).ceilingNow := by
  have hresp : (s.fmn.respond x resp s.dsu.time).cap = s.fmn.cap := by
    unfold Fmn.respond
    cases s.fmn.out <;> rfl
  have hbegun := State.beginAction_ceiling (s := { s with fmn := s.fmn.respond x resp s.dsu.time }) x.row
    (actsAs resp x.phase) (h.trans (congrArg (fun c => min s.lau.hostCap (min s.tlm.cap c)) hresp.symm))
  unfold State.takeResponse State.noteReplaced
  dsimp only
  split
  · split
    · exact hbegun
    · exact hbegun
  · exact hbegun

theorem State.raise_ceiling {s : State} (x : Raise) (h : s.lau.ceiling = s.ceilingNow) :
    (s.raise x).lau.ceiling = (s.raise x).ceilingNow := by
  have hrec : (s.recordRaise x).lau.ceiling = (s.recordRaise x).ceilingNow := h
  unfold State.raise
  split
  · exact h
  · generalize s.recordRaise x = t at hrec
    unfold State.answerRaise
    split
    · exact hrec
    · exact hrec
    · split
      · split
        · exact hrec
        · exact State.takeResponse_ceiling x _ hrec
      · exact State.takeResponse_ceiling x _ hrec

/-- A row raised is active (R164). -/
theorem State.raiseNow_active {s : State} (hrows : s.fmn.rows.length = 21) {r : Nat} (hr : r < 21) (d : Nat) :
    ((s.raiseNow r d).fmn.row r).active = true := by
  have hactive := State.raise_active s ⟨r, d, s.raisePhase⟩ (hrows ▸ hr) r
  exact hactive.trans (if_pos rfl)

/-- What is seen of a row raised from inactive (R164). -/
theorem State.raiseNow_seen {s : State} (hrows : s.fmn.rows.length = 21) {r : Nat} (hr : r < 21)
    (hrow : (s.fmn.row r).active = false) (d : Nat) : (s.raiseNow r d).fmn.seen r = (true, d) := by
  have hraise : s.raiseNow r d = (s.recordRaise ⟨r, d, s.raisePhase⟩).answerRaise ⟨r, d, s.raisePhase⟩ :=
    if_neg (by simp [hrow])
  rw [hraise, State.answerRaise_seen, Fmn.seen, State.recordRaise_row s ⟨r, d, s.raisePhase⟩ (hrows ▸ hr)]

/-- A row cleared is inactive (R164). -/
theorem State.clear_inactive (s : State) (r : Nat) : ((s.clear r).fmn.row r).active = false :=
  (State.clear_active s r r).trans (if_pos rfl)

theorem State.wantAlloc_acts (s : State) (t : Trigger) : (s.wantAlloc t).work.acts = s.work.acts := by
  unfold State.wantAlloc
  split <;> rfl

theorem State.moveTenant_acts (s : State) (i : Fin 4) (st : TenantState) (c : TenantCause) :
    (s.moveTenant i st c).work.acts = s.work.acts := State.wantAlloc_acts _ _

/-- The response that a cause is the action of; a run's is none. -/
def Cause.response : Cause → Response
  | .run => .none
  | .bar => .bar
  | .reseek => .reseek
  | .halt => .halt

theorem Response.action_cause {resp : Response} {p : Phase} {r : Nat} {x : Action} (h : x ∈ (actsAs resp p).action r) :
    x.cause.response = resp := by
  unfold actsAs at h
  split at h
  · simp [Response.action] at h
  · cases resp <;> simp only [Response.action, List.mem_singleton, List.not_mem_nil] at h <;> rw [h] <;> rfl

/-- A raise brings no action that answers no row. -/
theorem State.raise_never {s : State} {k : Cause} (x : Raise)
    (h : s.fmn.answersNever k.response ∧ ∀ a ∈ s.work.acts, a.cause ≠ k) :
    (s.raise x).fmn.answersNever k.response ∧ ∀ a ∈ (s.raise x).work.acts, a.cause ≠ k := by
  refine ⟨fun p hp => h.1 p ?_, ?_⟩
  · rwa [show (s.raise x).fmn.table = s.fmn.table from congrArg Prod.fst (State.raise_settings s _)] at hp
  · obtain ⟨f, c, m, as, heq, has⟩ := State.raise_eq s x
    rw [heq]
    intro a ha
    rcases List.mem_append.1 ha with ha | ha
    · exact h.2 a ha
    · rcases has with has | ⟨-, x, hresp, has⟩
      · rw [has] at ha
        cases ha
      · obtain ⟨pair, hpair, hmem⟩ := Fmn.response_mem hresp
        have hnever := h.1 pair (List.mem_of_getElem? hpair)
        rw [has] at ha
        have hx := Response.action_cause ha
        intro hk
        rw [hk] at hx
        rcases List.mem_cons.1 hmem with hm | hm
        · exact hnever.1 (hm ▸ hx.symm)
        · exact hnever.2 (List.mem_singleton.1 hm ▸ hx.symm)

/-- A property of the fault table, the ceiling and the actions due, kept by the raises and the clears of an event's end. -/
structure FaultsOnly (C : Cause → Prop) (P : State → Prop) : Prop where
  congr : ∀ s t : State, t.fmn = s.fmn → t.lau.ceiling = s.lau.ceiling → t.lau.hostCap = s.lau.hostCap → t.tlm = s.tlm →
    (∀ a ∈ t.work.acts, a ∈ s.work.acts) → P s → P t
  raise : ∀ (s : State) {r : Nat}, raisedRow r → ∀ d, P s → P (s.raiseNow r d)
  clear : ∀ (s : State) {r : Nat}, clearedRow C r → P s → P (s.clear r)

namespace FaultsOnly

variable {C : Cause → Prop} {P : State → Prop}

theorem port (hP : FaultsOnly C P) {s : State} (h : P s) (m : Mp) : P { s with mp := m } := hP.congr s _ rfl rfl rfl rfl (fun _ => id) h

theorem noteRef (hP : FaultsOnly C P) {s : State} (h : P s) (r : Ref) : P (s.noteRef r) := hP.port h _

theorem noteTime (hP : FaultsOnly C P) {s : State} (h : P s) : P s.noteTime := hP.port h _

theorem forTenants (f : State → Fin 4 → State) (hf : ∀ s i, P s → P (f s i)) {s : State} (h : P s) :
    P (s.forTenants f) := by
  unfold State.forTenants
  generalize tenants = l
  induction l generalizing s with
  | nil => exact h
  | cons x xs ih => exact ih (hf s x h)

theorem moveTenant (hP : FaultsOnly C P) {s : State} (h : P s) (i : Fin 4) (st : TenantState) (c : TenantCause) :
    P (s.moveTenant i st c) :=
  hP.congr s _ (by simp) (by simp) (by simp) (by simp) (fun a ha => by rwa [State.moveTenant_acts] at ha) h

theorem activate (hP : FaultsOnly C P) {s : State} (h : P s) (i : Fin 4) (c : TenantCause) : P (s.activate i c) :=
  hP.clear _ (.inr (.inr (.inr (.inr (by simp only [rowHoldover]; omega))))) (hP.moveTenant h i _ c)

theorem tryActive (hP : FaultsOnly C P) {s : State} (h : P s) (c : TenantCause) (i : Fin 4) : P (s.tryActive c i) := by
  unfold State.tryActive
  split
  · exact hP.activate h i c
  · exact h

theorem judgeFitness (hP : FaultsOnly C P) {s : State} (h : P s) (c : TenantCause) (i : Fin 4) :
    P (s.judgeFitness c i) := by
  have htold (f : Tenant → Tenant) : P ((s.modTenant i f).tellTenant i c) :=
    hP.congr s _ (by simp) (by simp) (by simp) (by simp) (by simp) h
  unfold State.judgeFitness
  dsimp only
  split
  · exact h
  · split
    · split
      · exact htold _
      · exact h
    · split
      · exact h
      · split
        · split
          · exact hP.raise _ (.inr (.inr (.inr (.inr (by simp only [rowHoldover]; omega))))) _
              (hP.moveTenant (htold _) i _ c)
          · exact hP.moveTenant (htold _) i _ c
        · exact htold _

theorem handQuality (hP : FaultsOnly C P) {s : State} (h : P s) : P s.handQuality :=
  forTenants (P := P) (fun s i => s.judgeFitness .fitness i) (fun _ i ht => hP.judgeFitness ht .fitness i) h

theorem moveLoop (hP : FaultsOnly C P) {s : State} (h : P s) (st : LoopState) (c : TimeCause) : P (s.moveLoop st c) := by
  have hdsu (d : Dsu) : P { s with dsu := d } := hP.congr s _ rfl rfl rfl rfl (fun _ => id) h
  exact hP.noteTime (hP.handQuality (hdsu _))

theorem loopOnSelection (hP : FaultsOnly C P) {s : State} (h : P s) (a b : Option Ref) : P (s.loopOnSelection a b) := by
  unfold State.loopOnSelection
  split
  · split
    · exact hP.moveLoop h _ _
    · exact h
  · split
    · exact hP.moveLoop h _ _
    · exact h
  · exact h

theorem select (hP : FaultsOnly C P) {s : State} (h : P s) (n : Option Ref) : P (s.select n) := by
  have hrefs (m : Rfm) : P { s with rfm := m } := hP.congr s _ rfl rfl rfl rfl (fun _ => id) h
  unfold State.select
  dsimp only
  split
  · exact h
  · refine hP.loopOnSelection (hP.noteRef (hP.noteRef ?_ .g) .l) _ _
    split
    · exact hP.raise _ (.inr (.inr (.inl rfl))) _ (hrefs _)
    · exact hP.clear _ (.inr (.inr (.inl rfl))) (hrefs _)
    · exact hrefs _

theorem updateSelection (hP : FaultsOnly C P) {s : State} (h : P s) : P s.updateSelection := by
  unfold State.updateSelection
  split
  · split
    · exact h
    · exact hP.select h _
  · exact hP.select h _

theorem setRef (hP : FaultsOnly C P) {s : State} (h : P s) (r : Ref) (x : RefState) : P (s.setRef r x) :=
  hP.congr s _ (by simp) (by simp) (by simp) (by simp) (by simp) h

theorem refDown (hP : FaultsOnly C P) {s : State} (h : P s) (r : Ref) : P (s.refDown r) := by
  unfold State.refDown
  split
  · exact hP.updateSelection (hP.setRef h _ _)
  · exact hP.updateSelection (hP.setRef h _ _)
  all_goals exact h

theorem setWish (hP : FaultsOnly C P) {s : State} (h : P s) (w : Nat) : P (s.setWish w) :=
  hP.congr s _ (by simp) (by simp [State.setWish]; split <;> rfl) (by simp [State.setWish]; split <;> rfl) (by simp) (by simp) h

theorem adaptDown (hP : FaultsOnly C P) (hC : C .reseek) {s : State} (h : P s) : P s.adaptDown := by
  have hlau : P { s with lau := { s.lau with
      winOn := false, winSlots := 0, winSum := 0, upStreak := 0, floorStreak := 0 } } := hP.congr s _ rfl rfl rfl rfl (fun _ => id) h
  exact hP.setWish (hP.clear _ (.inr (.inl ⟨rfl, hC⟩)) hlau) 0

theorem edit (hP : FaultsOnly C P) {s t : State} (e : State.Edit C s t) (h : P s) : P t := by
  cases e with
  | raise hC hr d => exact hP.raise _ hr d h
  | clear hC hr => exact hP.clear _ hr h
  | tryActive hC c i => exact hP.tryActive h c i
  | refDown hC =>
    have hsec : P { s with rfm.sec.framerOk := false } := hP.congr s _ rfl rfl rfl rfl (fun _ => id) h
    exact hP.refDown hsec .l
  | adaptDown hC hf => exact hP.adaptDown hC h
  | work w hw => exact hP.congr s _ rfl rfl rfl rfl hw h
  | port | dropPeer | hunt | unconfirm | site | halted | stopRead | alloc | runs =>
    exact hP.congr s _ rfl rfl rfl rfl (fun _ => id) h
  | bar hC i c =>
    have hbar : (s.bar i c).work.acts = s.work.acts := by
      unfold State.bar
      split <;> simp [State.moveTenant_acts]
    exact hP.congr s _ (by simp) (by simp) (by simp) (by simp) (fun a ha => hbar ▸ ha) h
  | hold hC c i =>
    have hhold : (s.hold c i).work.acts = s.work.acts := by
      unfold State.hold
      split <;> simp [State.moveTenant_acts]
    exact hP.congr s _ (by simp) (by simp) (by simp) (by simp) (fun a ha => hhold ▸ ha) h
  | offer => exact hP.congr s _ (by simp) (by simp) (by simp) (by simp) (by simp) h

/-- The end of an event keeps what raises and clears keep. -/
theorem finishWork (hP : FaultsOnly (fun _ => True) P) {s : State} (h : P s) : P s.finishWork :=
  (State.Worked.finishWork_any s).keeps (fun _ _ e => hP.edit e) h

/-- The end of an event changes no response, no cap setting, and not the raises of the last second. -/
theorem settings (v : List ResponsePair × Nat × Nat × Nat) : FaultsOnly C (fun s => s.fmn.settings = v) where
  congr _ _ hf _ _ _ _ h := (congrArg Fmn.settings hf).trans h
  raise s _ _ _ h := (State.raise_settings s _).trans h
  clear s _ _ h := (State.clear_settings s _).trans h

/-- A row that it neither raises nor clears stays as it is. -/
theorem seen {q : Nat} (hr : ¬ raisedRow q) (hc : ¬ clearedRow C q) (v : Bool × Nat) :
    FaultsOnly C (fun s => s.fmn.seen q = v) where
  congr _ _ hf _ _ _ _ h := (congrArg (fun f => Fmn.seen f q) hf).trans h
  raise s r hrow _ h := (State.raise_seen s _ (.inl fun hq : q = r => hr (hq.symm ▸ hrow))).trans h
  clear s r hrow h := (State.clear_seen s fun hq : q = r => hc (hq.symm ▸ hrow)).trans h

/-- A row that is active and that it does not clear stays active, with its detail. -/
theorem active {q : Nat} (hc : ¬ clearedRow C q) (d : Nat) : FaultsOnly C (fun s => s.fmn.seen q = (true, d)) where
  congr _ _ hf _ _ _ _ h := (congrArg (fun f => Fmn.seen f q) hf).trans h
  raise s _ _ _ h := (State.raise_seen s _ (.inr (congrArg Prod.fst h))).trans h
  clear s r hrow h := (State.clear_seen s fun hq : q = r => hc (hq.symm ▸ hrow)).trans h

/-- The ceiling is the least of its three terms, whatever is raised (R49). -/
theorem ceiling : FaultsOnly C (fun s => s.lau.ceiling = s.ceilingNow) where
  congr s t hf hc hh ht _ h := by
    unfold State.ceilingNow at h ⊢
    rw [hc, hh, ht, hf, h]
  raise _ _ _ _ h := State.raise_ceiling _ h
  clear _ _ _ h := State.clear_ceiling _ h

/-- A response that answers no row and is not due has no action by the end of the event. -/
theorem never (k : Cause) :
    FaultsOnly C (fun s => s.fmn.answersNever k.response ∧ ∀ a ∈ s.work.acts, a.cause ≠ k) where
  congr _ _ hf _ _ _ ha h := ⟨hf ▸ h.1, fun a hm => h.2 a (ha a hm)⟩
  raise _ _ _ _ h := State.raise_never _ h
  clear s r _ h := by
    refine ⟨fun p hp => h.1 p ?_, ?_⟩
    · rwa [show (s.clear r).fmn.table = s.fmn.table from congrArg Prod.fst (State.clear_settings s r)] at hp
    · simpa using h.2

/-- The host's cap is not touched by it. -/
theorem hostCap (v : Nat) : FaultsOnly C (fun s => s.lau.hostCap = v) where
  congr _ _ _ _ hh _ _ h := hh.trans h
  raise s r _ d h := by
    obtain ⟨f, c, m, as, heq, -⟩ := State.raise_eq s ⟨r, d, s.raisePhase⟩
    rw [State.raiseNow, heq]
    exact h
  clear s r _ h := by
    obtain ⟨f, m, heq⟩ := State.clear_eq s r
    rw [heq]
    exact h

end FaultsOnly

/-- An event's end without one of the actions, where no row is answered with it. -/
theorem State.Worked.finishWork_never {s : State} {k : Cause} (hk : k ≠ .run) (htable : s.fmn.answersNever k.response)
    (hacts : ∀ a ∈ s.work.acts, a.cause ≠ k) : State.Worked (· ≠ k) s s.finishWork :=
  State.Worked.finishWork (fun _ _ e => (FaultsOnly.never k).edit e) (fun _ h => ⟨h.2, .inl hk.symm⟩) ⟨htable, hacts⟩

end Sys2Proof.Machine
end

section
/-! PROOFS. What the edits of an event's end make of a tenant. -/

namespace Sys2Proof.Machine

/-- What one edit makes of a tenant. -/
inductive Tenant.Edit (C : Cause → Prop) (t : Tenant) : Tenant → Prop
  | same : Edit C t t
  | bar (hC : C .bar) (c : TenantCause) : Edit C t (t.bar c)
  | held (c : TenantCause) : Edit C t (t.held c)
  | tried (p : Phase) (c : TenantCause) : Edit C t (t.tried p c)
  | gap : Edit C t t.gap
  | judged (c : TenantCause) (l : LoopState) (u : Nat) : Edit C t (t.judged c l u)

/-- A move of the loop judges every tenant (R91). -/
theorem State.loopOnSelection_tenant (s : State) (a b : Option Ref) (i : Fin 4) :
    ((s.loopOnSelection a b).tpt.get i) = s.tpt.get i
    ∨ ∃ l u, ((s.loopOnSelection a b).tpt.get i) = (s.tpt.get i).judged .fitness l u := by
  have hmove (st : LoopState) (c : TimeCause) : ∃ l u, ((s.moveLoop st c).tpt.get i) = (s.tpt.get i).judged .fitness l u := by
    have hjudged (d : Dsu) : (({ s with dsu := d } : State).handQuality.tpt.get i) =
        (s.tpt.get i).judged .fitness d.loop d.u := by rw [State.handQuality_tpt, Four.get_of]
    exact ⟨_, _, hjudged _⟩
  unfold State.loopOnSelection
  split
  · split
    · exact .inr (hmove _ _)
    · exact .inl rfl
  · split
    · exact .inr (hmove _ _)
    · exact .inl rfl
  · exact .inl rfl

theorem State.select_tenant (s : State) (n : Option Ref) (i : Fin 4) : ((s.select n).tpt.get i) = s.tpt.get i
    ∨ ∃ l u, ((s.select n).tpt.get i) = (s.tpt.get i).judged .fitness l u := by
  unfold State.select
  dsimp only
  split
  · exact .inl rfl
  · generalize ht : State.noteRef _ .l = t
    have htpt : t.tpt = s.tpt := by
      rw [← ht]
      split <;> simp
    rw [← htpt]
    exact State.loopOnSelection_tenant t _ _ i

theorem State.refDown_tenant (s : State) (r : Ref) (i : Fin 4) : ((s.refDown r).tpt.get i) = s.tpt.get i
    ∨ ∃ l u, ((s.refDown r).tpt.get i) = (s.tpt.get i).judged .fitness l u := by
  have hupdate (t : State) (ht : t.tpt = s.tpt) : (t.updateSelection.tpt.get i) = s.tpt.get i
      ∨ ∃ l u, (t.updateSelection.tpt.get i) = (s.tpt.get i).judged .fitness l u := by
    rw [← ht]
    unfold State.updateSelection
    split
    · split
      · exact .inl rfl
      · exact State.select_tenant t _ i
    · exact State.select_tenant t _ i
  unfold State.refDown
  split
  · exact hupdate _ (by simp)
  · exact hupdate _ (by simp)
  all_goals exact .inl rfl

/-- Every edit makes of each tenant one of these. -/
theorem State.Edit.tenant {C : Cause → Prop} {s t : State} (e : State.Edit C s t) (i : Fin 4) :
    (s.tpt.get i).Edit C (t.tpt.get i) := by
  have hset {x : Tenant} (j : Fin 4) (htpt : t.tpt = s.tpt.set j x) (hx : (s.tpt.get j).Edit C x) :
      (s.tpt.get i).Edit C (t.tpt.get i) := by
    rw [htpt, Four.get_set]
    split
    · next h => exact h ▸ hx
    · exact .same
  have hsame (htpt : t.tpt = s.tpt) : (s.tpt.get i).Edit C (t.tpt.get i) := htpt ▸ .same
  cases e with
  | bar hC j c => exact hset j (State.bar_tpt s j c) (.bar hC c)
  | hold _ c j => exact hset j (State.hold_tpt s c j) (.held c)
  | tryActive _ c j => exact hset j (State.tryActive_tpt s c j) (.tried _ c)
  | dropPeer =>
    have hgap : (s.dropPeer.tpt.get i) = (s.tpt.get i).gap := Four.get_of _ i
    exact hgap ▸ .gap
  | refDown =>
    rcases State.refDown_tenant { s with rfm.sec.framerOk := false } .l i with h | ⟨l, u, h⟩
    · exact h.symm ▸ .same
    · exact h.symm ▸ .judged _ l u
  | raise | clear | adaptDown | offer => exact hsame (by simp)
  | port | work | hunt | unconfirm | site | halted | stopRead | alloc | runs => exact .same

/-- What no edit changes of a tenant; the rest is as reset leaves it. -/
def Tenant.kept (t : Tenant) : Tenant :=
  { t with
    state := .vacant, left := .vacant, fit := none, refit := none, permit := false, cause := .tenantSet
    queue := [], sendOff := 0, snapQ := 0, reasm := .waitStart, counts.flushed := 0, counts.broken := 0 }

/-- Tenants alike in that have these alike. -/
theorem Tenant.kept_fields {x y : Tenant} (h : x.kept = y.kept) : x.entry = y.entry ∧ x.link = y.link
    ∧ x.egress = y.egress ∧ x.secDrops = y.secDrops ∧ x.thr = y.thr ∧ x.counts.noRoom = y.counts.noRoom
    ∧ x.counts.accepted = y.counts.accepted ∧ x.counts.egressDown = y.counts.egressDown :=
  ⟨(congrArg Tenant.entry h :), (congrArg Tenant.link h :), (congrArg Tenant.egress h :), (congrArg Tenant.secDrops h :),
    (congrArg Tenant.thr h :), (congrArg (fun t => t.counts.noRoom) h :), (congrArg (fun t => t.counts.accepted) h :),
    (congrArg (fun t => t.counts.egressDown) h :)⟩

theorem Tenant.Edit.kept {C : Cause → Prop} {t u : Tenant} (e : t.Edit C u) : u.kept = t.kept := by
  cases e with
  | same => rfl
  | bar hC c =>
    unfold Tenant.bar
    split <;> rfl
  | held c =>
    unfold Tenant.held
    split <;> rfl
  | tried p c =>
    unfold Tenant.tried
    split <;> rfl
  | gap =>
    unfold Tenant.gap
    split <;> rfl
  | judged c l u =>
    unfold Tenant.judged
    dsimp only
    (repeat' split) <;> rfl

/-- Without BAR the ingress queue is kept too. -/
theorem Tenant.Edit.queue {C : Cause → Prop} (hC : ¬ C .bar) {t u : Tenant} (e : t.Edit C u) : u.queue = t.queue := by
  cases e with
  | same => rfl
  | bar h => exact absurd h hC
  | held c =>
    unfold Tenant.held
    split <;> rfl
  | tried p c =>
    unfold Tenant.tried
    split <;> rfl
  | gap =>
    unfold Tenant.gap
    split <;> rfl
  | judged c l u =>
    unfold Tenant.judged
    dsimp only
    (repeat' split) <;> rfl

/-- What an event's end keeps of each tenant. -/
theorem State.Worked.tenant {C : Cause → Prop} {s t : State} (h : s.Worked C t) {Q : Tenant → Prop} (i : Fin 4)
    (hQ : ∀ x y, Tenant.Edit C x y → Q x → Q y) (hs : Q (s.tpt.get i)) : Q (t.tpt.get i) :=
  h.keeps (P := fun s => Q (s.tpt.get i)) (fun _ _ e => hQ _ _ (e.tenant i)) hs

theorem State.finishWork_kept (s : State) (i : Fin 4) : (s.finishWork.tpt.get i).kept = (s.tpt.get i).kept :=
  (State.Worked.finishWork_any s).tenant (Q := fun x => x.kept = (s.tpt.get i).kept) i (fun _ _ e h => e.kept.trans h) rfl

end Sys2Proof.Machine
end

section
/-! PROOFS. The cabinet: gates, the hot hold and the thermal level (R53 to R59). -/

namespace Sys2Proof.Machine

/-! ### The gate -/

theorem Tlm.rangeGate_set (a : Tlm) (r : Nat) : ∃ l c h, a.rangeGate r = { a with sensor := l, cool := c, coolHigh := h } := by
  unfold Tlm.rangeGate
  dsimp only
  (repeat' split) <;> exact ⟨_, _, _, rfl⟩

/-- A gate whose count is valid (R53, R55, R56). -/
theorem Tlm.takeGate_valid (a : Tlm) {n : Nat} (hlo : 100 ≤ n) (hhi : n ≤ 20000) : a.takeGate n =
    { { a with gateCount := n, last3 := (true, a.last3.1, a.last3.2.1), range := some (a.set.range n) }.rangeGate
        (a.set.range n) with valid := a.valid + 1, invalid := 0 } := by
  have hmin : min 65535 n = n := by omega
  simp [Tlm.takeGate, hmin, gateValid, hlo, hhi]

/-- A gate whose count is not (R53, R56, R57). -/
theorem Tlm.takeGate_invalid (a : Tlm) {n : Nat} (h : ¬ (100 ≤ n ∧ n ≤ 20000)) : a.takeGate n =
    { a with
      gateCount := min 65535 n, last3 := (false, a.last3.1, a.last3.2.1), range := none, cool := 0, coolHigh := 0
      valid := 0, invalid := a.invalid + 1 } := by
  have hcount : gateValid (min 65535 n) = false := by
    simp only [gateValid, Bool.and_eq_false_iff, decide_eq_false_iff_not]
    omega
  simp [Tlm.takeGate, hcount]

/-- What a gate's count does not touch. -/
theorem Tlm.takeGate_kept (a : Tlm) (n : Nat) : ∃ g l r s c h i v, a.takeGate n = { a with
    gateCount := g, last3 := l, range := r, sensor := s, cool := c, coolHigh := h, invalid := i, valid := v } := by
  by_cases hn : 100 ≤ n ∧ n ≤ 20000
  · obtain ⟨l, c, k, heq⟩ := Tlm.rangeGate_set
      { a with gateCount := n, last3 := (true, a.last3.1, a.last3.2.1), range := some (a.set.range n) } (a.set.range n)
    rw [Tlm.takeGate_valid a hn.1 hn.2, heq]
    exact ⟨_, _, _, _, _, _, _, _, rfl⟩
  · rw [Tlm.takeGate_invalid a hn]
    exact ⟨_, _, _, _, _, _, _, _, rfl⟩

theorem Tlm.takeGate_set (a : Tlm) (n : Nat) : (a.takeGate n).set = a.set := by
  obtain ⟨_, _, _, _, _, _, _, _, heq⟩ := Tlm.takeGate_kept a n
  rw [heq]

/-- The fail-safe changes nothing else but the sensor level (R57). -/
theorem Tlm.failGate_eq (a : Tlm) : a.failGate = { a with
    failSafe := (a.failSafe && decide (a.valid < 3)) || (!a.failSafe && decide (3 ≤ a.invalid))
    sensor := if a.failSafe = false ∧ 3 ≤ a.invalid then 2 else a.sensor } := by
  obtain ⟨set, enabled, locked, gateCount, last3, range, sensor, cool, coolHigh, invalid, valid, failSafe⟩ := a
  cases failSafe
  · by_cases h : 3 ≤ invalid <;> simp [Tlm.failGate, h]
  · by_cases h : 3 ≤ valid <;> simp [Tlm.failGate, h, Nat.not_lt.2, Nat.not_le.1]

/-- The hot hold after a gate (R58). -/
theorem Tlm.hotGate_eq (a : Tlm) (hot : Bool) : ∃ h n, a.hotGate hot = { a with hotHold := h, hotRelease := n, gateHot := hot }
    ∧ (a.hotHold = 0 → h = 0 ∧ n = 0) ∧ (a.hotHold ≠ 0 → a.gateHot = true → h = a.hotHold ∧ n = 0)
    ∧ (a.hotHold ≠ 0 → a.gateHot = false → a.hotRelease + 1 ≠ 5 → h = a.hotHold ∧ n = a.hotRelease + 1)
    ∧ (a.hotHold ≠ 0 → a.gateHot = false → a.hotRelease + 1 = 5 → h = 0 ∧ n = 0) := by
  unfold Tlm.hotGate
  dsimp only
  split
  · next h0 => exact ⟨_, _, rfl, fun _ => ⟨h0, rfl⟩, fun h => absurd h0 h, fun h => absurd h0 h, fun h => absurd h0 h⟩
  · next h0 =>
    split
    · next hg =>
      have hng : a.gateHot ≠ false := by simp [hg]
      exact ⟨_, _, rfl, fun h => absurd h h0, fun _ _ => ⟨rfl, rfl⟩, fun _ h => absurd h hng, fun _ h => absurd h hng⟩
    · next hg =>
      split
      · next h5 => exact ⟨_, _, rfl, fun h => absurd h h0, fun _ h => absurd h hg, fun _ _ h => absurd h5 h, fun _ _ _ => ⟨rfl, rfl⟩⟩
      · next h5 => exact ⟨_, _, rfl, fun h => absurd h h0, fun _ h => absurd h hg, fun _ _ _ => ⟨rfl, rfl⟩, fun _ _ h => absurd h h5⟩

/-- The limiter after a gate, but for its level. -/
def State.gated (s : State) (n : Nat) : Tlm := (s.tlm.takeGate n).failGate.hotGate s.hot

theorem State.gate_eq (s : State) (n : Nat) : s.gate n =
    ({ { s with tlm := (s.tlm.takeGate n).failGate }.settleFailSafe s.tlm with tlm := s.gated n }).thermalSettle s.tlm := by
  have hset : (s.tlm.takeGate n).failGate.set = s.tlm.set := by
    rw [Tlm.failGate_eq]
    exact Tlm.takeGate_set _ _
  have hframe := State.settleFailSafe_frame { s with tlm := (s.tlm.takeGate n).failGate } s.tlm
  unfold State.gate
  dsimp only
  have htlm : ({ s with tlm := (s.tlm.takeGate n).failGate }.settleFailSafe s.tlm).tlm = (s.tlm.takeGate n).failGate := by
    simp
  have hhot : ({ s with tlm := (s.tlm.takeGate n).failGate }.settleFailSafe s.tlm).hot = s.hot := by
    simp [State.hot, hset]
  rw [htlm, hhot]
  rfl

/-- The limiter after a gate. -/
theorem State.gate_tlm (s : State) (n : Nat) : (s.gate n).tlm = { s.gated n with level := (s.gated n).levelNow } := by
  rw [State.gate_eq, State.thermalSettle_tlm]

/-- A gate's end, its event's work done. -/
theorem exec_gateEnd {s : State} (hs : s.calm) (n : Nat) : ∃ w m, exec (.gateEnd n) s = .next { w with mp := m }
    ∧ (s.gate n).finishWork = w ∧ w.tlm = { s.gated n with level := (s.gated n).levelNow } := by
  have hinner := (State.InnerOf.refl (Q := View.consistent) s).gate n
  obtain ⟨m, hex⟩ := exec_ends (c := .gateEnd n) hs rfl hinner rfl
  exact ⟨_, m, hex, rfl, (State.finishWork_frame _).2.2.trans (State.gate_tlm s n)⟩

/-- THERMAL_GET gives the range at its bytes 11 and 12. -/
theorem State.thermalBody_range (t : State) : slice t.thermalBody 11 2 = eOpt 1 (t.tlm.range.map e1) := by
  have hopt : (eOpt 1 (t.tlm.range.map e1)).length = 2 := by cases t.tlm.range <;> simp [eOpt]
  have hhead : t.thermalBody = (e1 t.tlm.level ++ e1 t.tlm.cap ++ e1 t.tlm.sensor ++ e1 t.tlm.hotHold ++ eFlag t.hot
      ++ eFlag t.tlm.failSafe ++ e4 t.tlm.gateCount ++ eFlag t.tlm.last3.1) ++ (eOpt 1 (t.tlm.range.map e1)
      ++ (eFlag t.tlm.enabled ++ eFlag t.tlm.locked ++ e4 t.tlm.cool ++ e1 t.tlm.coolHigh ++ e4 t.tlm.invalid
      ++ e4 t.tlm.valid ++ e4 t.tlm.hotRelease ++ eFlag t.tlm.last3.1 ++ eFlag t.tlm.last3.2.1 ++ eFlag t.tlm.last3.2.2
      ++ t.tlm.bytes)) := by
    simp only [State.thermalBody, State.thermalContent, List.append_assoc]
  have hlen : (e1 t.tlm.level ++ e1 t.tlm.cap ++ e1 t.tlm.sensor ++ e1 t.tlm.hotHold ++ eFlag t.hot
      ++ eFlag t.tlm.failSafe ++ e4 t.tlm.gateCount ++ eFlag t.tlm.last3.1).length = 11 := by
    simp [eFlag]
  have hslice := slice_append_right (e1 t.tlm.level ++ e1 t.tlm.cap ++ e1 t.tlm.sensor ++ e1 t.tlm.hotHold ++ eFlag t.hot
      ++ eFlag t.tlm.failSafe ++ e4 t.tlm.gateCount ++ eFlag t.tlm.last3.1) (eOpt 1 (t.tlm.range.map e1)
      ++ (eFlag t.tlm.enabled ++ eFlag t.tlm.locked ++ e4 t.tlm.cool ++ e1 t.tlm.coolHigh ++ e4 t.tlm.invalid
      ++ e4 t.tlm.valid ++ e4 t.tlm.hotRelease ++ eFlag t.tlm.last3.1 ++ eFlag t.tlm.last3.2.1 ++ eFlag t.tlm.last3.2.2
      ++ t.tlm.bytes)) 2
  rw [hlen] at hslice
  rw [hhead, hslice, ← hopt, List.take_left]

/-- The range of a valid count, where LOW is below HIGH (R55). -/
theorem State.gated_range (s : State) (n : Nat) : (s.gated n).gateCount = min 65535 n
    ∧ (s.gated n).range = if 100 ≤ n ∧ n ≤ 20000 then some (s.tlm.set.range n) else none := by
  obtain ⟨h, k, heq, -⟩ := Tlm.hotGate_eq (s.tlm.takeGate n).failGate s.hot
  rw [State.gated, heq, Tlm.failGate_eq]
  by_cases hn : 100 ≤ n ∧ n ≤ 20000
  · obtain ⟨l, c, k, hrange⟩ := Tlm.rangeGate_set { s.tlm with
      gateCount := n, last3 := (true, s.tlm.last3.1, s.tlm.last3.2.1), range := some (s.tlm.set.range n) }
      (s.tlm.set.range n)
    rw [Tlm.takeGate_valid _ hn.1 hn.2, hrange, if_pos hn]
    exact ⟨by dsimp only; omega, rfl⟩
  · rw [Tlm.takeGate_invalid _ hn, if_neg hn]
    exact ⟨rfl, rfl⟩

/-- Settles O53. -/
theorem gateIndicatesRange : Obligations.GateIndicatesRange := by
  intro s n hs
  obtain ⟨w, m, hex, -, htlm⟩ := exec_gateEnd hs n
  obtain ⟨hcount, hrange⟩ := State.gated_range s n
  have hwcount : w.tlm.gateCount = min 65535 n := by rw [htlm]; exact hcount
  have hwrange : w.tlm.range = if 100 ≤ n ∧ n ≤ 20000 then some (s.tlm.set.range n) else none := by rw [htlm]; exact hrange
  refine ⟨{ w with mp := m }, hex, hwcount, fun hbad => hwrange.trans (if_neg (by omega)), fun hlo hhi hfall => ?_,
    fun hlo hhi hfall => ?_, State.thermalBody_range _⟩
  · have hsome := hwrange.trans (if_pos ⟨hlo, hhi⟩)
    refine ⟨fun hlt hle => hsome.trans ?_, fun hle hlt => hsome.trans ?_, fun hle hlh => hsome.trans ?_⟩
    · simp [ThermalSet.range, hfall, hlt]
    · simp [ThermalSet.range, hfall, hlt, Nat.not_lt.2 hle]
    · simp [ThermalSet.range, hfall, Nat.not_lt.2 hle, Nat.not_lt.2 (hlh.trans hle)]
  · have hsome := hwrange.trans (if_pos ⟨hlo, hhi⟩)
    refine ⟨fun hle hlh => hsome.trans ?_, fun hle hlt => hsome.trans ?_, fun hlt hlh => hsome.trans ?_⟩
    · simp [ThermalSet.range, hfall, hle]
    · simp [ThermalSet.range, hfall, hle, Nat.not_le.2 hlt]
    · simp [ThermalSet.range, hfall, Nat.not_le.2 hlt, Nat.not_le.2 (hlt.trans_le hlh)]

/-! ### HOT_N and the thermal level -/

/-- The ceiling follows the thermal level (R49, R59). -/
theorem State.thermalSettle_ceiling (s : State) (old : Tlm) :
    (s.thermalSettle old).lau.ceiling = (s.thermalSettle old).ceilingNow := by
  have hcomputed (t : State) : t.recomputeCeiling.lau.ceiling = t.recomputeCeiling.ceilingNow := by
    obtain ⟨m, heq⟩ := State.recomputeCeiling_eq t
    rw [heq]
    rfl
  unfold State.thermalSettle
  dsimp only
  generalize (if s.tlm.levelNow ≠ old.level ∨ s.tlm.sensor ≠ old.sensor ∨ s.tlm.hotHold ≠ old.hotHold
    ∨ s.tlm.failSafe ≠ old.failSafe then _ else _ : State) = t
  split
  · exact State.raise_ceiling _ (hcomputed t)
  · split
    · exact State.clear_ceiling _ (hcomputed t)
    · exact hcomputed t

theorem State.thermalSettle_hostCap (s : State) (old : Tlm) : (s.thermalSettle old).lau.hostCap = s.lau.hostCap := by
  unfold State.thermalSettle
  dsimp only
  generalize ht : State.recomputeCeiling _ = t
  have hcap : t.lau.hostCap = s.lau.hostCap := by
    obtain ⟨m, heq⟩ := State.recomputeCeiling_eq (if s.tlm.levelNow ≠ old.level ∨ s.tlm.sensor ≠ old.sensor
        ∨ s.tlm.hotHold ≠ old.hotHold ∨ s.tlm.failSafe ≠ old.failSafe
      then ({ s with tlm := { s.tlm with level := s.tlm.levelNow } } : State).noteThermal
      else { s with tlm := { s.tlm with level := s.tlm.levelNow } })
    rw [← ht, heq]
    split
    · rfl
    · rfl
  split
  · obtain ⟨f, c, m, as, heq, -⟩ := State.raise_eq t ⟨rowThermal, 2, t.raisePhase⟩
    rw [State.raiseNow, heq]
    exact hcap
  · split
    · rw [(State.clear_frame t rowThermal).2.2.2.2.1]
      exact hcap
    · exact hcap

/-- A row that is active and that the end of an event does not clear is active after it. -/
theorem State.finishWork_active {s : State} {q : Nat} (hq : ¬ clearedRow (fun _ => True) q) (h : (s.fmn.row q).active = true) :
    (s.finishWork.fmn.row q).active = true := by
  have hseen : s.fmn.seen q = (true, (s.fmn.row q).detail) := by rw [Fmn.seen, h]
  have hkept := (FaultsOnly.active hq (s.fmn.row q).detail).finishWork hseen
  generalize s.finishWork = t at hkept
  exact congrArg Prod.fst hkept

/-- A row that it neither raises nor clears is as active after it as before. -/
theorem State.finishWork_seen {s : State} {q : Nat} (hr : ¬ raisedRow q) (hc : ¬ clearedRow (fun _ => True) q) :
    s.finishWork.fmn.seen q = s.fmn.seen q := (FaultsOnly.seen hr hc (s.fmn.seen q)).finishWork rfl

/-- HOT_N becomes asserted (R58, R59). -/
theorem State.hotTaken_asserted {s : State} (hhigh : s.tlm.set.hotHigh = false) (hrows : s.fmn.rows.length = 21)
    (hlevel : s.tlm.level ≠ 2) (hsensor : s.tlm.sensor ≤ 2) :
    (({ s with pins.hotN := false } : State).hotTaken false).tlm = { s.tlm.hotAssert with level := 2 }
    ∧ (({ s with pins.hotN := false } : State).hotTaken false).rowActive 5
    ∧ (({ s with pins.hotN := false } : State).hotTaken false).lau.ceiling =
      (({ s with pins.hotN := false } : State).hotTaken false).ceilingNow
    ∧ (({ s with pins.hotN := false } : State).hotTaken false).lau.hostCap = s.lau.hostCap := by
  have hhot : ({ s with pins.hotN := false } : State).hot = true := by simp [State.hot, hotAsserted, hhigh]
  have heq : ({ s with pins.hotN := false } : State).hotTaken false =
      ({ s with pins.hotN := false, tlm := s.tlm.hotAssert } : State).thermalSettle s.tlm := by
    unfold State.hotTaken
    rw [hhot]
    rfl
  have hnow : s.tlm.hotAssert.levelNow = 2 := by
    unfold Tlm.levelNow Tlm.hotAssert
    dsimp only
    split
    · omega
    · rfl
  rw [heq]
  refine ⟨?_, ?_, State.thermalSettle_ceiling _ _, State.thermalSettle_hostCap _ _⟩
  · rw [State.thermalSettle_tlm]
    exact congrArg (fun n => ({ s.tlm.hotAssert with level := n } : Tlm)) hnow
  · unfold State.thermalSettle
    dsimp only
    rw [hnow, if_pos (show (2 = 2 ∧ s.tlm.level ≠ 2) from ⟨rfl, hlevel⟩)]
    generalize ht : State.recomputeCeiling _ = t
    have hlen : t.fmn.rows.length = 21 := by
      rw [← ht, State.recomputeCeiling_fmn]
      split
      · exact hrows
      · exact hrows
    exact State.raiseNow_active hlen (by decide) 2

/-- A gate's raise or clear of SENSOR_LOST stands after it: the rest of the gate is of another row. -/
theorem State.thermalSettle_seen (s : State) (old : Tlm) {q : Nat} (hq : q ≠ 5) :
    (s.thermalSettle old).fmn.seen q = s.fmn.seen q := by
  unfold State.thermalSettle
  dsimp only
  generalize ht : State.recomputeCeiling _ = t
  have hseen : t.fmn.seen q = s.fmn.seen q := by
    rw [← ht, State.recomputeCeiling_fmn]
    split
    · rfl
    · rfl
  split
  · exact (State.raise_seen t _ (.inl hq)).trans hseen
  · split
    · exact (State.clear_seen t hq).trans hseen
    · exact hseen

/-- SENSOR_LOST after a gate whose fail-safe is known (R57). -/
theorem State.gate_seen (s : State) (n : Nat) : (s.gate n).fmn.seen 6 =
    ({ s with tlm := (s.tlm.takeGate n).failGate }.settleFailSafe s.tlm).fmn.seen 6 := by
  rw [State.gate_eq, State.thermalSettle_seen _ _ (by decide)]

/-- The sensor level at a valid gate (R56). -/
structure Tlm.Ranged (a b : Tlm) (r : Nat) : Prop where
  above : a.sensor < r → b.sensor = r ∧ b.cool = 0
  same : r = a.sensor → b.sensor = a.sensor ∧ b.cool = 0
  below : r < a.sensor → a.cool + 1 < 5 ∨ a.failSafe = true →
    b.sensor = a.sensor ∧ b.cool = a.cool + 1 ∧ b.coolHigh = max a.coolHigh r
  cooled : r < a.sensor → a.cool + 1 = 5 → a.failSafe = false → b.sensor = max a.coolHigh r ∧ b.cool = 0

theorem Tlm.rangeGate_ranged (a : Tlm) (r : Nat) : a.Ranged (a.rangeGate r) r := by
  unfold Tlm.rangeGate
  dsimp only
  split
  · next hlt => exact ⟨fun _ => ⟨rfl, rfl⟩, fun h => by omega, fun h => by omega, fun h => by omega⟩
  · split
    · next hne heq => exact ⟨fun h => absurd h hne, fun _ => ⟨rfl, rfl⟩, fun h => by omega, fun h => by omega⟩
    · next hne hneq =>
      split
      · next h5 =>
        refine ⟨fun h => absurd h hne, fun h => absurd h hneq, fun _ h => ?_, fun _ _ _ => ⟨rfl, rfl⟩⟩
        have hsafe : a.failSafe = false := by simpa using h5.2
        rcases h with h | h
        · omega
        · rw [hsafe] at h
          cases h
      · next h5 =>
        exact ⟨fun h => absurd h hne, fun h => absurd h hneq, fun _ _ => ⟨rfl, rfl, rfl⟩,
          fun _ hc hf => absurd ⟨hc, by rw [hf]; rfl⟩ h5⟩

theorem Tlm.rangeGate_failSafe (a : Tlm) (r : Nat) : (a.rangeGate r).failSafe = a.failSafe := by
  obtain ⟨l, c, k, heq⟩ := Tlm.rangeGate_set a r
  rw [heq]

/-- The limiter after a gate, but for the hot hold and the level. -/
theorem State.gated_eq (s : State) (n : Nat) : ∃ h k,
    s.gated n = { (s.tlm.takeGate n).failGate with hotHold := h, hotRelease := k, gateHot := s.hot }
    ∧ (s.tlm.hotHold = 0 → h = 0 ∧ k = 0) ∧ (s.tlm.hotHold ≠ 0 → s.tlm.gateHot = true → h = s.tlm.hotHold ∧ k = 0)
    ∧ (s.tlm.hotHold ≠ 0 → s.tlm.gateHot = false → s.tlm.hotRelease + 1 ≠ 5 →
      h = s.tlm.hotHold ∧ k = s.tlm.hotRelease + 1)
    ∧ (s.tlm.hotHold ≠ 0 → s.tlm.gateHot = false → s.tlm.hotRelease + 1 = 5 → h = 0 ∧ k = 0) := by
  obtain ⟨h, k, heq, hhot⟩ := Tlm.hotGate_eq (s.tlm.takeGate n).failGate s.hot
  have hkept : (s.tlm.takeGate n).failGate.hotHold = s.tlm.hotHold
      ∧ (s.tlm.takeGate n).failGate.gateHot = s.tlm.gateHot
      ∧ (s.tlm.takeGate n).failGate.hotRelease = s.tlm.hotRelease := by
    obtain ⟨_, _, _, _, _, _, _, _, hgate⟩ := Tlm.takeGate_kept s.tlm n
    rw [Tlm.failGate_eq, hgate]
    exact ⟨rfl, rfl, rfl⟩
  rw [hkept.1, hkept.2.1, hkept.2.2] at hhot
  exact ⟨h, k, heq, hhot⟩

/-- A valid gate moves the sensor level and the counts by R56 and R57. -/
theorem State.gated_valid (s : State) {n : Nat} (hlo : 100 ≤ n) (hhi : n ≤ 20000) :
    (s.gated n).valid = s.tlm.valid + 1 ∧ (s.gated n).invalid = 0
    ∧ s.tlm.Ranged (s.gated n) (s.tlm.set.range n)
    ∧ (s.gated n).failSafe = (s.tlm.failSafe && decide (s.tlm.valid + 1 < 3)) := by
  obtain ⟨h, k, heq, -⟩ := State.gated_eq s n
  have hranged := Tlm.rangeGate_ranged
    { s.tlm with gateCount := n, last3 := (true, s.tlm.last3.1, s.tlm.last3.2.1), range := some (s.tlm.set.range n) }
    (s.tlm.set.range n)
  have hsafe := Tlm.rangeGate_failSafe
    { s.tlm with gateCount := n, last3 := (true, s.tlm.last3.1, s.tlm.last3.2.1), range := some (s.tlm.set.range n) }
    (s.tlm.set.range n)
  rw [heq, Tlm.failGate_eq, Tlm.takeGate_valid _ hlo hhi]
  generalize Tlm.rangeGate _ _ = b at hranged hsafe
  have hsensor : ¬ (b.failSafe = false ∧ 3 ≤ 0) := fun h => absurd h.2 (by decide)
  refine ⟨rfl, rfl, ?_, ?_⟩
  · simp only [if_neg hsensor]
    exact ⟨hranged.above, hranged.same, hranged.below, hranged.cooled⟩
  · have hs : b.failSafe = s.tlm.failSafe := hsafe
    simp [hs]

/-- A gate that is not (R56, R57). -/
theorem State.gated_invalid (s : State) {n : Nat} (hn : ¬ (100 ≤ n ∧ n ≤ 20000)) :
    (s.gated n).valid = 0 ∧ (s.gated n).invalid = s.tlm.invalid + 1 ∧ (s.gated n).cool = 0
    ∧ (s.gated n).failSafe = (s.tlm.failSafe || decide (3 ≤ s.tlm.invalid + 1))
    ∧ (s.gated n).sensor = (if s.tlm.failSafe = false ∧ 3 ≤ s.tlm.invalid + 1 then 2 else s.tlm.sensor) := by
  obtain ⟨h, k, heq, -⟩ := State.gated_eq s n
  rw [heq, Tlm.failGate_eq, Tlm.takeGate_invalid _ hn]
  refine ⟨rfl, rfl, rfl, ?_, rfl⟩
  cases s.tlm.failSafe <;> simp

/-- SENSOR_LOST at a gate (R57). -/
theorem State.gate_sensorLost (s : State) (n : Nat) :
    (s.tlm.failSafe = false → (s.gated n).failSafe = true → s.tlm.enabled = true → s.fmn.rows.length = 21 →
      ((s.gate n).fmn.row 6).active = true)
    ∧ (s.tlm.failSafe = true → (s.gated n).failSafe = false → ((s.gate n).fmn.row 6).active = false) := by
  obtain ⟨h, k, heq, -⟩ := State.gated_eq s n
  have hactive : ((s.gate n).fmn.row 6).active = _ := congrArg Prod.fst (State.gate_seen s n)
  obtain ⟨_, _, _, _, _, _, _, _, hgate⟩ := Tlm.takeGate_kept s.tlm n
  have henabled : (s.tlm.takeGate n).failGate.enabled = s.tlm.enabled := by rw [Tlm.failGate_eq, hgate]
  have hsafe : (s.gated n).failSafe = (s.tlm.takeGate n).failGate.failSafe := by rw [heq]
  rw [hactive, hsafe]
  generalize (s.tlm.takeGate n).failGate = b at henabled
  refine ⟨fun hold hnew hon hrows => ?_, fun hold hnew => ?_⟩
  · have hraised : ({ s with tlm := b } : State).settleFailSafe s.tlm = ({ s with tlm := b } : State).raiseNow 6 0 :=
      if_pos (by simp [hold, hnew, henabled, hon])
    rw [hraised]
    exact State.raiseNow_active (s := { s with tlm := b }) hrows (by decide) 0
  · have hcleared : ({ s with tlm := b } : State).settleFailSafe s.tlm = ({ s with tlm := b } : State).clear 6 :=
      (if_neg (by simp [hnew])).trans (if_pos (by simp [hold, hnew]))
    rw [hcleared]
    exact State.clear_inactive _ 6

/-- Settles O54. -/
theorem hotInputForcesLevel : Obligations.HotInputForcesLevel := by
  refine ⟨fun s hhigh hrows => ⟨fun hs hpin hlevel hsensor => ?_, fun hs hpin => ?_⟩, fun s n hs => ?_⟩
  · have hwas : s.hot = false := by simp [State.hot, hotAsserted, hpin, hhigh]
    obtain ⟨htlm, hrow, hceil, hcap⟩ := State.hotTaken_asserted hhigh hrows hlevel hsensor
    have hinner := (State.InnerOf.change (State.InnerOf.refl (Q := View.consistent) s)
      (u := { s with pins.hotN := false }) (by rfl)).hotTaken false
    generalize hu : ({ s with pins.hotN := false } : State).hotTaken false = u at htlm hrow hceil hcap hinner
    have hexec : exec (.hotNChange false) s = .next u.close := by
      show Host.Outcome.next ((({ s with pins.hotN := false } : State).hotTaken s.hot).close) = _
      rw [hwas, hu]
    obtain ⟨m, hex⟩ := exec_ends hs hexec hinner rfl
    have hframe := (State.finishWork_frame u).2.2
    have hactive := State.finishWork_active (by simp [clearedRow]) hrow
    have hceiling := FaultsOnly.ceiling.finishWork hceil
    have hhost := (FaultsOnly.hostCap _).finishWork hcap
    generalize u.finishWork = w at hex hframe hactive hceiling hhost
    rw [htlm] at hframe
    have hw : w.lau.ceiling = min s.lau.hostCap (min s.tlm.set.l2cap w.fmn.cap) := by
      rw [hceiling, State.ceilingNow, hhost, hframe]
      rfl
    exact ⟨_, hex, (congrArg Tlm.hotHold hframe :), (congrArg Tlm.hotRelease hframe :), (congrArg Tlm.level hframe :),
      (congrArg Tlm.gateHot hframe :), hactive, hw⟩
  · have hexec : exec (.hotNChange true) s = .next (({ s with pins.hotN := true } : State).hotTaken s.hot).close := rfl
    have hhot : ({ s with pins.hotN := true } : State).hot = false := by simp [State.hot, hotAsserted, hhigh]
    have htaken : ({ s with pins.hotN := true } : State).hotTaken s.hot = { s with pins.hotN := true } := by
      simp [State.hotTaken, hhot]
    have hbusy : ({ s with pins.hotN := true } : State).lineBusy := hs
    rw [hexec, htaken, State.close_lineBusy hbusy]
  · obtain ⟨w, m, hex, hw, htlm⟩ := exec_gateEnd hs n
    obtain ⟨hlost, hfound⟩ := State.gate_sensorLost s n
    have hkeep (hact : ((s.gate n).fmn.row 6).active = true) : (w.fmn.row 6).active = true := by
      rw [← hw]
      exact State.finishWork_active (by simp [clearedRow]) hact
    have hdrop (hact : ((s.gate n).fmn.row 6).active = false) : (w.fmn.row 6).active = false := by
      have hseen := congrArg Prod.fst (State.finishWork_seen (s := s.gate n) (q := 6) (by simp [raisedRow])
        (by simp [clearedRow]))
      rw [hw] at hseen
      exact hseen.trans hact
    have hvalid := fun hlo hhi => State.gated_valid s (n := n) hlo hhi
    have hinvalid := fun hn => State.gated_invalid s (n := n) hn
    have hhot := State.gated_eq s n
    generalize s.gated n = b at htlm hlost hfound hvalid hinvalid hhot
    obtain ⟨h, k, heq, hhot0, hhot1, hhot2, hhot3⟩ := hhot
    have hhold : b.hotHold = h ∧ b.hotRelease = k ∧ b.gateHot = s.hot ∧ b.enabled = s.tlm.enabled := by
      obtain ⟨_, _, _, _, _, _, _, _, hgate⟩ := Tlm.takeGate_kept s.tlm n
      rw [heq, Tlm.failGate_eq, hgate]
      exact ⟨rfl, rfl, rfl, rfl⟩
    obtain ⟨hbh, hbk, hbg, hbe⟩ := hhold
    rw [← hbh, ← hbk] at hhot0 hhot1 hhot2 hhot3
    have ht : ({ w with mp := m } : State).tlm = { b with level := b.levelNow } := htlm
    refine ⟨_, hex, fun ⟨hlo, hhi⟩ => ?_, fun hn => ?_, fun h0 h1 => ?_, fun h0 h1 => ?_, ?_⟩
    · obtain ⟨hv, hi, hranged, hsafe⟩ := hvalid hlo hhi
      rw [ht]
      exact ⟨hv, hi, hranged.above, hranged.same, hranged.below, hranged.cooled, hsafe⟩
    · obtain ⟨hv, hi, hc, hsafe, hsensor⟩ := hinvalid hn
      rw [ht]
      exact ⟨hv, hi, hc, hsafe, hsensor⟩
    · rw [ht] at h1
      exact fun hon hrows => hkeep (hlost h0 h1 hon hrows)
    · rw [ht] at h1
      exact hdrop (hfound h0 h1)
    · rw [ht]
      refine ⟨hhot0, hhot1, hhot2, hhot3, hbg, ?_⟩
      rw [← hbe]
      rfl

end Sys2Proof.Machine
end

section
/-! PROOFS. Packets at the tenant ports, and the pulses (R64, R66, R93, R110, R111, R114, R197). -/

namespace Sys2Proof.Machine

/-- Settles O50. -/
theorem pulsesChangeTheirRecord : Obligations.PulsesChangeTheirRecord := by
  intro s hs
  have hends {c : Instr} {u : State} (hex : exec c s = .next u.close) (hu : u.lineBusy) : exec c s = .next u := by
    rw [hex, State.close_lineBusy hu]
  refine ⟨hends rfl hs, fun hpulse => ?_, fun ns osc w hns hopen hclosed hwin => ?_, fun hopen hlow hok => ?_⟩
  · have hend : s.mp.pulseEnd = { s.mp with pulse := none, attn := false } := if_pos hpulse
    refine hends (u := { s with mp := { s.mp with pulse := none, attn := false } }) ?_ hs
    rw [← hend]
    rfl
  · have hroll : s.rollWindow ns = s := if_neg (by simp [hopen])
    have hpulse : s.pulse ns osc = { s with rfm.win := some { w with pulses := w.pulses + 1, ns := ns, osc := osc } } := by
      unfold State.pulse
      rw [hroll]
      simp [Rfm.modifyOpen, hclosed, hwin, PulseWindow.count]
    refine hends ?_ hs
    show (if ns < 1000000000 then Host.Outcome.next (s.pulse ns osc).close else _) = _
    rw [if_pos hns, hpulse]
  · have hroll : s.rollWindow s.dsu.time.ns = s := if_neg (by simp [hopen])
    have hwas : s.gnssOk = false := by simp [State.gnssOk, hlow, hok]
    have hset : s.setGnssOk true = { s with pins.gnssOk := true } := by
      simp [State.setGnssOk, hroll, hwas]
    refine hends ?_ hs
    rw [← hset]
    rfl

/-! ### Packets -/

/-- A no-room drop that reaches the threshold (R110). -/
theorem State.arrive_threshold {s : State} {i : Fin 4} {p : Bytes} (hp : goodPacket p)
    (hq : (s.tpt.get i).state = .held ∨ (s.tpt.get i).state = .active ∨ (s.tpt.get i).state = .unfit)
    (hroom : 65536 < occupancy (s.tpt.get i).queue + p.length) : s.arrive i p =
    if (s.tpt.get i).thr ≠ 0 ∧ (s.tpt.get i).secDrops + 1 = (s.tpt.get i).thr then
      ({ s with tpt := s.tpt.set i { s.tpt.get i with
        secDrops := (s.tpt.get i).secDrops + 1, counts.noRoom := (s.tpt.get i).counts.noRoom + 1 } } : State).raiseNow
        (13 + i.val) i.val
    else { s with tpt := s.tpt.set i { s.tpt.get i with
      secDrops := (s.tpt.get i).secDrops + 1, counts.noRoom := (s.tpt.get i).counts.noRoom + 1 } } := by
  obtain ⟨h1, h2⟩ := hp
  have hqueues : (s.tpt.get i).state.queues = true := by
    rcases hq with h | h | h <;> rw [h] <;> rfl
  unfold State.arrive
  rw [if_neg (by simp; omega), if_neg (by simp [hqueues]), if_neg (by omega)]
  rfl

/-- Settles O56. -/
theorem packetsEnterAndLeave : Obligations.PacketsEnterAndLeave := by
  intro s i p hs
  have hends {c : Instr} {x : Tenant} (hex : exec c s = .next ({ s with tpt := s.tpt.set i x } : State).close) :
      exec c s = .next { s with tpt := s.tpt.set i x } := by
    have hbusy : ({ s with tpt := s.tpt.set i x } : State).lineBusy := hs
    rw [hex, State.close_lineBusy hbusy]
  have hlen (hp : goodPacket p) : ¬ ((decide (p.length < 64) || decide (2000 < p.length)) = true) := by
    obtain ⟨h1, h2⟩ := hp
    simp
    omega
  refine ⟨fun hp => hends ?_, fun hp hstate => hends ?_, fun hp hstate => ⟨fun hroom => hends ?_, fun hroom hcalm => ?_,
    fun hroom hthr hdrops hrow hrows => ?_⟩, fun x xs hx => hends ?_⟩
  · have harrive : s.arrive i p = s.modTenant i (fun t => { t with counts.badLength := t.counts.badLength + 1 }) := by
      refine if_pos ?_
      have hbad : p.length < 64 ∨ 2000 < p.length := by
        unfold goodPacket at hp
        omega
      simpa using hbad
    exact congrArg (fun t : State => Host.Outcome.next t.close) harrive
  · have harrive : s.arrive i p = s.modTenant i (fun t => { t with counts.barred := t.counts.barred + 1 }) := by
      refine (if_neg (hlen hp)).trans (if_pos ?_)
      rcases hstate with h | h <;> rw [h] <;> rfl
    exact congrArg (fun t : State => Host.Outcome.next t.close) harrive
  · have harrive : s.arrive i p = s.modTenant i (fun t => { t with
        queue := t.queue ++ [p], accSince := t.accSince + (p.length + 2)
        counts.accepted := t.counts.accepted + 1
        counts.acceptedBytes := t.counts.acceptedBytes + BitVec.ofNat 32 (p.length + 2) }) := by
      refine (if_neg (hlen hp)).trans ((if_neg ?_).trans (if_pos hroom))
      rcases hstate with h | h | h <;> rw [h] <;> decide
    exact congrArg (fun t : State => Host.Outcome.next t.close) harrive
  · have harrive : s.arrive i p = { s with tpt := s.tpt.set i { s.tpt.get i with
        secDrops := (s.tpt.get i).secDrops + 1, counts.noRoom := (s.tpt.get i).counts.noRoom + 1 } } := by
      rw [State.arrive_threshold hp hstate hroom]
      split
      · next hat =>
        have hactive : (s.fmn.row (13 + i.val)).active = true :=
          (hcalm.resolve_left hat.1).resolve_left fun h => h hat.2
        exact if_pos hactive
      · rfl
    exact hends (congrArg (fun t : State => Host.Outcome.next t.close) harrive)
  · have hraise := (State.arrive_threshold hp hstate hroom).trans (if_pos ⟨hthr, hdrops⟩)
    obtain ⟨m, hex⟩ := exec_ends (c := .packetArrival i p) hs.1 rfl ((State.InnerOf.refl s).arrive i p) rfl
    rw [hraise] at hex
    generalize hv : ({ s with tpt := s.tpt.set i { s.tpt.get i with
      secDrops := (s.tpt.get i).secDrops + 1, counts.noRoom := (s.tpt.get i).counts.noRoom + 1 } } : State) = v at hex
    have hvfmn : v.fmn = s.fmn := by rw [← hv]
    have hvacts : v.work.acts = [] := by
      rw [← hv]
      exact congrArg Work.acts hs.1.1
    have hvtpt : v.tpt.get i = { s.tpt.get i with
        secDrops := (s.tpt.get i).secDrops + 1, counts.noRoom := (s.tpt.get i).counts.noRoom + 1 } := by
      rw [← hv]
      exact Four.get_set_same _ _ _
    have hi := i.isLt
    have hseen := State.raiseNow_seen (s := v) (hvfmn ▸ hrows) (r := 13 + i.val) (by omega) (by rw [hvfmn, hrow]) i.val
    have hnever (hbar : s.fmn.answersNever .bar) := State.raise_never (k := .bar) (s := v) ⟨13 + i.val, i.val, v.raisePhase⟩
      ⟨hvfmn.symm ▸ hbar, by simp [hvacts]⟩
    have hutpt : (v.raiseNow (13 + i.val) i.val).tpt.get i = v.tpt.get i := by simp
    have hkeptSeen := (State.finishWork_seen (s := v.raiseNow (13 + i.val) i.val) (q := 13 + i.val)
      (by simp only [raisedRow]; omega) (by simp only [clearedRow]; omega)).trans hseen
    have hkept := State.finishWork_kept (v.raiseNow (13 + i.val) i.val) i
    have hqueue (hbar : s.fmn.answersNever .bar) :
        ((v.raiseNow (13 + i.val) i.val).finishWork.tpt.get i).queue = (s.tpt.get i).queue :=
      (State.Worked.finishWork_never (k := .bar) (by simp) (hnever hbar).1 (hnever hbar).2).tenant
        (Q := fun x => x.queue = (s.tpt.get i).queue) i (fun _ _ e h => (e.queue (by simp)).trans h)
        (by
          show ((v.raiseNow (13 + i.val) i.val).tpt.get i).queue = _
          rw [hutpt, hvtpt])
    rw [hutpt, hvtpt] at hkept
    generalize (v.raiseNow (13 + i.val) i.val).finishWork = w at hex hkeptSeen hkept hqueue
    obtain ⟨-, -, -, hdrop, -, hnoRoom, haccepted, -⟩ := Tenant.kept_fields hkept
    exact ⟨_, hex, congrArg Prod.fst hkeptSeen, congrArg Prod.snd hkeptSeen, hdrop, hnoRoom, haccepted, hqueue⟩
  · have htake : (s.tpt.get i).takeEgress =
        { s.tpt.get i with egress := xs, counts.delivered := (s.tpt.get i).counts.delivered + 1 } := by
      unfold Tenant.takeEgress
      rw [hx]
    exact congrArg (fun y => Host.Outcome.next ({ s with tpt := s.tpt.set i y } : State).close) htake

end Sys2Proof.Machine
end

section
/-! PROOFS. The end of an allocation period, and the fate of the newest map at the transmit side (R115, R119, R135 to
R137). -/

namespace Sys2Proof.Machine

/-! ### The newest map at the transmit side -/

/-- The map in force or pending there that a result is compared with (R135). -/
def LfrTx.equals (x : LfrTx) (c : MapCounts) (prof : Nat) : Bool :=
  match x.mpend with
  | some p => sameMap c prof p.counts (some p.prof)
  | none => sameMap c prof x.map.counts x.map.prof

theorem sameMap_iff (c : MapCounts) (prof : Nat) (d : MapCounts) (q : Option Nat) : sameMap c prof d q = true ↔
    c = d ∧ (q = some prof ∨ c.used = 0) := by
  simp [sameMap]

theorem LfrTx.equals_iff (x : LfrTx) (c : MapCounts) (prof : Nat) : x.equals c prof = true ↔
    (∀ p, x.mpend = some p → c = p.counts ∧ (prof = p.prof ∨ c.used = 0))
      ∧ (x.mpend = none → c = x.map.counts ∧ (x.map.prof = some prof ∨ c.used = 0)) := by
  unfold LfrTx.equals
  cases x.mpend with
  | none => simp [sameMap_iff]
  | some p =>
    rw [sameMap_iff]
    simp [eq_comm (a := prof) (b := p.prof)]

theorem State.handNewest_aside {s : State} (h : s.lfr.tx.framer ≠ .normal) (c : MapCounts) (prof : Nat)
    (kind : TriggerKind) : s.handNewest c prof kind =
    { s with lfr.fate := some .setAside, lfr.mcounts.setAside := s.lfr.mcounts.setAside + 1 } := if_neg h

theorem State.handNewest_equal {s : State} (h : s.lfr.tx.framer = .normal) {c : MapCounts} {prof : Nat}
    (hsame : s.lfr.tx.equals c prof = true) (kind : TriggerKind) :
    s.handNewest c prof kind = { s with lfr.fate := some .equal } := (if_pos h).trans (if_pos hsame)

theorem State.handNewest_withheld {s : State} (h : s.lfr.tx.framer = .normal) {c : MapCounts} {prof : Nat}
    (hsame : ¬ s.lfr.tx.equals c prof = true) (hpend : s.lfr.tx.mpend.isSome = true) :
    s.handNewest c prof .periodic =
      { s with lfr.fate := some .withheld, lfr.mcounts.withheld := s.lfr.mcounts.withheld + 1 } :=
  (if_pos h).trans ((if_neg hsame).trans (if_pos (by simp [hpend])))

theorem State.handNewest_announced {s : State} (h : s.lfr.tx.framer = .normal) {c : MapCounts} {prof : Nat}
    {kind : TriggerKind} (hsame : ¬ s.lfr.tx.equals c prof = true) (hkind : kind = .event ∨ s.lfr.tx.mpend = none) :
    s.handNewest c prof kind = s.announce c prof := by
  refine (if_pos h).trans ((if_neg hsame).trans (if_neg ?_))
  rcases hkind with hk | hn
  · simp [hk]
  · simp [hn]

/-- The counts of an announcement (R136, R137). -/
def MapStats.announced' (m : MapStats) (newer tied : Bool) : MapStats :=
  { m with
    announced := if newer then m.announced else m.announced + 1
    superseded := if newer then m.superseded + 1 else m.superseded
    tied := if tied then m.tied + 1 else m.tied }

/-- An announcement (R132, R136, R137). -/
theorem State.announce_eq (s : State) (c : MapCounts) (prof : Nat) : ∃ k m, s.announce c prof = { s with
    mp := m
    lfr := { s.lfr with
      tx := { s.lfr.tx with
        mpend := some ⟨nextVersion s.lfr.tx.lastVer, c, prof, if 2 ≤ s.lfr.tx.tieCount then s.lfr.tx.tieCount else 16, false,
          decide (2 ≤ s.lfr.tx.tieCount)⟩
        lastVer := nextVersion s.lfr.tx.lastVer }
      mcounts := s.lfr.mcounts.announced' s.lfr.tx.mpend.isSome (decide (2 ≤ s.lfr.tx.tieCount))
      fate := some .announced, mapCause := k } } := by
  refine ⟨if s.lfr.tx.mpend.isSome then .superseded else .announced, (s.announce c prof).mp, ?_⟩
  unfold State.announce
  cases s.lfr.tx.mpend.isSome <;> by_cases htie : 2 ≤ s.lfr.tx.tieCount <;> simp [htie, State.noteMap, State.notify, MapStats.announced']

/-- What a hand-over does at the transmit side is a matter of the transmit side alone. -/
theorem State.handNewest_congr {s u : State} (hfr : u.lfr.tx.framer = s.lfr.tx.framer) (hmp : u.lfr.tx.mpend = s.lfr.tx.mpend)
    (hmap : u.lfr.tx.map = s.lfr.tx.map) (hlast : u.lfr.tx.lastVer = s.lfr.tx.lastVer) (hpend : u.lfr.tx.pend = s.lfr.tx.pend)
    (hcounts : u.lfr.mcounts = s.lfr.mcounts) (c : MapCounts) (prof : Nat) (kind : TriggerKind) :
    (u.handNewest c prof kind).lfr.fate = (s.handNewest c prof kind).lfr.fate
    ∧ (u.handNewest c prof kind).lfr.mcounts = (s.handNewest c prof kind).lfr.mcounts
    ∧ (u.handNewest c prof kind).lfr.tx.mpend = (s.handNewest c prof kind).lfr.tx.mpend
    ∧ (u.handNewest c prof kind).lfr.tx.lastVer = (s.handNewest c prof kind).lfr.tx.lastVer := by
  have hequals : u.lfr.tx.equals c prof = s.lfr.tx.equals c prof := by
    unfold LfrTx.equals
    rw [hmp, hmap]
  have htie : u.lfr.tx.tieCount = s.lfr.tx.tieCount := by
    unfold LfrTx.tieCount
    rw [hpend]
  by_cases hn : s.lfr.tx.framer = .normal
  · by_cases hsame : s.lfr.tx.equals c prof = true
    · rw [State.handNewest_equal hn hsame, State.handNewest_equal (hfr.trans hn) (hequals.trans hsame)]
      exact ⟨rfl, hcounts, hmp, hlast⟩
    · have hsame' : ¬ u.lfr.tx.equals c prof = true := by rwa [hequals]
      by_cases hk : kind = .event ∨ s.lfr.tx.mpend = none
      · obtain ⟨k, m, heq⟩ := State.announce_eq s c prof
        obtain ⟨k', m', heq'⟩ := State.announce_eq u c prof
        rw [State.handNewest_announced hn hsame hk, State.handNewest_announced (hfr.trans hn) hsame' (hmp.symm ▸ hk), heq, heq']
        simp only [hlast, htie, hmp, hcounts, and_self]
      · have hper : kind = .periodic := by
          cases kind
          · rfl
          · exact absurd (.inl rfl) hk
        have hsome : s.lfr.tx.mpend.isSome = true := Option.isSome_iff_ne_none.2 fun h => hk (.inr h)
        rw [hper, State.handNewest_withheld hn hsame hsome, State.handNewest_withheld (hfr.trans hn) hsame' (hmp.symm ▸ hsome)]
        simp only [hcounts, hmp, hlast, and_self]
  · rw [State.handNewest_aside hn, State.handNewest_aside (hfr ▸ hn)]
    simp only [hcounts, hmp, hlast, and_self]

/-- A computation's result at the transmit side is that of its hand-over (R129, R135). -/
theorem State.computeShare_fate {s u : State} (hfr : u.lfr.tx.framer = s.lfr.tx.framer)
    (hmp : u.lfr.tx.mpend = s.lfr.tx.mpend) (hmap : u.lfr.tx.map = s.lfr.tx.map)
    (hlast : u.lfr.tx.lastVer = s.lfr.tx.lastVer) (hpend : u.lfr.tx.pend = s.lfr.tx.pend)
    (hcounts : u.lfr.mcounts = s.lfr.mcounts) (t : Trigger) (o : ShareOut) :
    (u.computeShare t o).lfr.fate = (s.handNewest o.counts u.shareIn.prof (o.kind t)).lfr.fate
    ∧ (u.computeShare t o).lfr.mcounts = (s.handNewest o.counts u.shareIn.prof (o.kind t)).lfr.mcounts
    ∧ (u.computeShare t o).lfr.tx.mpend = (s.handNewest o.counts u.shareIn.prof (o.kind t)).lfr.tx.mpend
    ∧ (u.computeShare t o).lfr.tx.lastVer = (s.handNewest o.counts u.shareIn.prof (o.kind t)).lfr.tx.lastVer :=
  State.handNewest_congr (s := s) (u := { u with sha := {
    newest := ⟨o.counts, u.shareIn.prof, some (o.kind t)⟩, grant := o.grant, tReq := o.tReq
    record := some (o.record u.shareIn t) } }) hfr hmp hmap hlast hpend hcounts _ _ _

/-- Where a result is neither left, withheld nor set aside, it is announced as the next version (R132, R136, R137). -/
theorem State.handNewest_fate (s : State) (c : MapCounts) (prof : Nat) (kind : TriggerKind) :
    let t := s.handNewest c prof kind
    (s.lfr.tx.framer ≠ .normal → t.lfr.tx = s.lfr.tx ∧ t.lfr.fate = some .setAside
      ∧ t.lfr.mcounts = { s.lfr.mcounts with setAside := s.lfr.mcounts.setAside + 1 })
    ∧ (s.lfr.tx.framer = .normal → s.lfr.tx.equals c prof = true →
      t.lfr.tx = s.lfr.tx ∧ t.lfr.fate = some .equal ∧ t.lfr.mcounts = s.lfr.mcounts)
    ∧ (s.lfr.tx.framer = .normal → ¬ s.lfr.tx.equals c prof = true → kind = .periodic → s.lfr.tx.mpend ≠ none →
      t.lfr.tx = s.lfr.tx ∧ t.lfr.fate = some .withheld
      ∧ t.lfr.mcounts = { s.lfr.mcounts with withheld := s.lfr.mcounts.withheld + 1 }) := by
  refine ⟨fun hn => ?_, fun hn hsame => ?_, fun hn hsame hk hpend => ?_⟩
  · rw [State.handNewest_aside hn]
    exact ⟨rfl, rfl, rfl⟩
  · rw [State.handNewest_equal hn hsame]
    exact ⟨rfl, rfl, rfl⟩
  · rw [hk, State.handNewest_withheld hn hsame (Option.isSome_iff_ne_none.2 hpend)]
    exact ⟨rfl, rfl, rfl⟩

theorem nextVersion_eq {v : Nat} (h : v ≤ 255) : nextVersion v = if v = 255 then 1 else v + 1 := by
  unfold nextVersion
  split <;> omega

/-! ### The computation of an event -/

/-- An event whose rest is one computation, with no grant held (R119, R125). -/
theorem State.finishWork_computed {s : State} (h : s.settled) {a : Trigger} (ha : s.work.alloc = some a)
    (hgrant : s.sha.grant = none) : ∃ q k v m, s.finishWork =
    { ({ s with work.alloc := none } : State).computeShare a (share s.shareIn) with
      stu := { s.stu with queue := q, kept := k, removed := [] }
      lfr := { (({ s with work.alloc := none } : State).computeShare a (share s.shareIn)).lfr with
        tx := { (({ s with work.alloc := none } : State).computeShare a (share s.shareIn)).lfr.tx with svc := v } }
      mp := m, work := {} }
    ∧ ((share s.shareIn).gave = false → q = s.stu.queue ∧ k = s.stu.kept) := by
  have hwork : ({ s.work with alloc := none, phase := none } : Work) = {} := by rw [← h.1, ← h.2]
  have hrevoked : (share s.shareIn).revoked = false := share_not_revoked hgrant
  obtain ⟨x, hx⟩ := State.computeShare_eq { s with work.alloc := none } a (share s.shareIn)
  have hcompute : ({ s with work.alloc := none } : State).compute a =
      if (share s.shareIn).gave then (State.withAlloc { s with work.alloc := none } x).grantGiven
      else State.withAlloc { s with work.alloc := none } x := by
    rw [← hx]
    unfold State.compute
    dsimp only
    rw [show (({ s with work.alloc := none } : State).shareIn) = s.shareIn from rfl, hrevoked]
    rfl
  rw [hx, State.finishWork_endEvent]
  by_cases hgave : (share s.shareIn).gave = true
  · obtain ⟨k, v, m, heq⟩ := State.grantGiven_eq (State.withAlloc { s with work.alloc := none } x)
    rw [if_pos hgave] at hcompute
    refine ⟨grantHead s.stu.queue, k, v, m, ?_, fun h => absurd h (by simp [hgave])⟩
    rw [State.doWork_computed h ha (hcompute.trans heq) h rfl, ← hwork]
    rfl
  · rw [if_neg hgave] at hcompute
    refine ⟨s.stu.queue, s.stu.kept, s.lfr.tx.svc, x.mp, ?_, fun _ => ⟨rfl, rfl⟩⟩
    rw [State.doWork_computed h ha hcompute h rfl, ← hwork]
    rfl

/-- The state at an allocation period's end, before the computation. -/
def State.snapshot (s : State) : State :=
  { s with
    lfr.tx.periodDue := false
    tpt := Four.of (fun i => { s.tpt.get i with snapA := (s.tpt.get i).accSince, snapQ := (s.tpt.get i).unsent, accSince := 0 })
    work.alloc := some .periodEnd }

theorem State.periodEnd_eq {s : State} (hwork : s.work = {}) (hdue : s.lfr.tx.periodDue = true) : s.periodEnd = s.snapshot := by
  unfold State.periodEnd State.wantAlloc
  simp only [hdue, if_true, hwork]
  rw [State.snapshot, hwork]

/-- Settles O45. -/
theorem periodEndTakesDemand : Obligations.PeriodEndTakesDemand := by
  refine ⟨fun s hs hdue hgrant => ?_, fun s c prof kind => ?_⟩
  · have hwork : s.work = {} := hs.1
    have hsettled : s.snapshot.settled := by
      rw [State.snapshot, hwork]
      exact ⟨rfl, rfl⟩
    have hend := State.periodEnd_eq hwork hdue
    obtain ⟨q, k, v, m, hfinish, -⟩ := State.finishWork_computed (s := s.snapshot) hsettled rfl hgrant
    have hinner := (State.InnerOf.refl (Q := View.consistent) s).periodEnd
    rw [hend] at hinner
    obtain ⟨m', hex⟩ := exec_ends (c := .allocationPeriodEnd) hs
      (show exec .allocationPeriodEnd s = .next s.snapshot.close by
        show Host.Outcome.next s.periodEnd.close = _
        rw [hend]) hinner hfinish
    have hrevoked : (share s.snapshot.shareIn).revoked = false := share_not_revoked hgrant
    have hsha := State.computeShare_sha { s.snapshot with work.alloc := none } .periodEnd (share s.snapshot.shareIn)
    have hfate := State.computeShare_fate (s := s) (u := { s.snapshot with work.alloc := none }) rfl rfl rfl rfl rfl rfl
      .periodEnd (share s.snapshot.shareIn)
    rw [show ({ s.snapshot with work.alloc := none } : State).shareIn.prof = s.snapshot.shareIn.prof from rfl] at hfate
    obtain ⟨x, hx⟩ := State.computeShare_eq { s.snapshot with work.alloc := none } .periodEnd (share s.snapshot.shareIn)
    have hframe : (({ s.snapshot with work.alloc := none } : State).computeShare .periodEnd (share s.snapshot.shareIn)).tpt
          = s.snapshot.tpt
        ∧ (({ s.snapshot with work.alloc := none } : State).computeShare .periodEnd
          (share s.snapshot.shareIn)).lfr.tx.map = s.lfr.tx.map
        ∧ (({ s.snapshot with work.alloc := none } : State).computeShare .periodEnd
          (share s.snapshot.shareIn)).lfr.tx.periodDue = false := by
      rw [hx]
      exact ⟨rfl, rfl, rfl⟩
    have hkind : (share s.snapshot.shareIn).kind .periodEnd = .event ↔ (share s.snapshot.shareIn).grant.isSome = true := by
      rw [share_grant, hrevoked, ShareOut.kind, hrevoked]
      have hnone : s.snapshot.shareIn.grant = none := hgrant
      cases (share s.snapshot.shareIn).gave <;> simp [hnone, Trigger.kind]
    generalize ({ s.snapshot with work.alloc := none } : State).computeShare .periodEnd (share s.snapshot.shareIn) = w
      at hex hsha hfate hframe
    obtain ⟨hwtpt, hwmap, hwdue⟩ := hframe
    obtain ⟨hf, hm, hp, hl⟩ := hfate
    refine ⟨_, (share s.snapshot.shareIn).kind .periodEnd, hex, hwdue, ?_, ?_, ?_, ?_, fun i => ?_⟩
    · show w.sha.record.isSome = true
      rw [hsha]
      rfl
    · show w.sha.newest.kind = _
      rw [hsha]
    · show _ ↔ w.sha.grant.isSome = true
      rw [hsha]
      exact hkind
    · show w.lfr.fate = (s.handNewest w.sha.newest.counts w.sha.newest.prof _).lfr.fate ∧ w.lfr.mcounts = _
        ∧ w.lfr.tx.mpend = _ ∧ w.lfr.tx.lastVer = _ ∧ w.lfr.tx.map = _
      rw [hsha]
      exact ⟨hf, hm, hp, hl, hwmap⟩
    · show (w.tpt.get i).snapA = _ ∧ (w.tpt.get i).snapQ = _ ∧ (w.tpt.get i).accSince = 0
      rw [hwtpt, State.snapshot, Four.get_of]
      exact ⟨rfl, rfl, rfl⟩
  · have hsame := LfrTx.equals_iff s.lfr.tx c prof
    obtain ⟨haside, hequal, hwithheld⟩ := State.handNewest_fate s c prof kind
    refine ⟨haside, fun hn he => hequal hn (hsame.2 he), fun hn he => hwithheld hn (fun h => he (hsame.1 h)),
      fun hn he hk hlast => ?_⟩
    obtain ⟨mc, m, hannounce⟩ := State.announce_eq s c prof
    have htie : (s.lfr.tx.pend = none → s.lfr.tx.tieCount = 0) ∧ ∀ w, s.lfr.tx.pend = some w →
        s.lfr.tx.tieCount = if w.carried = true then w.count - 1 else w.count := by
      unfold LfrTx.tieCount
      refine ⟨fun h => by rw [h], fun w h => by rw [h]⟩
    rw [State.handNewest_announced hn (fun h => he (hsame.1 h)) hk, hannounce]
    refine ⟨rfl, nextVersion_eq hlast, rfl, rfl, rfl, fun hnone => ?_, fun hsome => ?_, _, rfl, rfl, rfl, rfl, rfl, ?_⟩
    · simp [hnone, MapStats.announced']
    · have hsome' : s.lfr.tx.mpend.isSome = true := Option.isSome_iff_ne_none.2 hsome
      simp [hsome', MapStats.announced']
    · dsimp only
      split
      · next hpend => simp [htie.1 hpend, MapStats.announced']
      · intro w hw
        rw [htie.2 w hw]
        refine ⟨fun h2 => ?_, fun h2 => ?_⟩
        · simp [h2, MapStats.announced']
        · simp [Nat.not_le.2 h2, MapStats.announced']

end Sys2Proof.Machine
end

section
/-! PROOFS. The duration of a link pattern run, and its grant taken back (R126, R151 to R153). -/

namespace Sys2Proof.Machine

/-- A pattern run RUNNING that has filled its frames. -/
theorem Stu.durationDone_running {u : Stu} {r : Run} (hactive : u.active = some r) (hstate : r.state = .running)
    (hkind : r.entry.kind = .linkPattern) : u.durationDone = decide (r.entry.duration ≤ r.fig.frames) := by
  simp [Stu.durationDone, Stu.patternRunning, hactive, hstate, hkind]

/-- The grant released, a computation is due (R126). -/
theorem State.testRelease_eq {s : State} (hwork : s.work = {}) : s.testRelease = { s with
    sha.tReq := 0, sha.grant := none, work.alloc := some .test } := by
  unfold State.testRelease State.wantAlloc
  simp only [hwork]

theorem State.drainRun_done {s : State} {r : Run} {rs : List Run} (hwork : s.work = {}) (hq : s.stu.queue = r :: rs)
    (hstate : r.state = .running) (hkind : r.entry.kind = .linkPattern) (hdone : r.entry.duration ≤ r.fig.frames) :
    ∃ m, s.drainRun = { s with
      stu.queue := { r with state := .draining, drainLeft := some 1600 } :: rs
      sha.tReq := 0, sha.grant := none, work.alloc := some .test, mp := m } := by
  have hactive : s.stu.active = some r := Stu.active_cons hq (by simp [hstate])
  have hduration : s.stu.durationDone = true := by
    rw [Stu.durationDone_running hactive hstate hkind]
    exact decide_eq_true hdone
  unfold State.drainRun
  simp only [hactive, hduration, if_true]
  rw [State.testRelease_eq (s := s.setActive { r with state := .draining, drainLeft := some Config.drainFrames }) hwork]
  simp only [State.setActive, hq, State.noteTest, State.notify]
  exact ⟨_, rfl⟩

/-- The release that a revocation came before (R126). -/
theorem State.settleRelease_late {s : State} (hwork : s.work = {}) (hlate : s.stu.lateRelease = true) :
    s.settleRelease = { s with stu.lateRelease := false, work.alloc := some .test } := by
  unfold State.settleRelease State.wantAlloc
  simp only [hlate, if_true, hwork]

theorem State.drainRun_late {s : State} (hdone : s.stu.durationDone = false) : s.drainRun = s.settleRelease := by
  unfold State.drainRun
  split
  · exact if_neg (by simp [hdone])
  · rfl

/-- A revocation takes from a run what it holds already: nothing is given back (R153). -/
theorem State.giveBack_revoked {s : State} {r : Run} (hstate : r.state = .running) : s.giveBack r .revoked = s := by
  unfold State.giveBack
  simp [hstate]

/-- The run that holds a revoked grant, of no round and the only one, ends (R126, R153). -/
theorem State.revokeRun_eq {s : State} {r : Run} (hq : s.stu.queue = [r]) (hstate : r.state = .running)
    (hround : r.round = false) : ∃ d m, s.revokeRun r = { s with
      stu := { s.stu with
        lateRelease := s.stu.lateRelease || s.releaseStands
        log := (s.recordOf r .aborted .revoked :: s.stu.log).take 16, decisive := d, queue := [] }
      mp := m, work.runDue := false } := by
  unfold State.revokeRun State.abortRun
  rw [State.giveBack_revoked hstate]
  obtain ⟨d, x, hfinish, hacts, hsame⟩ := State.finishRun_eq
    { s with stu.lateRelease := s.stu.lateRelease || s.releaseStands } r .aborted .revoked
  obtain ⟨hfmn, hceiling⟩ := hsame rfl
  refine ⟨d, x.mp, ?_⟩
  unfold State.endRun
  rw [hround]
  refine hfinish.trans ?_
  simp only [State.withRaised, hacts (by simp), hfmn, hceiling, hq, List.append_nil]
  rfl

/-- Settles O44. -/
theorem patternDurationDrains : Obligations.PatternDurationDrains := by
  refine ⟨fun s r rs hs hq hstate hkind hdone => ?_, fun s r hs hdue hq hstate hkind hround hrevoked => ?_,
    fun s hs hlate hdone hgrant htReq => ?_⟩
  · have hwork : s.work = {} := hs.1
    obtain ⟨m, hdrain⟩ := State.drainRun_done hwork hq hstate hkind hdone
    have hinner := (State.InnerOf.refl (Q := View.consistent) s).drainRun
    generalize hu : s.drainRun = u at hdrain hinner
    have hsettled : u.settled := by
      rw [hdrain]
      exact ⟨congrArg Work.acts hwork, congrArg Work.runDue hwork⟩
    obtain ⟨x, hfinish, hfrom⟩ := State.finishWork_free hsettled (by rw [hdrain])
    obtain ⟨m', hex⟩ := exec_ends (c := .patternDurationEnd) hs
      (show exec .patternDurationEnd s = .next u.close by rw [← hu]; rfl) hinner hfinish
    have huq : u.stu.queue = { r with state := .draining, drainLeft := some 1600 } :: rs := by rw [hdrain]
    have hureq : u.sha.tReq = 0 := by rw [hdrain]
    rcases hfrom with ⟨hxq, hxg, hxr⟩ | ⟨-, -, -, hpos⟩
    · exact ⟨_, hex, hxq.trans huq, hxg, hxr.trans hureq⟩
    · omega
  · have hwork : s.work = {} := hs.1
    have hend := State.periodEnd_eq hwork hdue
    have hinner := (State.InnerOf.refl (Q := View.consistent) s).periodEnd
    rw [hend] at hinner hrevoked
    have hgrant : (share s.snapshot.shareIn).grant = none := by rw [share_grant, hrevoked]; rfl
    have hgave : (share s.snapshot.shareIn).gave = false := by
      rw [share_revoked, Bool.and_eq_true] at hrevoked
      rw [share_gave]
      cases hg : s.snapshot.shareIn.grant with
      | none => simp [hg] at hrevoked
      | some n => simp
    have hsettled : s.snapshot.settled := by
      rw [State.snapshot, hwork]
      exact ⟨rfl, rfl⟩
    have hcompute (c : State) (hc : ({ s.snapshot with work.alloc := none } : State).computeShare .periodEnd
        (share s.snapshot.shareIn) = c) (hactive : c.stu.active = some r) :
        ({ s.snapshot with work.alloc := none } : State).compute .periodEnd = c.revokeRun r := by
      have hin : ({ s.snapshot with work.alloc := none } : State).shareIn = s.snapshot.shareIn := rfl
      unfold State.compute
      dsimp only
      rw [hin, hgave, hrevoked, hc, hactive]
      rfl
    have hsha := State.computeShare_sha { s.snapshot with work.alloc := none } .periodEnd (share s.snapshot.shareIn)
    obtain ⟨x, hx⟩ := State.computeShare_eq { s.snapshot with work.alloc := none } .periodEnd (share s.snapshot.shareIn)
    rw [hx] at hsha
    generalize hc : State.withAlloc { s.snapshot with work.alloc := none } x = c at hx hsha
    have hcq : c.stu = s.stu := by rw [← hc]; rfl
    have hcwork : c.work = {} := by
      rw [← hc]
      show ({ s.work with alloc := none } : Work) = {}
      rw [hwork]
    have hactive : c.stu.active = some r := by
      rw [hcq]
      exact Stu.active_cons hq (by simp [hstate])
    obtain ⟨d, m, hrun⟩ := State.revokeRun_eq (hcq.symm ▸ hq : c.stu.queue = [r]) hstate hround
    have hcomputed := (hcompute c hx hactive).trans hrun
    have hfinish := (State.finishWork_endEvent s.snapshot).trans (congrArg State.endEvent
      (State.doWork_computed hsettled rfl hcomputed ⟨congrArg Work.acts hcwork, rfl⟩ (congrArg Work.alloc hcwork) 47))
    obtain ⟨m', hex⟩ := exec_ends (c := .allocationPeriodEnd) hs
      (show exec .allocationPeriodEnd s = .next s.snapshot.close by
        show Host.Outcome.next s.periodEnd.close = _
        rw [hend]) hinner hfinish
    have hkind' : (share s.snapshot.shareIn).kind .periodEnd = .event := by simp [ShareOut.kind, hrevoked]
    have hstands : c.releaseStands = true ↔ r.entry.duration ≤ r.fig.frames ∨ s.lfr.rx.framer = .down
        ∨ (s.lfr.tx.framer = .normal ∧ s.fallbackCond = true) ∨ (s.pins.carriageHold = true ∧ s.lfr.tx.hold = false) := by
      have hduration : c.stu.durationDone = decide (r.entry.duration ≤ r.fig.frames) :=
        Stu.durationDone_running hactive hstate hkind
      have hlfr : c.lfr.rx = s.lfr.rx ∧ c.lfr.tx.framer = s.lfr.tx.framer ∧ c.fallbackCond = s.fallbackCond
          ∧ c.pins = s.pins ∧ c.lfr.tx.hold = s.lfr.tx.hold := by
        rw [← hc]
        exact ⟨rfl, rfl, rfl, rfl, rfl⟩
      obtain ⟨h1, h2, h3, h4, h5⟩ := hlfr
      simp only [State.releaseStands, hduration, h1, h2, h3, h4, h5, Bool.or_eq_true, Bool.and_eq_true, decide_eq_true_eq,
        Bool.not_eq_true', or_assoc]
    refine ⟨_, hex, rfl, ?_, ?_, ?_, ?_, ⟨c.recordOf r .aborted .revoked, s.stu.log.take 15, ?_, rfl, rfl, rfl⟩, ?_⟩
    · show c.sha.grant = none
      rw [hsha]
      exact hgrant
    · show c.sha.tReq = 0
      rw [hsha]
      show (share s.snapshot.shareIn).tReq = 0
      rw [share_tReq, hrevoked]
      rfl
    · show c.sha.newest.counts.test = 0
      rw [hsha]
      show (share s.snapshot.shareIn).counts.test = 0
      rw [share_test, hgrant]
      rfl
    · show c.sha.newest.kind = some .event
      rw [hsha, ← hkind']
    · show (c.recordOf r .aborted .revoked :: c.stu.log).take 16 = _
      rw [hcq]
      rfl
    · show (c.stu.lateRelease || c.releaseStands) = true ↔ _
      rw [Bool.or_eq_true, hstands, hcq]
  · have hwork : s.work = {} := hs.1
    have hdrain : s.drainRun = { s with stu.lateRelease := false, work.alloc := some .test } :=
      (State.drainRun_late hdone).trans (State.settleRelease_late hwork hlate)
    have hinner := (State.InnerOf.refl (Q := View.consistent) s).drainRun
    generalize hu : s.drainRun = u at hdrain hinner
    have hsettled : u.settled := by
      rw [hdrain]
      exact ⟨congrArg Work.acts hwork, congrArg Work.runDue hwork⟩
    have hualloc : u.work.alloc = some .test := by rw [hdrain]
    have hureq : u.sha.tReq = 0 := by rw [hdrain]; exact htReq
    have hugrant : u.sha.grant = none := by rw [hdrain]; exact hgrant
    have hustu : u.stu = { s.stu with lateRelease := false } := by rw [hdrain]
    have hutpt : u.tpt = s.tpt ∧ u.lfr.tx.map = s.lfr.tx.map := by rw [hdrain]; exact ⟨rfl, rfl⟩
    have hgave : (share u.shareIn).gave = false := by
      have hreq : u.shareIn.tReq = 0 := hureq
      rw [share_gave]
      simp [hreq]
    obtain ⟨q, k, v, m, hfinish, hkept⟩ := State.finishWork_computed hsettled hualloc hugrant
    obtain ⟨rfl, rfl⟩ := hkept hgave
    obtain ⟨m', hex⟩ := exec_ends (c := .patternDurationEnd) hs
      (show exec .patternDurationEnd s = .next u.close by rw [← hu]; rfl) hinner hfinish
    have hsha := State.computeShare_sha { u with work.alloc := none } .test (share u.shareIn)
    obtain ⟨x, hx⟩ := State.computeShare_eq { u with work.alloc := none } .test (share u.shareIn)
    have hkeeps : (({ u with work.alloc := none } : State).computeShare .test (share u.shareIn)).tpt = u.tpt
        ∧ (({ u with work.alloc := none } : State).computeShare .test (share u.shareIn)).lfr.tx.map = u.lfr.tx.map := by
      rw [hx]
      exact ⟨rfl, rfl⟩
    generalize ({ u with work.alloc := none } : State).computeShare .test (share u.shareIn) = w at hex hsha hkeeps
    refine ⟨_, hex, ?_, ?_, ?_, ?_, hkeeps.1.trans hutpt.1, hkeeps.2.trans hutpt.2⟩
    · show ({ u.stu with queue := u.stu.queue, kept := u.stu.kept, removed := [] } : Stu) = _
      rw [hustu]
      have hremoved : s.stu.removed = [] := hs.2.1
      rw [← hremoved]
    · show w.sha.grant = none
      rw [hsha]
      show (share u.shareIn).grant = none
      rw [share_grant, hgave, share_not_revoked hugrant]
      exact hugrant
    · show w.sha.record.isSome = true
      rw [hsha]
      rfl
    · show w.sha.newest.kind = some .event
      rw [hsha]
      show some ((share u.shareIn).kind .test) = some .event
      rw [ShareOut.kind]
      split
      · rfl
      · rfl

end Sys2Proof.Machine
end

section
/-! PROOFS. What the edits of an event's end leave of the link, the loop and the runs. -/

namespace Sys2Proof.Machine

/-- What only a restart of the receive framer changes: the receive side, the references, the loop, the wish and its
windows. -/
structure State.Unreseeked (s t : State) : Prop where
  rx : t.lfr.rx = s.lfr.rx
  rfm : t.rfm = s.rfm
  dsu : t.dsu = s.dsu
  lau : { t.lau with ceiling := 0 } = { s.lau with ceiling := 0 }

theorem State.Unreseeked.refl (s : State) : s.Unreseeked s := ⟨rfl, rfl, rfl, rfl⟩

theorem State.Unreseeked.trans {s t u : State} (h : s.Unreseeked t) (g : t.Unreseeked u) : s.Unreseeked u :=
  ⟨g.rx.trans h.rx, g.rfm.trans h.rfm, g.dsu.trans h.dsu, g.lau.trans h.lau⟩

theorem State.Edit.unreseeked {C : Cause → Prop} (hC : ¬ C .reseek) {s t : State} (e : State.Edit C s t) :
    s.Unreseeked t := by
  cases e with
  | raise hm hr d =>
    obtain ⟨f, c, m, as, heq, -⟩ := State.raise_eq s ⟨_, d, s.raisePhase⟩
    rw [State.raiseNow, heq]
    exact ⟨rfl, rfl, rfl, rfl⟩
  | dropPeer h | adaptDown h | refDown h | hunt h | unconfirm h => exact absurd h hC
  | offer hr m =>
    have hrx : (s.offer m).lfr.rx = s.lfr.rx := by
      unfold State.offer
      split <;> rfl
    exact ⟨hrx, by simp, by simp, by simp⟩
  | clear | bar | hold | tryActive => exact ⟨by simp, by simp, by simp, by simp⟩
  | port | work | site | halted | stopRead | alloc | runs => exact ⟨rfl, rfl, rfl, rfl⟩

/-- Without a restart of the receive framer an event's end changes none of that. -/
theorem State.Worked.unreseeked {C : Cause → Prop} (hC : ¬ C .reseek) {s t : State} (h : s.Worked C t) :
    s.Unreseeked t :=
  h.keeps (P := s.Unreseeked) (fun _ _ e hs => hs.trans (e.unreseeked hC)) (State.Unreseeked.refl s)

end Sys2Proof.Machine
end

section
/-! PROOFS. The end of a margin window (R44 to R48). -/

namespace Sys2Proof.Machine

/-! ### The wish -/

/-- The profile that R45's first case gives: the highest lower one whose down threshold the average reaches, or 0. -/
theorem Lau.highestBelow_spec (a : Lau) (avg p : Nat) : (p ≠ 0 → a.highestBelow avg p < p)
    ∧ (a.highestBelow avg p = 0 ∨ a.downOf (a.highestBelow avg p) ≤ avg)
    ∧ ∀ q, a.highestBelow avg p < q → q < p → avg < a.downOf q := by
  induction p with
  | zero => exact ⟨fun h => absurd rfl h, .inl rfl, fun q _ h => absurd h (Nat.not_lt_zero q)⟩
  | succ p ih =>
    obtain ⟨hlt, hreach, habove⟩ := ih
    unfold Lau.highestBelow
    split
    · next hle => exact ⟨fun _ => Nat.lt_succ_self p, .inr hle, fun q h1 h2 => by omega⟩
    · next hgt =>
      refine ⟨fun _ => ?_, hreach, fun q h1 h2 => ?_⟩
      · by_cases h0 : p = 0
        · subst h0
          exact Nat.lt_succ_self 0
        · exact (hlt h0).trans (Nat.lt_succ_self p)
      · by_cases hq : q = p
        · subst hq
          exact Nat.not_le.1 hgt
        · exact habove q h1 (by omega)

theorem State.setWish_eq (s : State) (w : Nat) : ∃ m, s.setWish w = { s with lau.wish := w, mp := m } := by
  unfold State.setWish
  split
  · next h => exact ⟨s.mp, by rw [← h]⟩
  · exact ⟨_, rfl⟩

/-- The end of a margin window: the unit's own part, and what the floor streak brings. -/
theorem State.marginWindow_eq {s : State} (h : s.lau.windowDone = true) : ∃ m, s.marginWindow =
    { ({ s with lau := { s.lau with
        winSlots := 0, winSum := 0, upStreak := (s.lau.window s.lfr.rx.prof (s.lau.winSum / 32)).2 } } : State).floorWindow
        (s.lau.winSum / 32) with
      lau := { (({ s with lau := { s.lau with
          winSlots := 0, winSum := 0, upStreak := (s.lau.window s.lfr.rx.prof (s.lau.winSum / 32)).2 } } : State).floorWindow
          (s.lau.winSum / 32)).lau with
        wish := if s.lau.fix.isSome then s.lau.wish else (s.lau.window s.lfr.rx.prof (s.lau.winSum / 32)).1 }
      mp := m } := by
  have hfloor (t : State) (avg : Nat) : (t.floorWindow avg).lau.fix = t.lau.fix ∧ (t.floorWindow avg).lau.wish = t.lau.wish := by
    unfold State.floorWindow
    dsimp only
    split
    · split
      · split
        · obtain ⟨f, c, m, as, heq, -⟩ := State.raise_eq ({ t with lau.floorStreak := min 255 (t.lau.floorStreak + 1) })
            ⟨rowProfileFloor, 0, ({ t with lau.floorStreak := min 255 (t.lau.floorStreak + 1) } : State).raisePhase⟩
          rw [State.raiseNow, heq]
          exact ⟨rfl, rfl⟩
        · exact ⟨rfl, rfl⟩
      · simp
    · exact ⟨rfl, rfl⟩
  unfold State.marginWindow
  rw [if_pos h]
  dsimp only
  obtain ⟨hfix, hwish⟩ := hfloor ({ s with lau := { s.lau with
    winSlots := 0, winSum := 0, upStreak := (s.lau.window s.lfr.rx.prof (s.lau.winSum / 32)).2 } }) (s.lau.winSum / 32)
  generalize ({ s with lau := { s.lau with
    winSlots := 0, winSum := 0, upStreak := (s.lau.window s.lfr.rx.prof (s.lau.winSum / 32)).2 } } : State).floorWindow
      (s.lau.winSum / 32) = t at hfix hwish
  replace hfix : t.lau.fix = s.lau.fix := hfix
  replace hwish : t.lau.wish = s.lau.wish := hwish
  by_cases hsome : s.lau.fix.isSome = true
  · rw [if_pos (show t.lau.fix.isSome = true by rw [hfix, hsome]), if_pos hsome, ← hwish]
    exact ⟨t.mp, rfl⟩
  · rw [if_neg (show ¬ t.lau.fix.isSome = true by rwa [hfix]), if_neg hsome]
    exact State.setWish_eq t _

/-- The wish and the upshift streak by R45. -/
theorem Lau.window_table (a : Lau) (p avg : Nat) :
    let low := avg < a.downOf p
    let high := a.downOf p ≤ avg ∧ p < 7 ∧ a.upOf (p + 1) ≤ avg
    (a.window p avg).2 = (if high ∧ a.upStreak + 1 ≠ 8 then a.upStreak + 1 else 0)
    ∧ (low → p = 0 → (a.window p avg).1 = 0)
    ∧ (low → p ≠ 0 → (a.window p avg).1 < p
      ∧ ((a.window p avg).1 = 0 ∨ a.downOf (a.window p avg).1 ≤ avg)
      ∧ ∀ q, (a.window p avg).1 < q → q < p → avg < a.downOf q)
    ∧ (high → (a.window p avg).1 = (if a.upStreak + 1 = 8 then p + 1 else a.wish))
    ∧ (¬ low → ¬ high → (a.window p avg).1 = a.wish) := by
  intro low high
  unfold Lau.window
  by_cases hlow : avg < a.downOf p
  · have hnh : ¬ high := fun h => Nat.not_le.2 hlow h.1
    obtain ⟨hlt, hreach, habove⟩ := Lau.highestBelow_spec a avg p
    rw [if_pos hlow]
    refine ⟨(if_neg fun h => hnh h.1).symm, fun _ h0 => ?_, fun _ h0 => ⟨hlt h0, hreach, habove⟩, fun h => absurd h hnh,
      fun h => absurd hlow h⟩
    subst h0
    rfl
  · have hle : a.downOf p ≤ avg := Nat.not_lt.1 hlow
    rw [if_neg hlow]
    by_cases hhigh : p < 7 ∧ a.upOf (p + 1) ≤ avg
    · have hh : high := ⟨hle, hhigh⟩
      rw [if_pos hhigh]
      by_cases h8 : a.upStreak + 1 = 8
      · rw [if_pos h8]
        exact ⟨(if_neg fun h => h.2 h8).symm, fun h => absurd h hlow, fun h => absurd h hlow, fun _ => (if_pos h8).symm,
          fun _ h => absurd hh h⟩
      · rw [if_neg h8]
        exact ⟨(if_pos ⟨hh, h8⟩).symm, fun h => absurd h hlow, fun h => absurd h hlow, fun _ => (if_neg h8).symm,
          fun _ h => absurd hh h⟩
    · have hnh : ¬ high := fun h => hhigh h.2
      rw [if_neg hhigh]
      exact ⟨(if_neg fun h => hnh h.1).symm, fun h => absurd h hlow, fun h => absurd h hlow, fun h => absurd h hnh,
        fun _ _ => rfl⟩

/-- The unit after a margin window, but for its floor streak and the ceiling. -/
structure Lau.Windowed (a b : Lau) (p : Nat) : Prop where
  slots : b.winSlots = 0 ∧ b.winSum = 0
  fix : b.fix = a.fix
  streak : b.upStreak = (a.window p (a.winSum / 32)).2
  wish : b.wish = if a.fix.isSome then a.wish else (a.window p (a.winSum / 32)).1

theorem State.floorWindow_above {s : State} (h : s.lfr.rx.prof ≠ 0) (avg : Nat) : s.floorWindow avg = s := if_neg h

/-- A window at or above the down threshold of P0 (R47). -/
theorem State.floorWindow_reached {s : State} (h : s.lfr.rx.prof = 0) {avg : Nat} (hlow : ¬ avg < s.lau.downOf 0) :
    ∃ f m, s.floorWindow avg = { s with lau.floorStreak := 0, fmn := f, mp := m } ∧ (f.row 3).active = false := by
  have hrow := State.clear_inactive { s with lau.floorStreak := 0 } rowProfileFloor
  obtain ⟨f, m, heq⟩ := State.clear_eq { s with lau.floorStreak := 0 } rowProfileFloor
  rw [heq] at hrow
  exact ⟨f, m, (if_pos h).trans ((if_neg hlow).trans heq), hrow⟩

/-- A window below it (R47). -/
theorem State.floorWindow_low {s : State} (h : s.lfr.rx.prof = 0) {avg : Nat} (hlow : avg < s.lau.downOf 0) :
    s.floorWindow avg = if s.lau.floorStreak = 31
      then ({ s with lau.floorStreak := min 255 (s.lau.floorStreak + 1) } : State).raiseNow 3 0
      else { s with lau.floorStreak := min 255 (s.lau.floorStreak + 1) } := by
  have h32 : min 255 (s.lau.floorStreak + 1) = 32 ↔ s.lau.floorStreak = 31 := by omega
  unfold State.floorWindow
  rw [if_pos h, if_pos hlow]
  dsimp only
  simp only [h32]
  rfl

/-- Settles O41. -/
theorem marginWindowSetsWish : Obligations.MarginWindowSetsWish := by
  intro s hs hdone hrows p avg low high hnever
  obtain ⟨m, hu⟩ := State.marginWindow_eq hdone
  have hinner := (State.InnerOf.refl (Q := View.consistent) s).marginWindow
  have htable := Lau.window_table s.lau p avg
  have hfields {b : Lau} (hb : s.lau.Windowed b p) : b.winSlots = 0 ∧ b.winSum = 0 ∧ b.fix = s.lau.fix
      ∧ b.upStreak = (if high ∧ s.lau.upStreak + 1 ≠ 8 then s.lau.upStreak + 1 else 0)
      ∧ (s.lau.fix.isSome = true → b.wish = s.lau.wish)
      ∧ (s.lau.fix = none →
        (low → p = 0 → b.wish = 0)
        ∧ (low → p ≠ 0 → b.wish < p ∧ (b.wish = 0 ∨ s.lau.downOf b.wish ≤ avg)
          ∧ ∀ q, b.wish < q → q < p → avg < s.lau.downOf q)
        ∧ (high → b.wish = (if s.lau.upStreak + 1 = 8 then p + 1 else s.lau.wish))
        ∧ (¬ low → ¬ high → b.wish = s.lau.wish)) := by
    obtain ⟨hstreak, hwish⟩ := htable
    refine ⟨hb.slots.1, hb.slots.2, hb.fix, hb.streak.trans hstreak, fun hfix => hb.wish.trans (if_pos hfix), fun hfix => ?_⟩
    rw [hb.wish.trans (if_neg (by simp [hfix]))]
    exact hwish
  have hidle {f : Fmn} {l : Lau} {k : Mp} (heq : s.marginWindow = { s with fmn := f, lau := l, mp := k }) :
      ∃ n, exec .marginWindowEnd s = .next { s with fmn := f, lau := l, mp := n } := by
    rw [heq] at hinner
    have hfinish : ({ s with fmn := f, lau := l, mp := k } : State).finishWork = { s with fmn := f, lau := l, mp := k } :=
      State.finishWork_idle hs.1.1 hs.1.2.1
    exact exec_ends hs.1 (show exec .marginWindowEnd s = .next ({ s with fmn := f, lau := l, mp := k } : State).close by
      rw [← heq]; rfl) hinner hfinish
  by_cases hp : p = 0
  · by_cases hlow : low
    · have hlow0 : avg < s.lau.downOf 0 := hp ▸ hlow
      have hfloor := State.floorWindow_low (s := { s with lau := { s.lau with
        winSlots := 0, winSum := 0, upStreak := (s.lau.window s.lfr.rx.prof (s.lau.winSum / 32)).2 } }) hp hlow0
      by_cases h31 : s.lau.floorStreak = 31
      · rw [if_pos h31] at hfloor
        generalize hv : ({ s with lau := { s.lau with
          winSlots := 0, winSum := 0, upStreak := (s.lau.window s.lfr.rx.prof (s.lau.winSum / 32)).2
          floorStreak := min 255 (s.lau.floorStreak + 1) } } : State) = v at hfloor
        replace hfloor : _ = v.raiseNow 3 0 := hfloor
        have hacts : v.work.acts = [] := by
          rw [← hv]
          exact congrArg Work.acts hs.1.1
        have hvfmn : v.fmn = s.fmn := by rw [← hv]
        have hreseek : s.fmn.answersNever .reseek := (hnever.resolve_left fun h => h hp).resolve_left fun h => h h31
        have hraised := State.raise_never (k := .reseek) (s := v) ⟨3, 0, v.raisePhase⟩ ⟨hvfmn.symm ▸ hreseek, by simp [hacts]⟩
        have hrow : ((v.raiseNow 3 0).fmn.row 3).active = true := State.raiseNow_active (hvfmn ▸ hrows) (by decide) 0
        obtain ⟨f, c, k, as, heq, -⟩ := State.raise_eq v ⟨3, 0, v.raisePhase⟩
        rw [hfloor] at hu
        replace heq : v.raiseNow 3 0 = _ := heq
        replace hraised : (v.raiseNow 3 0).fmn.answersNever .reseek ∧ ∀ a ∈ (v.raiseNow 3 0).work.acts, a.cause ≠ .reseek :=
          hraised
        rw [heq] at hu hrow hraised
        have hexec : exec .marginWindowEnd s = .next s.marginWindow.close := rfl
        generalize s.marginWindow = u at hu hinner hexec
        obtain ⟨n, hex⟩ := exec_ends hs.1 hexec hinner rfl
        have huraised : u.fmn.answersNever .reseek ∧ ∀ a ∈ u.work.acts, a.cause ≠ .reseek := by
          rw [hu]
          exact hraised
        have hwindowed : s.lau.Windowed u.lau p ∧ u.lau.floorStreak = min 255 (s.lau.floorStreak + 1) := by
          rw [hu, ← hv]
          exact ⟨⟨⟨rfl, rfl⟩, rfl, rfl, rfl⟩, rfl⟩
        have hurow : u.fmn.seen 3 = (true, (u.fmn.row 3).detail) := by
          rw [hu, Fmn.seen, show (f.row 3).active = true from hrow]
        have hworked := State.Worked.finishWork_never (k := .reseek) (by simp) huraised.1 huraised.2
        have hlau := (hworked.unreseeked (by simp)).lau
        have hactive := hworked.keeps (fun _ _ e => (FaultsOnly.active (q := 3) (by simp [clearedRow]) _).edit e) hurow
        generalize u.finishWork = w at hex hlau hactive
        obtain ⟨⟨hslots, hfix, hstreak, hwish⟩, hfloor'⟩ := hwindowed
        obtain ⟨h1, h2, h3, h4, h5, h6⟩ := hfields (b := w.lau)
          ⟨⟨(congrArg Lau.winSlots hlau :).trans hslots.1, (congrArg Lau.winSum hlau :).trans hslots.2⟩,
            (congrArg Lau.fix hlau :).trans hfix, (congrArg Lau.upStreak hlau :).trans hstreak,
            (congrArg Lau.wish hlau :).trans hwish⟩
        exact ⟨_, hex, h1, h2, h3, fun h => absurd hp h, h4, h5, h6,
          fun _ _ => ⟨(congrArg Lau.floorStreak hlau :).trans hfloor', fun _ => congrArg Prod.fst hactive,
            fun h => absurd h31 h⟩, fun _ h => absurd hlow h⟩
      · rw [if_neg h31] at hfloor
        rw [hfloor] at hu
        obtain ⟨n, hex⟩ := hidle hu
        obtain ⟨h1, h2, h3, h4, h5, h6⟩ := hfields (b := { s.lau with
          winSlots := 0, winSum := 0, upStreak := (s.lau.window s.lfr.rx.prof (s.lau.winSum / 32)).2
          floorStreak := min 255 (s.lau.floorStreak + 1)
          wish := if s.lau.fix.isSome then s.lau.wish else (s.lau.window s.lfr.rx.prof (s.lau.winSum / 32)).1 })
          ⟨⟨rfl, rfl⟩, rfl, rfl, rfl⟩
        exact ⟨_, hex, h1, h2, h3, fun h => absurd hp h, h4, h5, h6, fun _ _ => ⟨rfl, fun h => absurd h h31, fun _ => rfl⟩,
          fun _ h => absurd hlow h⟩
    · have hlow0 : ¬ avg < s.lau.downOf 0 := hp ▸ hlow
      obtain ⟨f, k, hfloor, hrow⟩ := State.floorWindow_reached (s := { s with lau := { s.lau with
        winSlots := 0, winSum := 0, upStreak := (s.lau.window s.lfr.rx.prof (s.lau.winSum / 32)).2 } }) hp hlow0
      rw [hfloor] at hu
      obtain ⟨n, hex⟩ := hidle hu
      obtain ⟨h1, h2, h3, h4, h5, h6⟩ := hfields (b := { s.lau with
        winSlots := 0, winSum := 0, upStreak := (s.lau.window s.lfr.rx.prof (s.lau.winSum / 32)).2, floorStreak := 0
        wish := if s.lau.fix.isSome then s.lau.wish else (s.lau.window s.lfr.rx.prof (s.lau.winSum / 32)).1 })
        ⟨⟨rfl, rfl⟩, rfl, rfl, rfl⟩
      exact ⟨_, hex, h1, h2, h3, fun h => absurd hp h, h4, h5, h6, fun _ h => absurd h hlow, fun _ _ => ⟨rfl, hrow⟩⟩
  · rw [State.floorWindow_above (s := { s with lau := { s.lau with
      winSlots := 0, winSum := 0, upStreak := (s.lau.window s.lfr.rx.prof (s.lau.winSum / 32)).2 } }) hp] at hu
    obtain ⟨n, hex⟩ := hidle hu
    obtain ⟨h1, h2, h3, h4, h5, h6⟩ := hfields (b := { s.lau with
      winSlots := 0, winSum := 0, upStreak := (s.lau.window s.lfr.rx.prof (s.lau.winSum / 32)).2
      wish := if s.lau.fix.isSome then s.lau.wish else (s.lau.window s.lfr.rx.prof (s.lau.winSum / 32)).1 })
      ⟨⟨rfl, rfl⟩, rfl, rfl, rfl⟩
    exact ⟨_, hex, h1, h2, h3, fun _ => ⟨rfl, rfl⟩, h4, h5, h6, fun h => absurd h hp, fun h => absurd h hp⟩

end Sys2Proof.Machine
end

section
/-! PROOFS. The end of a level window, and the way out of ALIGN (R11 to R16). -/

namespace Sys2Proof.Machine

/-! ### The record -/

theorem AlignRecord.window_follows (r : AlignRecord) (avg : Int) (now : SiteTime) (expect : Int) :
    (r.window avg now expect).follows r avg now expect := by
  unfold AlignRecord.window AlignRecord.follows
  cases hp : r.peak with
  | none => simp
  | some p =>
    by_cases h1 : p < avg
    · simp only [h1, if_true]
      refine ⟨trivial, by simp, fun q hq _ => by simp, fun q hq h2 h3 => ?_, fun q hq h2 => ?_, ?_⟩
      · cases hq
        omega
      · cases hq
        omega
      · simp
    · by_cases h2 : p - 10 ≤ avg
      · simp only [h1, h2, if_true, if_false]
        refine ⟨trivial, by simp, fun q hq h3 => ?_, fun q hq _ _ => ?_, fun q hq h3 => ?_, ?_⟩
        · cases hq
          omega
        · cases hq
          exact ⟨rfl, trivial, trivial⟩
        · cases hq
          omega
        · simp
      · simp only [h1, h2, if_false]
        refine ⟨trivial, by simp, fun q hq h3 => ?_, fun q hq h3 _ => ?_, fun q hq _ => ?_, ?_⟩
        · cases hq
          omega
        · cases hq
          omega
        · cases hq
          exact ⟨rfl, trivial, trivial⟩
        · simp

/-- After a window the record has an average and a peak, and the lamp follows them (R15). -/
theorem AlignRecord.window_lamp (r : AlignRecord) (avg : Int) (now : SiteTime) (expect : Int) :
    (r.window avg now expect).lamp = decide ((r.window avg now expect).peak.getD 0 - 10 ≤ avg) := by
  have hfields : (r.window avg now expect).avg = some avg ∧ (r.window avg now expect).peak.isSome = true := by
    unfold AlignRecord.window
    cases r.peak with
    | none => exact ⟨rfl, rfl⟩
    | some p =>
      dsimp only
      split
      · exact ⟨rfl, rfl⟩
      · split
        · exact ⟨rfl, rfl⟩
        · exact ⟨rfl, rfl⟩
  obtain ⟨havg, hpeak⟩ := hfields
  obtain ⟨p, hp⟩ := Option.isSome_iff_exists.1 hpeak
  unfold AlignRecord.lamp
  rw [havg, hp]
  rfl

/-! ### The way out of ALIGN -/

/-- What the end of an event keeps of the phase record once the window is over and the lamp is off. -/
def State.windowOver (s : State) (r : AlignRecord) : Prop :=
  s.spc.record = r ∧ s.spc.winSlots = 0 ∧ s.spc.winSum = 0 ∧ s.spc.led = false

theorem State.Edit.windowOver {C : Cause → Prop} {s t : State} (e : State.Edit C s t) {r : AlignRecord}
    (h : s.windowOver r) : t.windowOver r := by
  have hsame {u : State} (hu : u.spc = s.spc) : u.windowOver r := by
    unfold State.windowOver
    rw [hu]
    exact h
  cases e with
  | site hC c hc =>
    obtain ⟨hrecord, hslots, hsum, hled⟩ := h
    rcases hc.window with ⟨h1, h2, h3⟩ | ⟨h1, h2, h3⟩
    · exact ⟨hc.record.trans hrecord, h1.trans hslots, h2.trans hsum, h3.trans hled⟩
    · exact ⟨hc.record.trans hrecord, h1, h2, h3⟩
  | raise | clear | bar | hold | tryActive | adaptDown | refDown | offer => exact hsame (by simp)
  | port | work | dropPeer | hunt | unconfirm | halted | stopRead | alloc | runs => exact hsame rfl

theorem State.windowOver_moved {s : State} {r : AlignRecord} (h : s.spc.record = r) (p : Phase) (c : PhaseCause)
    (v : ProveState) (n : Nat) : (s.movePhase p c v n).windowOver r := by
  unfold State.windowOver
  rw [State.movePhase_spc]
  exact ⟨h, rfl, rfl, rfl⟩

/-- An entry to PROVE, with whatever runs are queued, keeps the record and leaves the window and the lamp off. -/
theorem State.enterProve_windowOver {s : State} {r : AlignRecord} (h : s.windowOver r) (c : PhaseCause) :
    (s.enterProve c).windowOver r := by
  unfold State.enterProve
  split
  · have hmoved := State.windowOver_moved h.1 .prove c .passed 0
    have hworked := (State.Worked.refl (C := fun _ => True) (s.movePhase .prove c .passed 0)).enterService (.inl trivial)
      .proveEmpty .passed 0
    exact hworked.keeps (fun _ _ e => e.windowOver) hmoved
  · have hmoved := State.windowOver_moved h.1 .prove c .round 1
    unfold State.windowOver at hmoved ⊢
    rw [(State.requestRound_frame _).2.2.1]
    exact hmoved

/-- The end of an event that enters PROVE with no BRINGUP entry (R16). -/
theorem State.finishWork_enterProve_service {s : State} (hq : s.stu.queue = []) (hacts : s.work.acts = [])
    (hentries : s.stu.entriesOf .bringup = []) (c : PhaseCause) : ∃ x a, (s.enterProve c).finishWork =
      (((s.movedTo .prove c).movedTo .service .proveEmpty).telling x).allocated a := by
  obtain ⟨x, hx, -⟩ := State.enterProve_service hq hentries c
  obtain ⟨a, ha⟩ := State.finishWork_quiet (s := ((s.movedTo .prove c).movedTo .service .proveEmpty).telling x) hacts hq
  exact ⟨x, a, (congrArg State.finishWork hx).trans ha⟩

/-- A move of the phase from one that no run and no tenant waits on. -/
theorem State.movePhase_plain {s : State} (hp : s.spc.phase ≠ .prove) (hs : s.spc.phase ≠ .service) (p : Phase)
    (c : PhaseCause) (v : ProveState) (n : Nat) : ∃ m, s.movePhase p c v n = { s.movedTo p c with mp := m } := by
  have hleave (t : State) : t.leaveEffects s.spc.phase p c = t := by
    unfold State.leaveEffects
    split
    · next h => exact absurd h hp
    · next h => exact absurd h hs
    all_goals rfl
  unfold State.movePhase
  dsimp only
  rw [hleave]
  split
  · exact ⟨_, rfl⟩
  · exact ⟨_, rfl⟩

/-- With no work left the event ends. -/
theorem State.finishWork_settled {s : State} (h : s.settled) (halloc : s.work.alloc = none) : s.finishWork = s.endEvent := by
  rw [State.finishWork_endEvent, State.doWork_done h halloc]

/-- The state once the window has been taken into the record. -/
def State.aligned (s : State) (expect : Int) : State :=
  { s with spc := { s.spc with
    record := s.spc.record.window (s.spc.winSum / 64) s.dsu.time expect
    led := (s.spc.record.window (s.spc.winSum / 64) s.dsu.time expect).lamp, winSlots := 0, winSum := 0 } }

theorem State.alignWindow_eq {s : State} {l : LinkSet} (hdone : s.spc.windowDone = true) (hlink : s.il.link = some l) :
    s.alignWindow = if (s.aligned l.expect).spc.record.settled && l.autoExit
      then (s.aligned l.expect).leaveAlign .alignSettled else s.aligned l.expect := by
  unfold State.alignWindow
  rw [if_pos hdone]
  simp only [hlink]
  rfl

/-- Settles O42. -/
theorem alignWindowUpdatesRecord : Obligations.AlignWindowUpdatesRecord := by
  intro s l hs hdone hlink avg
  have hphase : s.spc.phase = .align := by
    simp only [Spc.windowDone, Bool.and_eq_true, decide_eq_true_eq] at hdone
    exact hdone.1
  have heq := State.alignWindow_eq hdone hlink
  have hfollows : (s.aligned l.expect).spc.record.follows s.spc.record avg s.dsu.time l.expect :=
    AlignRecord.window_follows _ _ _ _
  have hexec : exec .alignWindowEnd s = .next s.alignWindow.close := rfl
  by_cases hexit : (s.aligned l.expect).spc.record.settled = true ∧ l.autoExit = true
  · obtain ⟨hsettled, hauto⟩ := hexit
    rw [if_pos (by simp [hsettled, hauto])] at heq
    have hinner := (State.InnerOf.refl (Q := View.consistent) s).alignWindow
    rw [heq] at hinner hexec
    obtain ⟨m, hseek⟩ := State.movePhase_plain (s := s.aligned l.expect) (by simp [State.aligned, hphase])
      (by simp [State.aligned, hphase]) .seek .alignSettled .idle 0
    have hseek' : (s.aligned l.expect).enterSeek .alignSettled =
        { (s.aligned l.expect).movedTo .seek .alignSettled with mp := m } := hseek
    have hstill : ¬ (l.autoExit = false ∨ (s.aligned l.expect).spc.record.settled = false) := by simp [hauto, hsettled]
    by_cases hup : s.lfr.rx.framer = .up
    · have hleave : (s.aligned l.expect).leaveAlign .alignSettled =
          ({ (s.aligned l.expect).movedTo .seek .alignSettled with mp := m } : State).enterProve .alignSettled := by
        unfold State.leaveAlign
        dsimp only
        rw [hseek']
        exact if_pos hup
      rw [hleave] at hinner hexec
      have hover := State.enterProve_windowOver (s := { (s.aligned l.expect).movedTo .seek .alignSettled with mp := m })
        ⟨rfl, rfl, rfl, rfl⟩ .alignSettled
      have hover' := (State.Worked.finishWork_any _).keeps (fun _ _ e => e.windowOver) hover
      have hacts : ({ (s.aligned l.expect).movedTo .seek .alignSettled with mp := m } : State).work.acts = [] :=
        congrArg Work.acts hs.1.1
      have hempty (hq : s.stu.queue = []) (hentries : s.stu.entriesOf .bringup = []) :
          (({ (s.aligned l.expect).movedTo .seek .alignSettled with mp := m } : State).enterProve
            .alignSettled).finishWork.spc.phase = .service
          ∧ (({ (s.aligned l.expect).movedTo .seek .alignSettled with mp := m } : State).enterProve
            .alignSettled).finishWork.spc.left = .prove
          ∧ (({ (s.aligned l.expect).movedTo .seek .alignSettled with mp := m } : State).enterProve
            .alignSettled).finishWork.spc.cause = .proveEmpty := by
        obtain ⟨x, a, ha⟩ := State.finishWork_enterProve_service
          (s := { (s.aligned l.expect).movedTo .seek .alignSettled with mp := m }) hq hacts hentries .alignSettled
        rw [ha]
        exact ⟨rfl, rfl, rfl⟩
      have hround (hq : s.stu.queue = []) (hentries : s.stu.entriesOf .bringup ≠ []) (hstay : s.runsStay) := by
        exact State.finishWork_enterProve
          (s := { (s.aligned l.expect).movedTo .seek .alignSettled with mp := m }) hq hacts hentries hstay .alignSettled
      obtain ⟨n, hex⟩ := exec_ends hs.1 hexec hinner rfl
      generalize (({ (s.aligned l.expect).movedTo .seek .alignSettled with mp := m } : State).enterProve
        .alignSettled).finishWork = w at hex hover' hempty hround
      obtain ⟨hrecord, hslots, hsum, hled⟩ := hover'
      refine ⟨_, hex, hslots, hsum, hrecord.symm ▸ hfollows, fun h => absurd (hrecord ▸ h) hstill, fun _ _ => ⟨hled,
        fun h => absurd hup h, fun _ => hempty, fun _ hq hentries hstay => ?_⟩⟩
      obtain ⟨y, x, id, hw, -, hidx, hruns⟩ := hround hq hentries hstay
      rw [hw]
      exact ⟨rfl, rfl, rfl, rfl, rfl, hidx, hruns⟩
    · have hleave : (s.aligned l.expect).leaveAlign .alignSettled =
          { (s.aligned l.expect).movedTo .seek .alignSettled with mp := m } := by
        unfold State.leaveAlign
        dsimp only
        rw [hseek']
        exact if_neg hup
      rw [hleave] at hinner hexec
      have hfinish := State.finishWork_settled
        (s := { (s.aligned l.expect).movedTo .seek .alignSettled with mp := m })
        ⟨congrArg Work.acts hs.1.1, congrArg Work.runDue hs.1.1⟩ (congrArg Work.alloc hs.1.1)
      obtain ⟨n, hex⟩ := exec_ends hs.1 hexec hinner hfinish
      exact ⟨_, hex, rfl, rfl, hfollows, fun h => absurd h hstill, fun _ _ => ⟨rfl, fun _ => ⟨rfl, hphase, rfl⟩,
        fun h => absurd h hup, fun h => absurd h hup⟩⟩
  · rw [if_neg (by simpa using hexit)] at heq
    have hbusy : (s.aligned l.expect).lineBusy := hs
    have hex : exec .alignWindowEnd s = .next (s.aligned l.expect) := by
      rw [hexec, heq, State.close_lineBusy hbusy]
    exact ⟨_, hex, rfl, rfl, hfollows, fun _ => ⟨rfl, rfl, AlignRecord.window_lamp _ _ _ _⟩,
      fun h1 h2 => absurd ⟨h2, h1⟩ hexit⟩

end Sys2Proof.Machine
end

section
/-! PROOFS. The switches of the transmit side, and the far-end checker's reports (R27, R134, R150, R158). -/

namespace Sys2Proof.Machine

/-! ### Switches -/

theorem State.maySwitch_normal {s : State} (hn : s.lfr.tx.framer = .normal) (hc : s.fallbackCond = false) :
    s.maySwitch = true := by
  simp [State.maySwitch, hn, hc]

/-- A profile switch whose last frame carried countdown 1 (R27). -/
theorem State.profileSwitch_eq {s : State} {w : TxSwitch} (hn : s.lfr.tx.framer = .normal) (hc : s.fallbackCond = false)
    (hw : s.lfr.tx.pend = some w) (hcarried : w.carried = true) (hcount : w.count = 1) : ∃ m, s.profileSwitch =
    { s with lfr.tx.prof := w.target, lfr.tx.pend := none, lfr.tx.switching := true, mp := m } := by
  unfold State.profileSwitch
  simp only [hw]
  rw [if_pos (by simp [State.maySwitch_normal hn hc, hcarried, hcount])]
  exact ⟨_, rfl⟩

/-- What a map in force makes of the run at the head (R150). -/
theorem State.mapTaken_eq (s : State) (n : Nat) : ∃ q m, s.mapTaken n = { s with stu.queue := q, mp := m }
    ∧ ∀ r, s.stu.queue = [r] → r.state = .starting → s.sha.grant = some n → q = [{ r with state := .running }] := by
  unfold State.mapTaken
  split
  · next r hr =>
    have hhead := Stu.active_queue hr
    split
    · refine ⟨_, _, rfl, fun q hq _ _ => ?_⟩
      rw [hq] at hhead
      obtain ⟨rfl, htail⟩ := List.cons.inj hhead
      simp only [hq, List.tail_cons]
    · next hno =>
      refine ⟨s.stu.queue, s.mp, rfl, fun q hq hstate hgrant => ?_⟩
      rw [hq] at hhead
      obtain ⟨rfl, -⟩ := List.cons.inj hhead
      exact absurd ⟨hstate, hgrant⟩ hno
  · next hnone =>
    refine ⟨s.stu.queue, s.mp, rfl, fun q hq hstate _ => ?_⟩
    rw [Stu.active_cons hq (by simp [hstate])] at hnone
    cases hnone

/-- A map whose last frame carried countdown 1 (R134). -/
theorem State.mapSwitch_eq {s : State} {p : TxPendMap} (hn : s.lfr.tx.framer = .normal) (hc : s.fallbackCond = false)
    (hp : s.lfr.tx.mpend = some p) (hcarried : p.carried = true) (hcount : p.count = 1) : ∃ k q m, s.mapSwitch =
    { s with
      lfr.tx.map := ⟨p.ver, p.counts, some p.prof⟩, lfr.tx.mpend := none, lfr.mapCause := k, stu.queue := q, mp := m }
    ∧ ∀ r, s.stu.queue = [r] → r.state = .starting → s.sha.grant = some p.counts.test →
      q = [{ r with state := .running }] := by
  obtain ⟨q, m, heq, hrun⟩ := State.mapTaken_eq
    (({ s with lfr.tx.map := ⟨p.ver, p.counts, some p.prof⟩, lfr.tx.mpend := none } : State).noteMap .txInForce)
    p.counts.test
  refine ⟨.txInForce, q, m, ?_, hrun⟩
  unfold State.mapSwitch
  simp only [hp]
  rw [if_pos (by simp [State.maySwitch_normal hn hc, hcarried, hcount]), heq]
  rfl

/-- Settles O36. -/
theorem switchesTakeEffect : Obligations.SwitchesTakeEffect := by
  refine ⟨fun s w hs hn hc hw hcarried hcount => ?_, fun s p hs hn hc hp hcarried hcount => ?_⟩
  · obtain ⟨m, heq⟩ := State.profileSwitch_eq hn hc hw hcarried hcount
    have hinner := (State.InnerOf.refl (Q := View.consistent) s).profileSwitch
    have hexec : exec .profileSwitchFrame s = .next s.profileSwitch.close := rfl
    rw [heq] at hinner hexec
    obtain ⟨n, hex⟩ := exec_ends hs hexec hinner (State.finishWork_idle hs.1 hs.2.1)
    exact ⟨_, hex, rfl, rfl, rfl, rfl, rfl, rfl⟩
  · obtain ⟨k, q, m, heq, hrun⟩ := State.mapSwitch_eq hn hc hp hcarried hcount
    have hinner := (State.InnerOf.refl (Q := View.consistent) s).mapSwitch
    have hexec : exec .mapSwitchFrame s = .next s.mapSwitch.close := rfl
    rw [heq] at hinner hexec
    obtain ⟨n, hex⟩ := exec_ends hs hexec hinner (State.finishWork_idle hs.1 hs.2.1)
    exact ⟨_, hex, rfl, rfl, rfl, hrun⟩

/-! ### The checker's windows -/

/-- The end of a checker window, with no report kept and room in the service queue (R158). -/
theorem State.checkerWindow_eq {s : State} (hdone : s.stu.chk.windowDone = true) (hroom : s.lfr.tx.svc.length < 8)
    (hkept : s.stu.kept.any SvcMsg.isReport = false) :
    let c := s.stu.chk
    (0 < c.checked → s.checkerWindow = { s with
      lfr.tx.svc := s.lfr.tx.svc ++ [SvcMsg.testReport c.id c.checked c.bad c.window]
      stu.chk := { c with
        window := c.window + 1, slots := 0, checked := 0, bad := 0, seen := true, empty := 0
        lastReport := some (c.id, c.checked, c.bad, c.window) } })
    ∧ (c.checked = 0 → s.checkerWindow = { s with stu.chk := { c with
      window := c.window + 1, slots := 0, checked := 0, bad := 0, empty := c.empty + 1
      armed := !(c.seen || decide (4 ≤ c.empty + 1)) } }) := by
  refine ⟨fun hpos => ?_, fun hzero => ?_⟩
  · unfold State.checkerWindow
    rw [if_pos hdone]
    dsimp only
    rw [if_pos hpos, hkept]
    unfold State.offer
    exact if_pos (by simpa [LfrTx.svcRoom] using hroom)
  · have harmed : s.stu.chk.armed = true := by
      simp only [Checker.windowDone, Bool.and_eq_true] at hdone
      exact hdone.1
    unfold State.checkerWindow
    rw [if_pos hdone]
    dsimp only
    rw [if_neg (by omega)]
    by_cases hend : (s.stu.chk.seen || decide (4 ≤ s.stu.chk.empty + 1)) = true
    · rw [if_pos hend, hend]
      rfl
    · rw [if_neg hend, Bool.eq_false_iff.2 hend, Bool.not_false, ← harmed]

end Sys2Proof.Machine
end

section
/-! PROOFS. What the transmit side keeps until the frame is sent (R20): its number, its service queue's head, CARRIAGE_HOLD's
sample. -/

namespace Sys2Proof.Machine

/-- What the work before a frame keeps of the transmit side. -/
structure State.Sending (s t : State) : Prop where
  frameNo : t.lfr.tx.frameNo = s.lfr.tx.frameNo
  hold : t.lfr.tx.hold = s.lfr.tx.hold
  on : s.lfr.tx.framer ≠ .off → t.lfr.tx.framer ≠ .off
  svc : s.lfr.tx.svc <+: t.lfr.tx.svc
  sent : t.stu.chk.sent = s.stu.chk.sent

namespace State.Sending

variable {s t u : State}

theorem refl (s : State) : Sending s s := ⟨rfl, rfl, id, List.prefix_rfl, rfl⟩

theorem trans (h : Sending s t) (g : Sending t u) : Sending s u :=
  ⟨g.frameNo.trans h.frameNo, g.hold.trans h.hold, fun hs => g.on (h.on hs), h.svc.trans g.svc, g.sent.trans h.sent⟩

/-- A step that touches neither the link's transmit side nor the checker. -/
theorem of_eq (h : Sending s t) (hlfr : u.lfr.tx = t.lfr.tx) (hsent : u.stu.chk.sent = t.stu.chk.sent) : Sending s u :=
  h.trans ⟨by rw [hlfr], by rw [hlfr], by rw [hlfr]; exact id, by rw [hlfr], hsent⟩

theorem edit {C : Cause → Prop} (e : State.Edit C s t) : Sending s t := by
  cases e with
  | runs v hv =>
    refine (refl s).of_eq rfl ?_
    rcases hv.chk with h | h <;> simp [h, Checker.idle]
  | halted hC => exact ⟨rfl, rfl, fun _ => by simp, List.prefix_rfl, rfl⟩
  | alloc a h => exact ⟨rfl, rfl, id, List.prefix_rfl, rfl⟩
  | offer hC m =>
    unfold State.offer
    split
    · exact ⟨rfl, rfl, id, List.prefix_append _ _, rfl⟩
    · exact (refl s).of_eq rfl rfl
  | raise | clear | bar | hold | tryActive | adaptDown | refDown => exact (refl s).of_eq (by simp) (by simp)
  | port | work | dropPeer | hunt | unconfirm | site | stopRead => exact (refl s).of_eq rfl rfl

theorem worked {C : Cause → Prop} (h : Sending s t) (e : t.Worked C u) : Sending s u :=
  h.trans (e.keeps (P := Sending t) (fun _ _ e hs => hs.trans (edit e)) (refl t))

theorem finishWork (h : Sending s t) : Sending s t.finishWork := h.worked (State.Worked.finishWork_any t)

theorem settleRelease (h : Sending s t) : Sending s t.settleRelease :=
  h.worked ((State.Worked.refl (C := fun _ => True) t).settleRelease)

theorem abortGranted (h : Sending s t) (c : RunCause) : Sending s (t.abortGranted c) := by
  have hw := (State.Worked.refl (C := fun _ => True) t).settleRelease
  unfold State.abortGranted
  dsimp only
  split
  · next r hr =>
    have hq : t.settleRelease.stu.queue ≠ [] := fun he => by rw [Stu.active_empty he] at hr; cases hr
    exact h.worked (State.Worked.ite (fun _ => hw.abortRun (.inl trivial) hq r c) (fun _ => hw))
  · exact h.worked hw

theorem drainRun (h : Sending s t) : Sending s t.drainRun := by
  unfold State.drainRun
  split
  · split
    · refine h.of_eq ?_ ?_
      · simp
      · simp [State.setActive]
    · exact h.settleRelease
  · exact h.settleRelease

theorem periodEnd (h : Sending s t) : Sending s t.periodEnd := by
  unfold State.periodEnd
  split
  · refine h.trans ⟨?_, ?_, ?_, ?_, ?_⟩ <;> simp
  · exact h

theorem settleTx (h : Sending s t) : Sending s t.settleTx := h.drainRun.finishWork.periodEnd.finishWork

theorem discardTx (h : Sending s t) : Sending s t.discardTx := h.trans ⟨rfl, rfl, id, List.prefix_rfl, rfl⟩

theorem haltTx (h : Sending s t) : Sending s t.haltTx := by
  have hflag : Sending s { t with lfr.tx.fallback := t.fallbackCond } := h.trans ⟨rfl, rfl, id, List.prefix_rfl, rfl⟩
  unfold State.haltTx
  dsimp only
  split
  · exact hflag.trans ⟨rfl, rfl, id, List.prefix_rfl, rfl⟩
  · exact hflag

theorem fallBack (h : Sending s t) : Sending s t.fallBack := h.trans ⟨rfl, rfl, fun _ => by simp [State.fallBack, State.noteLink, State.notify, State.discardTx, State.noteMap], List.prefix_rfl, rfl⟩

theorem moveTx (h : Sending s t) : Sending s t.moveTx := by
  unfold State.moveTx
  dsimp only
  split
  · exact h
  · exact h.haltTx
  · split
    · exact h.fallBack.abortGranted _
    · exact h
  · split
    · exact h
    · exact h.trans ⟨rfl, rfl, fun _ => by simp [State.noteLink, State.notify], List.prefix_rfl, rfl⟩

theorem retestTx (h : Sending s t) : Sending s t.retestTx := by
  unfold State.retestTx
  split
  · exact h.haltTx
  · split
    · exact h.fallBack
    · exact h
  all_goals exact h

theorem profileSwitch (h : Sending s t) : Sending s t.profileSwitch := by
  unfold State.profileSwitch
  split
  · split
    · exact h.trans ⟨rfl, rfl, id, List.prefix_rfl, rfl⟩
    · exact h
  · exact h

theorem mapTaken (h : Sending s t) (n : Nat) : Sending s (t.mapTaken n) := by
  unfold State.mapTaken
  split
  · split
    · exact h.of_eq rfl rfl
    · exact h
  · exact h

theorem mapSwitch (h : Sending s t) : Sending s t.mapSwitch := by
  unfold State.mapSwitch
  split
  · split
    · next p _ _ =>
      have hmap : Sending s (({ t with
          lfr.tx.map := ⟨p.ver, p.counts, some p.prof⟩, lfr.tx.mpend := none } : State).noteMap .txInForce) :=
        h.trans ⟨rfl, rfl, id, List.prefix_rfl, rfl⟩
      exact hmap.mapTaken _
    · exact h
  · exact h

theorem scheduleCheck (h : Sending s t) : Sending s t.scheduleCheck := by
  unfold State.scheduleCheck
  split
  · refine h.trans ⟨?_, ?_, ?_, ?_, ?_⟩ <;> simp
  · exact h

theorem doActs (h : Sending s t) (n : Nat) : Sending s (State.doActs n t) := by
  induction n generalizing t with
  | zero => exact h
  | succ n ih =>
    exact ih (h.worked ((State.Worked.refl (C := fun _ => True) t).actStep ⟨fun _ _ => trivial, .inl trivial⟩))

/-- CARRIAGE_HOLD's sample is taken, and kept from then on. -/
theorem sampleHold (s : State) (hold : Bool) : Sending { s with lfr.tx.hold := hold } (s.sampleHold hold) := by
  unfold State.sampleHold
  split
  · next h => exact h ▸ refl s
  · dsimp only
    have hnote : Sending { s with lfr.tx.hold := hold } ({ s with lfr.tx.hold := hold } : State).noteLink :=
      (refl _).of_eq rfl rfl
    split
    · exact hnote.abortGranted _
    · exact hnote

end State.Sending

end Sys2Proof.Machine
end

section
/-! PROOFS. A report counts as sent when the frame that carries it is built (R158). -/

namespace Sys2Proof.Machine

theorem State.countFrame_chk (s : State) : s.countFrame.stu.chk = s.stu.chk := by
  unfold State.countFrame
  split
  · split
    · simp [State.setActive]
    · split
      · simp [State.setActive]
      · rfl
  · rfl

/-- The frame that is sent carries the oldest message of the service queue. -/
theorem State.emitFrame_sent {s : State} {m : SvcMsg} {ms : List SvcMsg} (hm : s.offerKept.lfr.tx.svc = m :: ms) :
    s.emitFrame.stu.chk.sent = if m.isReport = true then s.stu.chk.sent + 1 else s.stu.chk.sent := by
  have hemit : s.emitFrame.stu.chk = s.stu.chk.countSent (some m) := by
    unfold State.emitFrame
    rw [State.countFrame_chk]
    show s.stu.chk.countSent s.offerKept.lfr.tx.svc.head? = _
    rw [hm]
    rfl
  rw [hemit]
  cases m <;> rfl

/-- What the frame's building keeps of the transmit side up to the moment the frame is sent. -/
theorem State.build_sending {s : State} (hold : Bool) (hon : s.lfr.tx.framer ≠ .off) :
    ∃ t : State, s.build hold = t.emitFrame ∧ s.lfr.tx.svc <+: t.lfr.tx.svc ∧ t.stu.chk.sent = s.stu.chk.sent := by
  have hfirst := (State.Sending.refl ({ s with pins.carriageHold := hold, lfr.tx.due := false } : State)).settleTx
  have hon' := hfirst.on hon
  unfold State.build
  dsimp only
  rw [if_neg hon']
  generalize ({ s with pins.carriageHold := hold, lfr.tx.due := false } : State).settleTx = t at hfirst hon' ⊢
  have hswitched := (State.Sending.sampleHold t hold).moveTx.profileSwitch.mapSwitch
  generalize (t.sampleHold hold).moveTx.profileSwitch.mapSwitch = u at hswitched ⊢
  have hacts := (hswitched.doActs 48).retestTx
  generalize (State.doActs 48 u).retestTx = v at hacts ⊢
  have hcheck : State.Sending { t with lfr.tx.hold := hold }
      (if t.lfr.tx.framer = .normal then v.scheduleCheck else v) := by
    split
    · exact hacts.scheduleCheck
    · exact hacts
  have hlast := hcheck.finishWork.retestTx
  exact ⟨_, rfl, hfirst.svc.trans hlast.svc, hlast.sent.trans hfirst.sent⟩

/-- Settles O43. -/
theorem checkerWindowReports : Obligations.CheckerWindowReports := by
  refine ⟨fun s hs hdone hroom hkept => ?_, fun s hold m ms hs hon hsvc => ?_⟩
  · obtain ⟨hreport, hempty⟩ := State.checkerWindow_eq hdone hroom hkept
    have hexec : exec .checkerWindowEnd s = .next s.checkerWindow.close := rfl
    refine ⟨fun hpos => ?_, fun hzero => ?_⟩
    · rw [hexec, hreport hpos]
      exact congrArg Host.Outcome.next (State.close_lineBusy hs)
    · rw [hexec, hempty hzero]
      exact congrArg Host.Outcome.next (State.close_lineBusy hs)
  · obtain ⟨t, hbuild, ⟨xs, hsvc'⟩, hsent⟩ := State.build_sending hold hon
    have hm : t.offerKept.lfr.tx.svc = m :: (ms ++ xs ++ t.stu.kept.take (8 - t.lfr.tx.svc.length)) := by
      show t.lfr.tx.svc ++ _ = _
      rw [← hsvc', hsvc]
      simp
    obtain ⟨n, hex⟩ := exec_ends (c := .txFrameBuild hold) hs rfl
      ((State.InnerOf.refl (Q := View.consistent) s).build hold) rfl
    refine ⟨_, hex, ?_⟩
    show (s.build hold).finishWork.stu.chk.sent = _
    rw [(State.Sending.refl (s.build hold)).finishWork.sent, hbuild, State.emitFrame_sent hm, hsent]

end Sys2Proof.Machine
end

section
/-! PROOFS. The ends of runs and of rounds, and the timers that bring them (R6, R17, R102, R148 to R153, R159). -/

namespace Sys2Proof.Machine

/-! ### The end of an event with no run left -/

/-- What is left of the Self-Test Unit where no run is in the queue. -/
structure State.Runless (s t : State) : Prop where
  queue : t.stu.queue = []
  log : t.stu.log = s.stu.log
  share : s.sha.tReq = 0 → s.sha.grant = none → t.sha.tReq = 0 ∧ t.sha.grant = none

theorem State.Runless.refl {s : State} (h : s.stu.queue = []) : s.Runless s := ⟨h, rfl, And.intro⟩

theorem State.Runless.edit {C : Cause → Prop} {s t u : State} (e : State.Edit C t u) (h : s.Runless t) : s.Runless u := by
  obtain ⟨hq, hlog, hsha⟩ := h
  cases e with
  | runs v hv => exact ⟨(hv.empty hq).1, (hv.empty hq).2.trans hlog, hsha⟩
  | alloc a ha =>
    refine ⟨hq, hlog, fun hr hg => ?_⟩
    exact ha hq (hsha hr hg).1 (hsha hr hg).2
  | offer hC m =>
    unfold State.offer
    split
    · exact ⟨hq, hlog, hsha⟩
    · exact ⟨hq, hlog, hsha⟩
  | raise | clear | bar | hold | tryActive | adaptDown | refDown =>
    exact ⟨by simpa using hq, by simpa using hlog, by simpa using hsha⟩
  | port | work | dropPeer | hunt | unconfirm | site | stopRead | halted => exact ⟨hq, hlog, hsha⟩

/-- With no run in the queue an event ends by its actions and its allocation. -/
theorem State.Worked.finishWork_runless {s : State} (h : s.stu.queue = []) : State.Worked (· ≠ .run) s s.finishWork :=
  State.Worked.finishWork (I := s.Runless) (fun _ _ => State.Runless.edit)
    (fun _ hw => ⟨fun a _ => by cases a <;> simp [Action.cause], .inr hw.queue⟩) (State.Runless.refl h)

theorem State.Runless.finishWork {s : State} (h : s.stu.queue = []) : s.Runless s.finishWork :=
  (State.Worked.finishWork_runless h).keeps (fun _ _ => State.Runless.edit) (State.Runless.refl h)

/-- With no run in the queue, and no action left but bars, an event ends by those and its allocation. -/
theorem State.Worked.finishWork_bars {s : State} (hq : s.stu.queue = []) (hacts : ∀ a ∈ s.work.acts, a.cause = .bar) :
    State.Worked (· = .bar) s s.finishWork := by
  refine State.Worked.finishWork (I := fun t => t.stu.queue = [] ∧ ∀ a ∈ t.work.acts, a.cause = .bar) (fun t u e h => ?_)
    (fun _ h => ⟨h.2, .inr h.1⟩) ⟨hq, hacts⟩
  refine ⟨(State.Runless.edit e (State.Runless.refl h.1)).queue, ?_⟩
  cases e with
  | raise hC | clear hC | hold hC | tryActive hC | site hC => simp [moves] at hC
  | dropPeer hC | adaptDown hC | refDown hC | hunt hC | unconfirm hC | halted hC | stopRead hC | offer hC => cases hC
  | work w hw => exact fun a ha => h.2 a (hw a ha)
  | bar hC i c =>
    unfold State.bar
    split
    case h_1 | h_2 | h_3 =>
      rw [moveTenant_acts]
      exact h.2
    all_goals exact h.2
  | port | runs | alloc => exact h.2

/-- Bars and allocations leave the phase record and the fault table alone. -/
theorem State.Worked.bars_site {s t : State} (h : s.Worked (· = .bar) t) : t.spc = s.spc ∧ t.fmn = s.fmn := by
  refine h.keeps (P := fun t => t.spc = s.spc ∧ t.fmn = s.fmn) (fun t u e ht => ?_) ⟨rfl, rfl⟩
  cases e with
  | raise hC | clear hC | hold hC | tryActive hC | site hC => simp [moves] at hC
  | dropPeer hC | adaptDown hC | refDown hC | hunt hC | unconfirm hC | halted hC | stopRead hC | offer hC => cases hC
  | bar hC i c => simpa using ht
  | port | runs | alloc | work => exact ht

/-! ### The end of the active run -/

/-- The active run of no round ends ABORTED, and what it held is given back (R153). -/
theorem State.abortRun_eq (s : State) {r : Run} (c : RunCause) (hround : r.round = false) : ∃ k a d m,
    s.abortRun r c = { s with
      stu := { s.stu with
        kept := k, log := (s.recordOf r .aborted c :: s.stu.log).take 16, decisive := d, queue := s.stu.queue.tail }
      sha := if r.entry.kind = .linkPattern ∧ ¬ (c = .revoked ∨ r.state = .draining) then
        { s.sha with tReq := 0, grant := none } else s.sha
      work := { s.work with alloc := a, runDue := !s.stu.queue.tail.isEmpty }, mp := m } := by
  obtain ⟨k, a, hback⟩ := State.giveBack_eq s r c
  unfold State.abortRun State.endRun
  rw [hround, hback]
  obtain ⟨d, x, hfinish, hacts, hsame⟩ := State.finishRun_eq { s with
    stu.kept := k, work.alloc := a
    sha := if r.entry.kind = .linkPattern ∧ ¬ (c = .revoked ∨ r.state = .draining) then
      { s.sha with tReq := 0, grant := none } else s.sha } r .aborted c
  obtain ⟨hfmn, hceiling⟩ := hsame rfl
  refine ⟨k, a, d, x.mp, ?_⟩
  refine hfinish.trans ?_
  simp only [State.withRaised, hacts (by simp), hfmn, hceiling, List.append_nil]
  rfl

/-- The judgement of R152, by its cases. -/
theorem Run.verdict_cases (r : Run) :
    (r.entry.errors < r.fig.bad → r.verdict = (.fail, .errors))
    ∧ (r.fig.bad ≤ r.entry.errors → 8 * r.fig.checked < 7 * (r.fig.frames * r.entry.blocks) →
      r.verdict = (.fail, .lowCoverage))
    ∧ (r.fig.bad ≤ r.entry.errors → 7 * (r.fig.frames * r.entry.blocks) ≤ 8 * r.fig.checked → r.verdict = (.pass, .none)) := by
  unfold Run.verdict
  refine ⟨fun h => if_pos h, fun h hlow => ?_, fun h hcovered => ?_⟩
  · rw [if_neg (by omega), if_pos hlow]
  · rw [if_neg (by omega), if_neg (by omega)]

theorem State.drainExpired_eq {s : State} {r : Run} {rs : List Run} (hq : s.stu.queue = r :: rs) (hstate : r.state = .draining)
    (hwait : r.drainLeft.isSome = true) : s.drainExpired = s.endRun r r.verdict.1 r.verdict.2 := by
  unfold State.drainExpired
  rw [Stu.active_cons hq (by simp [hstate])]
  simp [hwait, hstate]

end Sys2Proof.Machine
end

section
/-! PROOFS. The timers, and the end of a round (R17, R159). -/

namespace Sys2Proof.Machine

/-! ### The end of a round -/

/-- The last run of a round passes: the round has passed. -/
theorem State.endRun_passes {s : State} {r : Run} (hround : r.round = true) (hq : s.stu.queue = [r])
    (hprove : s.spc.prove = .round) (c : RunCause) :
    s.endRun r .pass c = (s.finishRun r .pass c).noteTest.enterService .provePassed .passed s.spc.roundNo := by
  obtain ⟨d, x, heq, -, -⟩ := State.finishRun_eq s r .pass c
  have hempty : (s.finishRun r .pass c).stu.queue = [] := by rw [heq, hq]; rfl
  have hspc : (s.finishRun r .pass c).noteTest.spc = s.spc := by rw [heq]; rfl
  unfold State.endRun State.roundPassed
  rw [hround, if_pos rfl, if_pos rfl, hempty, hspc, hprove]
  rfl

/-- A run of a round passes with another of the round behind it. -/
theorem State.endRun_goes_on {s : State} {r q : Run} {qs : List Run} (hround : r.round = true)
    (hq : s.stu.queue = r :: q :: qs) (hnext : q.round = true) (c : RunCause) :
    s.endRun r .pass c = s.finishRun r .pass c := by
  obtain ⟨d, x, heq, -, -⟩ := State.finishRun_eq s r .pass c
  have hany : (s.finishRun r .pass c).stu.queue.any (·.round) = true := by
    rw [heq]
    simp [hq, hnext]
  unfold State.endRun
  rw [hround, if_pos rfl, if_pos rfl, if_pos hany]

/-- What is left of a run of a round that fails: its record, what its outcome raises, and no run of the round. -/
theorem State.endRun_fails {s : State} {r : Run} {rs : List Run} {o : RunOutcome} (hround : r.round = true)
    (hq : s.stu.queue = r :: rs) (hrs : ∀ q ∈ rs, q.state = .queued ∧ q.round = true) (ho : o ≠ .pass)
    (c : RunCause) : ∃ d g x, s.endRun r o c = ({ s.withRaised x with
        stu := { s.stu with
          log := (s.recordOf r o c :: s.stu.log).take 16, decisive := d, queue := [], removed := g }
        work := { s.work with acts := s.work.acts ++ x.acts, runDue := !rs.isEmpty } } : State).roundFailed r.idx
      ∧ x.fmn.settings = s.fmn.settings ∧ (o = .aborted → x.acts = []) := by
  have hset : (s.finishRun r o c).fmn.settings = s.fmn.settings :=
    ((State.Worked.refl (C := fun _ => True) s).finishRun (.inl trivial) (by simp [hq]) r o c).keeps
      (P := fun t => t.fmn.settings = s.fmn.settings) (fun _ _ e => (FaultsOnly.settings _).edit e) rfl
  obtain ⟨d, x, heq, hnoacts, -⟩ := State.finishRun_eq s r o c
  obtain ⟨g, m, hremove⟩ := State.removeRuns_eq (s.finishRun r o c) (·.round)
  have hnone : (s.finishRun r o c).stu.queue.filter (fun r => !(decide (r.state = .queued) && r.round)) = [] := by
    rw [heq, hq]
    refine List.filter_eq_nil_iff.2 fun q hqm => ?_
    simp [hrs q hqm]
  rw [heq] at hset
  refine ⟨d, g, ⟨x.fmn, x.ceiling, ((s.finishRun r o c).removeRuns (·.round)).noteTest.mp, x.acts⟩, ?_, hset,
    fun h => hnoacts (by simp [h])⟩
  unfold State.endRun
  rw [hround, if_pos rfl, if_neg ho]
  refine congrArg (State.roundFailed · r.idx) ?_
  rw [hnone] at hremove
  rw [hremove, heq, hq]
  rfl

/-- What the failure of a round makes of the site's record (R17). -/
def Spc.roundLost (x : Spc) : Spc :=
  if x.prove = .round then
    if x.roundNo < 3 then { x with roundNo := x.roundNo + 1, retry := some Config.retryFrames } else { x with prove := .failed }
  else x

/-- A round that fails is retried, or the third has failed and PROVE_FAIL is raised (R17). -/
theorem State.roundFailed_eq (s : State) (i : Nat) : ∃ x, s.roundFailed i = { s.withRaised x with spc := s.spc.roundLost }
    ∧ (s.spc.prove = .round → ¬ s.spc.roundNo < 3 → s.fmn.rows.length = 21 → (x.fmn.row 2).active = true)
    ∧ (s.spc.roundNo < 3 → x.acts = []) := by
  unfold State.roundFailed Spc.roundLost
  by_cases hp : s.spc.prove = .round
  · rw [if_pos hp, if_pos hp]
    by_cases hn : s.spc.roundNo < 3
    · rw [if_pos hn, if_pos hn]
      dsimp only
      generalize hm : State.notify _ .phase 0 _ = t
      have ht : ∃ m, t = { s with
          spc := { s.spc with roundNo := s.spc.roundNo + 1, retry := some Config.retryFrames }, mp := m } := ⟨_, hm.symm⟩
      obtain ⟨m, ht⟩ := ht
      refine ⟨⟨s.fmn, s.lau.ceiling, m, []⟩, ?_, fun _ h => absurd hn h, fun _ => rfl⟩
      rw [ht, State.withRaised, List.append_nil]
    · rw [if_neg hn, if_neg hn]
      dsimp only
      generalize hm : State.notify { s with spc.prove := .failed } .phase 0 _ = t
      have ht : ∃ m, t = { s with spc.prove := .failed, mp := m } := ⟨_, hm.symm⟩
      obtain ⟨m, ht⟩ := ht
      obtain ⟨y, hy, -⟩ := State.raise_withRaised t ⟨rowProveFail, i, t.raisePhase⟩
      refine ⟨y, ?_, fun _ _ hrows => ?_, fun h => absurd h hn⟩
      · rw [State.raiseNow, hy, ht]
        rfl
      · have hactive := State.raiseNow_active (s := t) (by rw [ht]; exact hrows) (r := 2) (by omega) i
        rw [State.raiseNow, show (⟨2, i, t.raisePhase⟩ : Raise) = ⟨rowProveFail, i, t.raisePhase⟩ from rfl, hy] at hactive
        exact hactive
  · rw [if_neg hp, if_neg hp]
    refine ⟨s.unraised, ?_, fun h => absurd h hp, fun _ => rfl⟩
    rw [State.withRaised_unraised]

/-- A round's failure with a table that answers no row with RESEEK or HALT, up to the end of the event (R17). -/
theorem State.endRun_fails_end {s : State} {r : Run} {rs : List Run} {o : RunOutcome} (hs : s.calm) (hround : r.round = true)
    (hq : s.stu.queue = r :: rs) (hrs : ∀ q ∈ rs, q.state = .queued ∧ q.round = true) (ho : o ≠ .pass) (c : RunCause)
    (hreseek : s.fmn.answersNever .reseek) (hhalt : s.fmn.answersNever .halt) (hrows : s.fmn.rows.length = 21) :
    (s.endRun r o c).finishWork.stu.queue = [] ∧ (s.endRun r o c).finishWork.spc = s.spc.roundLost
      ∧ (s.spc.prove = .round → ¬ s.spc.roundNo < 3 → (s.endRun r o c).finishWork.rowActive 2) := by
  have hworked := (State.Worked.refl (C := fun _ => True) s).endRun (.inl trivial) (by simp [hq]) r o c
  have hnever {k : Cause} (hk : s.fmn.answersNever k.response) : ∀ a ∈ (s.endRun r o c).work.acts, a.cause ≠ k :=
    (hworked.keeps (fun _ _ e => (FaultsOnly.never k).edit e) ⟨hk, by simp [hs.1]⟩).2
  have hbars : ∀ a ∈ (s.endRun r o c).work.acts, a.cause = .bar := by
    intro a ha
    have h1 := hnever (k := .reseek) hreseek a ha
    have h2 := hnever (k := .halt) hhalt a ha
    cases a
    · rfl
    · exact absurd rfl h1
    · exact absurd rfl h2
  obtain ⟨d, g, x, hfails, hset, -⟩ := State.endRun_fails hround hq hrs ho c
  obtain ⟨y, hlost, hrow, -⟩ := State.roundFailed_eq ({ s.withRaised x with
        stu := { s.stu with
          log := (s.recordOf r o c :: s.stu.log).take 16, decisive := d, queue := [], removed := g }
        work := { s.work with acts := s.work.acts ++ x.acts, runDue := !rs.isEmpty } } : State) r.idx
  have hend := hfails.trans hlost
  generalize s.endRun r o c = u at hbars hend
  have huq : u.stu.queue = [] := by rw [hend]; rfl
  obtain ⟨hspc, hfmn⟩ := (State.Worked.finishWork_bars huq hbars).bars_site
  refine ⟨(State.Runless.finishWork huq).queue, hspc.trans (by rw [hend]; rfl), fun hp hn => ?_⟩
  have hlength : x.fmn.rows.length = 21 := (congrArg (·.2.2.2) hset).trans hrows
  have hactive := hrow hp hn hlength
  rw [← show u.fmn = y.fmn by rw [hend]; rfl, ← hfmn] at hactive
  exact hactive

/-! ### The timers -/

/-- The refit timer makes the record FIT, and an UNFIT tenant ACTIVE (R102, R104). -/
theorem State.refitDone_unfit {s : State} {i : Fin 4} (hrefit : (s.tpt.get i).refit.isSome = true)
    (hstate : (s.tpt.get i).state = .unfit) :
    State.Tells s (s.refitDone i) ∧ (s.refitDone i).tpt.get i =
      { s.tpt.get i with refit := none, fit := some .fit, left := .unfit, state := .active, permit := true, cause := .fitness } := by
  have hmid : ((s.modTenant i (fun t => { t with refit := none, fit := some .fit })).tellTenant i .fitness).tpt.get i =
      { s.tpt.get i with refit := none, fit := some .fit, cause := .fitness } := by simp
  have heq : s.refitDone i =
      ((s.modTenant i (fun t => { t with refit := none, fit := some .fit })).tellTenant i .fitness).activate i .fitness := by
    unfold State.refitDone
    rw [if_pos hrefit]
    dsimp only
    rw [hmid]
    simp only [hstate]
  rw [heq]
  refine ⟨(((State.Tells.refl s).modTenant i _).tellTenant i _).activate i _, ?_⟩
  rw [State.activate_tpt', Four.get_set_same, hmid]
  simp [Tenant.moved, hstate]

/-- Settles O57. -/
theorem timersExpire : Obligations.TimersExpire := by
  intro s hs
  have hinner := State.InnerOf.refl (Q := View.consistent) s
  have hacts : s.work.acts = [] := by rw [hs.1]
  refine ⟨fun i hq hrefit hstate => ?_, fun hq hphase hrec => ?_, fun r hq hstate hkind hleft hround => ?_,
    fun r hq hstate hleft hround => ?_, fun r rs hq hstate hleft hround hphase hprove hrs => ⟨fun hpass hnil => ?_,
      fun q qs hpass hcons hkind hgrant => ?_, fun hfail hreseek hhalt hrows => ?_⟩, fun hq hretry hstay => ?_⟩
  · obtain ⟨⟨x, hx, -⟩, hnew⟩ := State.refitDone_unfit hrefit hstate
    rw [hx] at hnew
    obtain ⟨a, ha⟩ := State.finishWork_quiet (s := s.telling x) hacts hq
    obtain ⟨m, hex⟩ := exec_ends (c := .refitTimerExpiry i) hs rfl (hinner.refitDone i)
      ((congrArg State.finishWork hx).trans ha)
    have hget : x.tpt.get i = _ := hnew
    refine ⟨_, hex, ?_⟩
    show (x.tpt.get i).fit = _ ∧ (x.tpt.get i).refit = _ ∧ (x.tpt.get i).state = _ ∧ (x.tpt.get i).permit = _
    rw [hget]
    exact ⟨rfl, rfl, rfl, rfl⟩
  · obtain ⟨m, hmove⟩ := State.movePhase_plain (s := s) (by simp [hphase]) (by simp [hphase]) .seek .recoverExpiry .idle 0
    have hdone : s.recoverDone = { s.movedTo .seek .recoverExpiry with mp := m } := (if_pos hrec).trans hmove
    obtain ⟨a, ha⟩ := State.finishWork_quiet (s := { s.movedTo .seek .recoverExpiry with mp := m }) hacts hq
    obtain ⟨n, hex⟩ := exec_ends (c := .recoverTimerExpiry) hs rfl hinner.recoverDone
      ((congrArg State.finishWork hdone).trans ha)
    exact ⟨_, hex, rfl, rfl, rfl⟩
  · have hexpired : s.grantExpired = s.abortRun r .noCapacity := by
      unfold State.grantExpired
      rw [Stu.active_cons hq (by simp [hstate])]
      simp [hleft, hstate]
    obtain ⟨k, a, d, m, habort⟩ := State.abortRun_eq s .noCapacity hround
    have hend := hexpired.trans habort
    have hin := hinner.grantExpired
    have hex := exec_ends (c := .grantTimerExpiry) hs rfl hin rfl
    generalize s.grantExpired = u at hend hex
    have huq : u.stu.queue = [] := by rw [hend, hq]; rfl
    have hrun := State.Runless.finishWork huq
    have hsha : u.sha.tReq = 0 ∧ u.sha.grant = none := by
      rw [hend, if_pos ⟨hkind, by simp [hstate]⟩]
      exact ⟨rfl, rfl⟩
    obtain ⟨n, hex⟩ := hex
    have hlog : u.finishWork.stu.log.head? = some (s.recordOf r .aborted .noCapacity) := by
      rw [hrun.log, hend]
      rfl
    obtain ⟨htReq, hgrant⟩ := hrun.share hsha.1 hsha.2
    have hqueue := hrun.queue
    generalize u.finishWork = w at hex hqueue hlog htReq hgrant
    exact ⟨_, _, hex, hqueue, hlog, rfl, rfl, rfl, rfl, htReq, hgrant⟩
  · have hend := State.drainExpired_eq hq hstate hleft
    obtain ⟨d, x, hfinish, -, -⟩ := State.finishRun_eq s r r.verdict.1 r.verdict.2
    have hplain : s.endRun r r.verdict.1 r.verdict.2 = s.finishRun r r.verdict.1 r.verdict.2 := by
      unfold State.endRun
      rw [hround]
      rfl
    replace hend := (hend.trans hplain).trans hfinish
    have hex := exec_ends (c := .drainWaitExpiry) hs rfl hinner.drainExpired rfl
    generalize s.drainExpired = u at hend hex
    have huq : u.stu.queue = [] := by rw [hend, hq]; rfl
    have hrun := State.Runless.finishWork huq
    have hlog : u.finishWork.stu.log.head? = some (s.recordOf r r.verdict.1 r.verdict.2) := by
      rw [hrun.log, hend]
      rfl
    obtain ⟨n, hex⟩ := hex
    obtain ⟨herrors, hlow, hpass⟩ := Run.verdict_cases r
    refine ⟨_, _, hex, hrun.queue, hlog, rfl, fun h => ?_, fun h h' => ?_, fun h h' => ?_⟩
    · exact ⟨congrArg Prod.fst (herrors h), congrArg Prod.snd (herrors h)⟩
    · exact ⟨congrArg Prod.fst (hlow h h'), congrArg Prod.snd (hlow h h')⟩
    · exact ⟨congrArg Prod.fst (hpass h h'), congrArg Prod.snd (hpass h h')⟩
  · have hverdict := (Run.verdict_cases r).2.2 hpass.1 hpass.2
    have hend := State.drainExpired_eq hq hstate hleft
    rw [hverdict, State.endRun_passes hround (hq.trans (by rw [hnil])) hprove] at hend
    obtain ⟨d, x, hfinish, hnoacts, -⟩ := State.finishRun_eq s r .pass .none
    generalize s.finishRun r .pass .none = v at hend hfinish
    have hvq : v.noteTest.stu.queue = [] := by rw [hfinish, hq, hnil]; rfl
    obtain ⟨y, hy, -⟩ := State.enterService_tells hvq .provePassed .passed s.spc.roundNo
    have hvacts : ((v.noteTest.movedTo .service .provePassed).telling y).work.acts = [] := by
      rw [hfinish]
      show s.work.acts ++ x.acts = []
      rw [hnoacts (by simp), hacts]
      rfl
    obtain ⟨a, ha⟩ := State.finishWork_quiet hvacts hvq
    obtain ⟨n, hex⟩ := exec_ends (c := .drainWaitExpiry) hs rfl hinner.drainExpired
      ((congrArg State.finishWork (hend.trans hy)).trans ha)
    have hleft : v.spc.phase = .prove := by rw [hfinish]; exact hphase
    exact ⟨_, hex, rfl, hleft, rfl, rfl, rfl, rfl⟩
  · have hverdict := (Run.verdict_cases r).2.2 hpass.1 hpass.2
    have hend := State.drainExpired_eq hq hstate hleft
    obtain ⟨hqueued, hqround⟩ := hrs q (by simp [hcons])
    rw [hverdict, State.endRun_goes_on hround (hq.trans (by rw [hcons])) hqround] at hend
    obtain ⟨d, x, hfinish, hnoacts, -⟩ := State.finishRun_eq s r .pass .none
    replace hend := hend.trans hfinish
    generalize hu : s.drainExpired = u at hend
    have huq : u.stu.queue = q :: qs := by rw [hend, hq, hcons]; rfl
    have huacts : u.work.acts = [] := by
      rw [hend]
      show s.work.acts ++ x.acts = []
      rw [hnoacts (by simp), hacts]
      rfl
    have hudue : u.work.runDue = true := by rw [hend, hq, hcons]; rfl
    obtain ⟨y, q', hfin, hyq, hbegan⟩ := State.finishWork_begins huacts hudue huq hqueued hkind (by rw [hend]; exact hgrant)
    obtain ⟨n, hex⟩ := exec_ends (c := .drainWaitExpiry) hs rfl hinner.drainExpired ((congrArg State.finishWork hu).trans hfin)
    have huspc : u.spc = s.spc := by rw [hend]; rfl
    exact ⟨_, q', hex, huspc, hyq, hbegan.idx, hbegan.id, hbegan.round.trans hqround, hbegan.left⟩
  · have hnot : r.verdict.1 ≠ .pass := by
      obtain ⟨herrors, hlow, -⟩ := Run.verdict_cases r
      by_cases h : r.entry.errors < r.fig.bad
      · rw [herrors h]
        simp
      · by_cases h' : 8 * r.fig.checked < 7 * (r.fig.frames * r.entry.blocks)
        · rw [hlow (by omega) h']
          simp
        · exact absurd ⟨by omega, by omega⟩ hfail
    have hend := State.drainExpired_eq hq hstate hleft
    obtain ⟨hqueue, hspc, hrow⟩ := State.endRun_fails_end hs hround hq hrs hnot r.verdict.2 hreseek hhalt hrows
    obtain ⟨n, hex⟩ := exec_ends (c := .drainWaitExpiry) hs rfl hinner.drainExpired (congrArg State.finishWork hend)
    generalize (s.endRun r r.verdict.1 r.verdict.2).finishWork = w at hqueue hspc hrow hex
    refine ⟨_, hex, hqueue, ?_, fun hn => ?_, fun hn => ?_⟩
    · show w.spc.phase = _
      rw [hspc, Spc.roundLost, if_pos hprove]
      split
      · exact hphase
      · exact hphase
    · show w.spc.prove = _ ∧ w.spc.roundNo = _ ∧ w.spc.retry = _
      rw [hspc, Spc.roundLost, if_pos hprove, if_pos hn]
      exact ⟨hprove, rfl, rfl⟩
    · show w.spc.prove = _ ∧ w.spc.roundNo = _ ∧ w.spc.retry = _ ∧ _
      rw [hspc, Spc.roundLost, if_pos hprove, if_neg (by omega)]
      exact ⟨rfl, hn, rfl, hrow hprove (by omega)⟩
  · have hdone : s.retryDone = ({ s with spc.retry := none } : State).requestRound := if_pos hretry
    by_cases hne : s.stu.entriesOf .bringup = []
    · have hnone : ({ s with spc.retry := none } : State).requestRound = { s with spc.retry := none } := by
        unfold State.requestRound
        rw [show ({ s with spc.retry := none } : State).stu = s.stu from rfl, hne]
        rfl
      obtain ⟨a, ha⟩ := State.finishWork_quiet (s := { s with spc.retry := none }) hacts hq
      obtain ⟨n, hex⟩ := exec_ends (c := .retryTimerExpiry) hs rfl hinner.retryDone
        ((congrArg State.finishWork (hdone.trans hnone)).trans ha)
      refine ⟨_, hex, rfl, ?_, ?_⟩
      · show s.stu.queue.map _ = _
        rw [hq, hne]
        rfl
      · show ∀ r ∈ s.stu.queue, _
        rw [hq]
        simp
    · obtain ⟨x, id, hfin, hidx, hall⟩ := State.finishWork_round (s := { s with spc.retry := none }) hq hacts hne hstay
      obtain ⟨n, hex⟩ := exec_ends (c := .retryTimerExpiry) hs rfl hinner.retryDone
        ((congrArg State.finishWork hdone).trans hfin)
      exact ⟨_, hex, rfl, hidx, hall⟩

end Sys2Proof.Machine
end

section
/-! PROOFS. TEST_RUN and TEST_ABORT (R147, R155, R160). -/

namespace Sys2Proof.Machine

/-! ### A run that is asked for -/

theorem State.reqTestRun_active {s : State} {b : Byte} (hphase : s.spc.phase = .prove ∨ s.spc.phase = .service) {e : PlanEntry}
    (he : s.stu.plan[b.toNat]? = some e) : s.reqTestRun b = okWith (s.requestRun b.toNat false) (fun _ =>
      e1 ((((s.requestRun b.toNat false).stu.runOf b.toNat).map (·.id)).getD 0) ++ eFlag (s.stu.runOf b.toNat).isSome) := by
  unfold State.reqTestRun
  rw [if_pos hphase, if_pos (by simp [he])]

/-- A request coalesced with a run of its entry leaves the queue as it is (R147). -/
theorem State.requestRun_coalesced {s : State} {i : Nat} {e : PlanEntry} (he : s.stu.plan[i]? = some e) {r : Run}
    (hr : s.stu.runOf i = some r) : s.requestRun i false = s := by
  unfold State.requestRun
  simp [he, hr]

/-- The new run at the tail is the run of its index. -/
theorem Stu.runOf_new {u : Stu} {i : Nat} {x : Run} (hnew : i ∉ u.queue.map (·.idx)) (hx : x.idx = i) (n : Nat) :
    ({ u with queue := u.queue ++ [x], runId := n } : Stu).runOf i = some x := by
  have hnone : u.queue.find? (fun r => decide (r.idx = i)) = none := by
    refine List.find?_eq_none.2 fun r hr => ?_
    have hne : r.idx ≠ i := fun h => hnew (h ▸ List.mem_map_of_mem hr)
    simpa using hne
  simp [Stu.runOf, List.find?_append, hnone, hx]

/-- TEST_RUN with no run of the entry there: a new run at the tail, named in the reply (R147). -/
theorem State.reqTestRun_new {s : State} {b : Byte} (hphase : s.spc.phase = .prove ∨ s.spc.phase = .service) {e : PlanEntry}
    (he : s.stu.plan[b.toNat]? = some e) (hnew : b.toNat ∉ s.stu.queue.map (·.idx)) :
    s.reqTestRun b = okWith { s with
        stu.queue := s.stu.queue ++ [{ idx := b.toNat, entry := e, id := nextRunId s.stu.runId, round := false }]
        stu.runId := nextRunId s.stu.runId
        work.runDue := s.work.runDue || s.stu.queue.isEmpty }
      (fun _ => e1 (nextRunId s.stu.runId) ++ eFlag false) := by
  have hnone : s.stu.runOf b.toNat = none := by
    unfold Stu.runOf
    refine List.find?_eq_none.2 fun r hr => ?_
    have hne : r.idx ≠ b.toNat := fun h => hnew (h ▸ List.mem_map_of_mem hr)
    simpa using hne
  have hfound := Stu.runOf_new (u := s.stu) (x := { idx := b.toNat, entry := e, id := nextRunId s.stu.runId, round := false })
    hnew rfl (nextRunId s.stu.runId)
  rw [State.reqTestRun_active hphase he, State.requestRun_new he hnew, hfound, hnone]
  rfl

/-- A SENSOR_CHECK at the head is judged at once by the three last gates (R155). -/
theorem State.startRun_sensor {s : State} {r : Run} (hq : s.stu.queue = [r]) (hr : r.state = .queued)
    (hkind : r.entry.kind = .sensorCheck) (hround : r.round = false) : ∃ x : LogRecord, s.startRun.stu.queue = []
      ∧ s.startRun.stu.log.head? = some x ∧ x.idx = r.idx ∧ x.id = r.id ∧ s.startRun.stu.runId = s.stu.runId
      ∧ (s.tlm.last3 = (true, true, true) → x.outcome = .pass ∧ x.cause = .none)
      ∧ (s.tlm.last3 ≠ (true, true, true) → x.outcome = .fail ∧ x.cause = .invalidGate) := by
  have heq : s.startRun = ((s.setActive { r with
        state := .running, fig.gateCount := s.tlm.gateCount, fig.gates := s.tlm.last3 }).noteTest).finishRun
      { r with state := .running, fig.gateCount := s.tlm.gateCount, fig.gates := s.tlm.last3 }
      (if s.tlm.last3.1 && s.tlm.last3.2.1 && s.tlm.last3.2.2 then .pass else .fail)
      (if s.tlm.last3.1 && s.tlm.last3.2.1 && s.tlm.last3.2.2 then .none else .invalidGate) := by
    unfold State.startRun State.endRun
    simp only [hq, hr, hkind, hround]
    rfl
  obtain ⟨d, x, hfinish, -, -⟩ := State.finishRun_eq ((s.setActive { r with
        state := .running, fig.gateCount := s.tlm.gateCount, fig.gates := s.tlm.last3 }).noteTest)
      { r with state := .running, fig.gateCount := s.tlm.gateCount, fig.gates := s.tlm.last3 }
      (if s.tlm.last3.1 && s.tlm.last3.2.1 && s.tlm.last3.2.2 then .pass else .fail)
      (if s.tlm.last3.1 && s.tlm.last3.2.1 && s.tlm.last3.2.2 then .none else .invalidGate)
  rw [heq, hfinish]
  refine ⟨_, ?_, rfl, rfl, rfl, rfl, fun h => ?_, fun h => ?_⟩
  · show s.stu.queue.tail = []
    rw [hq]
    rfl
  · simp [State.recordOf, h]
  · have hall : (s.tlm.last3.1 && s.tlm.last3.2.1 && s.tlm.last3.2.2) = false := by
      rw [Bool.eq_false_iff]
      intro hand
      simp only [Bool.and_eq_true] at hand
      exact h (Prod.ext hand.1.1 (Prod.ext hand.1.2 hand.2))
    simp [State.recordOf, hall]

/-- An event whose first work is the run at the head, where that run ends at once and leaves none. -/
theorem State.finishWork_emptied {s : State} (hacts : s.work.acts = []) (hdue : s.work.runDue = true)
    (hq : ({ s with work.runDue := false } : State).startRun.stu.queue = []) :
    State.Runless ({ s with work.runDue := false } : State).startRun s.finishWork
      ∧ s.finishWork.stu.runId = ({ s with work.runDue := false } : State).startRun.stu.runId := by
  rw [State.finishWork_endEvent, State.doWork, State.workStep_due hacts hdue]
  generalize ({ s with work.runDue := false } : State).startRun = t at hq ⊢
  have hw : State.Worked (· ≠ .run) t (State.doWork 47 t) := (State.Worked.refl t).doWork (I := t.Runless)
    (fun _ _ => State.Runless.edit) (fun _ hw => ⟨fun a _ => by cases a <;> simp [Action.cause], .inr hw.queue⟩) 47
    (State.Runless.refl hq)
  generalize State.doWork 47 t = w at hw
  obtain ⟨hwq, hlog, hsha⟩ := hw.keeps (fun _ _ => State.Runless.edit) (State.Runless.refl hq)
  refine ⟨⟨hwq, hlog, hsha⟩, hw.keeps (P := fun u => u.stu.runId = t.stu.runId) (fun _ _ e h => ?_) rfl⟩
  cases e with
  | runs v hv => exact hv.runId.trans h
  | offer hC m =>
    unfold State.offer
    split
    · exact h
    · exact h
  | raise | clear | bar | hold | tryActive | adaptDown | refDown => simpa using h
  | port | work | dropPeer | hunt | unconfirm | site | stopRead | halted | alloc => exact h

/-! ### A run that is aborted -/

/-- The only run, ended by the host: its record, what it held, and its round (R153, R160). -/
theorem State.abortRun_host {s : State} {r : Run} (hacts : s.work.acts = []) (hq : s.stu.queue = [r]) :
    (s.abortRun r .host).stu.queue = []
      ∧ (∃ x, (s.abortRun r .host).stu.log.head? = some x ∧ x.idx = r.idx ∧ x.id = r.id ∧ x.outcome = .aborted
        ∧ x.cause = .host)
      ∧ (r.entry.kind = .linkPattern → r.state ≠ .draining →
        (s.abortRun r .host).sha.tReq = 0 ∧ (s.abortRun r .host).sha.grant = none)
      ∧ (r.round = true → s.spc.prove = .round → s.spc.roundNo < 3 →
        (s.abortRun r .host).work.acts = [] ∧ (s.abortRun r .host).spc = s.spc.roundLost) := by
  by_cases hround : r.round = true
  · obtain ⟨k, a, hback⟩ := State.giveBack_eq s r .host
    have hbq : (s.giveBack r .host).stu.queue = [r] := (State.giveBack_queue s r .host).trans hq
    obtain ⟨d, g, x, hfails, -, hnoacts⟩ := State.endRun_fails (o := .aborted) hround hbq (by simp) (by simp) .host
    obtain ⟨y, hlost, -, hkept⟩ := State.roundFailed_eq ({ (s.giveBack r .host).withRaised x with
        stu := { (s.giveBack r .host).stu with
          log := ((s.giveBack r .host).recordOf r .aborted .host :: (s.giveBack r .host).stu.log).take 16
          decisive := d, queue := [], removed := g }
        work := { (s.giveBack r .host).work with
          acts := (s.giveBack r .host).work.acts ++ x.acts, runDue := !([] : List Run).isEmpty } } : State) r.idx
    have hend := hfails.trans hlost
    rw [hback] at hend hkept
    have habort : s.abortRun r .host = (s.giveBack r .host).endRun r .aborted .host := rfl
    rw [habort, hback, hend]
    refine ⟨rfl, ⟨_, rfl, rfl, rfl, rfl, rfl⟩, fun hkind hstate => ?_, fun _ _ hn => ⟨?_, rfl⟩⟩
    · rw [if_pos ⟨hkind, by simp [hstate]⟩]
      exact ⟨rfl, rfl⟩
    · show (s.work.acts ++ x.acts) ++ y.acts = []
      rw [hacts, hnoacts rfl, hkept hn]
      rfl
  · obtain ⟨k, a, d, m, heq⟩ := State.abortRun_eq s .host (by simpa using hround)
    rw [heq]
    refine ⟨congrArg List.tail hq, ⟨_, rfl, rfl, rfl, rfl, rfl⟩, fun hkind hstate => ?_, fun h => absurd h hround⟩
    rw [if_pos ⟨hkind, by simp [hstate]⟩]
    exact ⟨rfl, rfl⟩

/-- A queued run of no round is removed (R160). -/
theorem State.removeQueued_plain {s : State} {r q : Run} (hq : s.stu.queue = [r, q]) (hne : r.idx ≠ q.idx)
    (hstate : q.state = .queued) (hround : q.round = false) : ∃ g m, s.removeQueued q =
    { s with stu.queue := [r], stu.removed := g, mp := m } := by
  obtain ⟨g, m, heq⟩ := State.removeRuns_eq s (fun x => decide (x.idx = q.idx))
  have hfilter : s.stu.queue.filter (fun x => !(decide (x.state = .queued) && decide (x.idx = q.idx))) = [r] := by
    rw [hq]
    simp [hne, hstate]
  refine ⟨g, m, ?_⟩
  unfold State.removeQueued
  rw [heq, hfilter]
  simp [hround]

/-- Settles O27. -/
theorem testRunAndAbort : Obligations.TestRunAndAbort := by
  intro s tag i hs
  have hacts : s.received.work.acts = [] := congrArg Work.acts hs.1.1.1
  have hrun (hphase : s.spc.phase = .prove ∨ s.spc.phase = .service) {e : PlanEntry}
      (he : s.stu.plan[i.toNat]? = some e) (hnew : i.toNat ∉ s.stu.queue.map (·.idx)) :=
    State.reqTestRun_new (s := s.received) hphase he hnew
  have hload (h : s.spc.phase ≠ .load) := State.outsideLoad_of_ne (s := s.received) h
  refine ⟨fun e r he hq hstate hidx hphase => ?_, fun e he hq hgrant hphase => ?_, fun e r he hr hphase => ?_,
    fun r q hph hi hq hr hidx hstate hround => ?_, fun r hph hi hq hidx hstate => ?_, fun he hphase => ?_,
    fun hph hi => ?_, fun hph hi hq => ?_⟩
  · have hserve : s.received.serve (.testRun i) = _ := hrun hphase he (by simpa [hq] using Ne.symm hidx)
    obtain ⟨p, hex, hslot⟩ := exec_idle hs (c := .testRun tag i) rfl hserve rfl
      (by simp [State.received, hs.1.1.1, hq]) rfl
    refine ⟨_, hex, ?_, rfl, hslot⟩
    show s.stu.queue ++ _ = _
    rw [hq]
    rfl
  · have hserve : s.received.serve (.testRun i) = _ := hrun hphase he (by simp [hq])
    obtain ⟨w, p, hw, hex, hslot⟩ := exec_answered hs (c := .testRun tag i) rfl hserve rfl
    generalize hu : ({ s.received with
        stu.queue := s.received.stu.queue ++
          [{ idx := i.toNat, entry := e, id := nextRunId s.received.stu.runId, round := false }]
        stu.runId := nextRunId s.received.stu.runId
        work.runDue := s.received.work.runDue || s.received.stu.queue.isEmpty } : State) = u at hw
    have huq : u.stu.queue = [{ idx := i.toNat, entry := e, id := nextRunId s.stu.runId, round := false }] := by
      rw [← hu]
      show s.stu.queue ++ _ = _
      rw [hq]
      rfl
    have hudue : u.work.runDue = true := by
      rw [← hu]
      simp [State.received, hq]
    have huacts : u.work.acts = [] := by rw [← hu]; exact hacts
    have hurun : u.stu.runId = nextRunId s.stu.runId := by rw [← hu]; rfl
    have hugrant : u.sha.grant = none := by rw [← hu]; exact hgrant
    have hlast : u.tlm.last3 = s.tlm.last3 := by rw [← hu]; rfl
    by_cases hkind : e.kind = .sensorCheck
    · obtain ⟨x, hxq, hxlog, hxidx, hxid, hxrun, hpass, hfail⟩ := State.startRun_sensor
        (s := { u with work.runDue := false }) huq rfl hkind rfl
      obtain ⟨hless, hrunId⟩ := State.finishWork_emptied huacts hudue hxq
      rw [hw] at hless hrunId
      refine ⟨_, hex, hrunId.trans (hxrun.trans hurun), hslot, fun h => absurd hkind h, fun _ => ⟨hless.queue, x, ?_,
        hxidx, hxid, fun h => hpass (hlast.trans h), fun h => hfail fun h' => h (hlast.symm.trans h')⟩⟩
      exact (congrArg List.head? hless.log).trans hxlog
    · obtain ⟨x, q, hfin, hxq, hbegan⟩ := State.finishWork_begins huacts hudue huq rfl hkind hugrant
      have hwx := hw.symm.trans hfin
      rw [hwx] at hex
      refine ⟨_, hex, hurun, hslot, fun _ => ⟨q, hxq, hbegan.idx, hbegan.entry, hbegan.id, hbegan.round, hbegan.cross,
        hbegan.pattern⟩, fun h => absurd h hkind⟩
  · have hfound : s.received.stu.runOf i.toNat = some r := hr
    have hserve : s.received.serve (.testRun i) = okWith s.received (fun _ => e1 r.id ++ eFlag true) := by
      refine (State.reqTestRun_active (s := s.received) hphase he).trans ?_
      rw [State.requestRun_coalesced (s := s.received) he hfound, hfound]
      rfl
    exact exec_unchanged hs (c := .testRun tag i) rfl hserve rfl
  · have hfound : s.received.stu.runOf i.toNat = some q := by
      show s.stu.queue.find? _ = _
      rw [hq]
      simp [hr, hidx]
    obtain ⟨g, m, hremove⟩ := State.removeQueued_plain (s := s.received) hq (by rw [hidx]; exact hr) hstate hround
    have hserve : s.received.serve (.testAbort i) = okWith { s.received with
        stu.queue := [r], stu.removed := g, mp := m } (fun _ => e1 1) := by
      refine (hload hph _).trans ?_
      rw [if_neg (by omega), hfound]
      simp only [hstate, if_true]
      rw [hremove]
    obtain ⟨w, p, hw, hex, hslot⟩ := exec_answered hs (c := .testAbort tag i) rfl hserve rfl
    have hend := State.finishWork_settled (s := { s.received with stu.queue := [r], stu.removed := g, mp := m })
      ⟨hacts, congrArg Work.runDue hs.1.1.1⟩ (congrArg Work.alloc hs.1.1.1)
    replace hw := hend.symm.trans hw
    rw [← hw] at hex
    exact ⟨_, hex, rfl, hslot⟩
  · have hfound : s.received.stu.runOf i.toNat = some r := by
      show s.stu.queue.find? _ = _
      rw [hq]
      simp [hidx]
    have hserve : s.received.serve (.testAbort i) = okWith (s.received.abortRun r .host) (fun _ => e1 0) := by
      refine (hload hph _).trans ?_
      rw [if_neg (by omega), hfound]
      simp only [hstate, if_false]
    obtain ⟨w, p, hw, hex, hslot⟩ := exec_answered hs (c := .testAbort tag i) rfl hserve rfl
    obtain ⟨huq, ⟨x, hlog, hxidx, hxid, hout, hcause⟩, hsha, hlost⟩ := State.abortRun_host (s := s.received) hacts hq
    generalize s.received.abortRun r .host = u at hw huq hlog hsha hlost
    have hless := State.Runless.finishWork huq
    rw [hw] at hless
    refine ⟨_, x, hex, hless.queue, (congrArg List.head? hless.log).trans hlog, hxidx, hxid, hout, hcause, hslot,
      fun hkind hst => ?_, fun hround hprove hn => ?_⟩
    · obtain ⟨htReq, hgrant⟩ := hsha hkind hst
      exact hless.share htReq hgrant
    · obtain ⟨huacts, hspc⟩ := hlost hround hprove hn
      obtain ⟨a, ha⟩ := State.finishWork_quiet huacts huq
      have hwspc : w.spc = s.spc.roundLost := by
        rw [← hw, ha]
        exact hspc
      show w.spc.prove = _ ∧ w.spc.roundNo = _ ∧ w.spc.retry = _
      rw [hwspc, Spc.roundLost, if_pos hprove, if_pos hn]
      exact ⟨hprove, rfl, rfl⟩
  · refine exec_refused hs (c := .testRun tag i) rfl rfl ?_
    show s.received.reqTestRun i = _
    exact (if_pos hphase).trans (if_neg (by simp [State.received, he]))
  · exact exec_refused hs (c := .testAbort tag i) rfl rfl ((hload hph _).trans (if_pos hi))
  · have hfound : s.received.stu.runOf i.toNat = none := by
      show s.stu.queue.find? _ = _
      rw [hq]
      rfl
    have hserve : s.received.serve (.testAbort i) = okWith s.received (fun _ => e1 2) := by
      refine (hload hph _).trans ?_
      rw [if_neg (by omega), hfound]
    exact exec_unchanged hs (c := .testAbort tag i) rfl hserve rfl

end Sys2Proof.Machine
end

section
/-! PROOFS. A port's link (R103, R105, R108, R114), and responses that nothing in an event outranks but HALT (R167, R168). -/

namespace Sys2Proof.Machine

/-! ### What a raise leaves outstanding -/

/-- A raise leaves actions and record as they are, or is taken above the record there (R166 to R168). -/
theorem State.raise_answer (s : State) (x : Raise) :
    ((s.raise x).work.acts = s.work.acts ∧ (s.raise x).fmn.out = s.fmn.out)
    ∨ ∃ resp o, (s.fmn.row x.row).active = false ∧ s.fmn.response (rowClass x.row) x.phase = some resp
      ∧ (∀ p, s.fmn.out = some p → p.rank < resp.rank)
      ∧ (s.raise x).work.acts = s.work.acts ++ (actsAs resp x.phase).action x.row
      ∧ (s.raise x).fmn.out = some o ∧ o.rank = (actsAs resp x.phase).rank := by
  by_cases hact : (s.fmn.row x.row).active = true
  · have hsame : s.raise x = s := if_pos hact
    exact .inl ⟨by rw [hsame], by rw [hsame]⟩
  have hrec : s.raise x = (s.recordRaise x).answerRaise x := if_neg hact
  have hinactive : (s.fmn.row x.row).active = false := by simpa using hact
  have hlatched (h : s.fmn.response (rowClass x.row) x.phase = none ∨ s.fmn.response (rowClass x.row) x.phase = some .none) :
      (s.raise x).work.acts = s.work.acts ∧ (s.raise x).fmn.out = s.fmn.out := by
    obtain ⟨m, hm⟩ := State.answerRaise_latched (s := s.recordRaise x) h
    rw [hrec, hm]
    exact ⟨rfl, rfl⟩
  cases hresp : s.fmn.response (rowClass x.row) x.phase with
  | none => exact .inl (hlatched (.inl hresp))
  | some resp =>
    by_cases hnone : resp = .none
    · exact .inl (hlatched (.inr (hnone ▸ hresp)))
    by_cases hmask : ∃ o, s.fmn.out = some o ∧ resp.rank ≤ o.rank
    · obtain ⟨o, ho, hrank⟩ := hmask
      obtain ⟨m, hm⟩ := State.answerRaise_masked (s := s.recordRaise x) hresp hnone ho hrank
      rw [hrec, hm]
      exact .inl ⟨rfl, rfl⟩
    · have habove (p : Outstanding) (hp : s.fmn.out = some p) : p.rank < resp.rank := by
        by_contra hle
        exact hmask ⟨p, hp, by omega⟩
      obtain ⟨m, hm⟩ := State.raise_taken_eq hinactive hresp hnone habove rfl
      exact .inr ⟨resp, ⟨x.row, actsAs resp x.phase, (actsAs resp x.phase).rank, s.dsu.time, x.phase⟩, hinactive, rfl,
        habove, by rw [hm], by rw [hm]; rfl, rfl⟩

/-- No BAR is left to be done, and the record outstanding masks every one that may come. -/
def State.outranked (s : State) : Prop := (∀ a ∈ s.work.acts, a.cause ≠ .bar) ∧ ∃ o, s.fmn.out = some o ∧ 3 ≤ o.rank

/-- A response that outranks RESEEK's record is HALT. -/
theorem Response.halt_of_rank {resp : Response} (h : 3 < resp.rank) : resp = .halt := by
  cases resp with
  | halt => rfl
  | none | note | cap | bar | reseek => simp [Response.rank] at h

theorem FaultsOnly.outranked {C : Cause → Prop} : FaultsOnly C State.outranked where
  congr _ _ hf _ _ _ ha h := ⟨fun a hm => h.1 a (ha a hm), hf ▸ h.2⟩
  raise s r _ d h := by
    obtain ⟨hacts, o, ho, hrank⟩ := h
    rcases State.raise_answer s ⟨r, d, s.raisePhase⟩ with ⟨ha, hout⟩ | ⟨resp, p, -, -, habove, ha, hout, hp⟩
    · exact ⟨fun a hm => hacts a (ha ▸ hm), o, hout.trans ho, hrank⟩
    · have hhalt := Response.halt_of_rank (lt_of_le_of_lt hrank (habove o ho))
      have hacted : actsAs resp s.raisePhase = .halt := by rw [hhalt]; rfl
      refine ⟨fun a hm => ?_, p, hout, ?_⟩
      · rw [State.raiseNow, ha, hacted] at hm
        rcases List.mem_append.1 hm with hm | hm
        · exact hacts a hm
        · rw [List.mem_singleton.1 hm]
          simp [Action.cause]
      · rw [hp, hacted]
        simp [Response.rank]
  clear s r _ h := by
    have hout : (s.clear r).fmn.out = s.fmn.out := by
      unfold State.clear
      dsimp only
      split
      · split <;> rfl
      · rfl
    exact ⟨by simpa using h.1, hout.symm ▸ h.2⟩

/-! ### A port's link -/

/-- A tenant whose port is down and that is neither ACTIVE nor UNFIT stays so, in its state where nothing bars it. -/
theorem Tenant.Edit.down {C : Cause → Prop} {t u : Tenant} (e : t.Edit C u)
    (h : t.link = false ∧ t.state ≠ .active ∧ t.state ≠ .unfit) :
    (u.link = false ∧ u.state ≠ .active ∧ u.state ≠ .unfit) ∧ (¬ C .bar → u.state = t.state) := by
  obtain ⟨hlink, hactive, hunfit⟩ := h
  cases e with
  | same => exact ⟨⟨hlink, hactive, hunfit⟩, fun _ => rfl⟩
  | bar hC c =>
    refine ⟨?_, fun h => absurd hC h⟩
    unfold Tenant.bar
    split
    · exact ⟨hlink, by simp [Tenant.moved], by simp [Tenant.moved]⟩
    · exact ⟨hlink, hactive, hunfit⟩
  | held c =>
    have hsame : t.held c = t := if_neg (by simp [hactive, hunfit])
    rw [hsame]
    exact ⟨⟨hlink, hactive, hunfit⟩, fun _ => rfl⟩
  | tried p c =>
    have hsame : t.tried p c = t := if_neg (by simp [hlink])
    rw [hsame]
    exact ⟨⟨hlink, hactive, hunfit⟩, fun _ => rfl⟩
  | gap =>
    have hsame : t.gap.link = t.link ∧ t.gap.state = t.state := by
      unfold Tenant.gap
      split <;> exact ⟨rfl, rfl⟩
    rw [hsame.1, hsame.2]
    exact ⟨⟨hlink, hactive, hunfit⟩, fun _ => rfl⟩
  | judged c l n =>
    have hsame : (t.judged c l n).link = t.link ∧ (t.judged c l n).state = t.state := by
      unfold Tenant.judged
      simp only [if_neg hactive]
      (repeat' split) <;> exact ⟨rfl, rfl⟩
    rw [hsame.1, hsame.2]
    exact ⟨⟨hlink, hactive, hunfit⟩, fun _ => rfl⟩

/-- A port goes down (R105, R108, R114). -/
theorem State.portLink_down {s : State} {i : Fin 4} (hlink : (s.tpt.get i).link = true)
    (hentry : (s.tpt.get i).entry.isSome = true) :
    let t : Tenant := { s.tpt.get i with
      link := false, egress := []
      counts.egressDown := (s.tpt.get i).counts.egressDown + BitVec.ofNat 32 (s.tpt.get i).egress.length }
    let v := State.raiseNow { s with tpt := s.tpt.set i t } (17 + i.val) i.val
    (s.portLink i false).fmn = v.fmn ∧ (s.portLink i false).work.acts = v.work.acts ∧ (s.portLink i false).stu = s.stu
      ∧ (s.portLink i false).tpt.get i = { t with cause := .port }.held .port := by
  intro t v
  have heq : s.portLink i false = (v.tellTenant i .port).hold .port i := by
    unfold State.portLink
    dsimp only
    rw [if_neg (by simp [hlink]), if_neg (by simp), if_pos hentry]
    rfl
  rw [heq]
  refine ⟨by simp, ?_, by simp [v], ?_⟩
  · unfold State.hold
    split <;> simp [State.moveTenant_acts]
  · rw [State.hold_tpt, Four.get_set_same]
    simp [v]

/-- A port that goes down leaves no BAR of its tenant to be done where PORT_DOWN is active, or not answered so. -/
theorem State.raiseNow_unbarred {s : State} (hacts : s.work.acts = []) (i : Fin 4)
    (h : (s.fmn.row (17 + i.val)).active = true ∨ ∀ p, s.fmn.table[11]? = some p → p.bringup ≠ .bar ∧ p.service ≠ .bar) :
    (s.raiseNow (17 + i.val) i.val).work.acts = [] ∨ (s.raiseNow (17 + i.val) i.val).outranked := by
  rcases State.raise_answer s ⟨17 + i.val, i.val, s.raisePhase⟩ with ⟨ha, -⟩ | ⟨resp, o, hinactive, hresp, -, ha, hout, hrank⟩
  · exact .inl (ha.trans hacts)
  · rcases h with hactive | hnever
    · rw [hactive] at hinactive
      cases hinactive
    · rw [hacts, List.nil_append] at ha
      have hclass : rowClass (17 + i.val) = 11 := by
        unfold rowClass
        rw [if_neg (by omega), if_neg (by omega), if_neg (by omega)]
      obtain ⟨pair, hpair, hmem⟩ := Fmn.response_mem hresp
      rw [hclass] at hpair
      have hbar : resp ≠ .bar := by
        rintro rfl
        rcases List.mem_cons.1 hmem with hm | hm
        · exact (hnever pair hpair).1 hm.symm
        · exact (hnever pair hpair).2 (List.mem_singleton.1 hm).symm
      cases hacted : actsAs resp s.raisePhase with
      | none | note | cap => exact .inl (by rw [State.raiseNow, ha, hacted]; rfl)
      | bar =>
        rw [actsAs_eq] at hacted
        split at hacted
        · cases hacted
        · exact absurd hacted hbar
      | reseek | halt =>
        rw [hacted] at ha hrank
        refine .inr ⟨fun a hm => ?_, o, hout, by rw [hrank]; simp [Response.rank]⟩
        rw [State.raiseNow, ha] at hm
        rw [List.mem_singleton.1 hm]
        simp [Action.cause]

/-- A port comes up (R103, R108). -/
theorem State.portLink_up {s : State} {i : Fin 4} (hlink : (s.tpt.get i).link = false)
    (hentry : (s.tpt.get i).entry.isSome = true) :
    State.Tells (State.clear { s with tpt := s.tpt.set i { s.tpt.get i with link := true } } (17 + i.val)) (s.portLink i true)
      ∧ (s.portLink i true).tpt.get i = { s.tpt.get i with link := true, cause := .port }.tried s.spc.phase .port := by
  have heq : s.portLink i true =
      ((State.clear { s with tpt := s.tpt.set i { s.tpt.get i with link := true } } (17 + i.val)).tellTenant i
        .port).tryActive .port i := by
    unfold State.portLink
    dsimp only
    rw [if_neg (by simp [hlink]), if_pos rfl, if_pos hentry]
    rfl
  rw [heq]
  refine ⟨((State.Tells.refl _).tellTenant i _).tryActive _ i, ?_⟩
  rw [State.tryActive_tpt, Four.get_set_same]
  simp

/-- Settles O55. -/
theorem portLinkMovesTenant : Obligations.PortLinkMovesTenant := by
  intro s i hs hq hrows hentry
  have hacts : s.work.acts = [] := by rw [hs.1]
  have hinner := State.InnerOf.refl (Q := View.consistent) s
  refine ⟨fun hlink => ?_, fun hlink hheld hfit hphase => ?_⟩
  · obtain ⟨hfmn, huacts, hstu, htenant⟩ := State.portLink_down hlink hentry
    have hraised := State.raiseNow_active (s := { s with tpt := s.tpt.set i { s.tpt.get i with
      link := false, egress := []
      counts.egressDown := (s.tpt.get i).counts.egressDown + BitVec.ofNat 32 (s.tpt.get i).egress.length } })
      hrows (r := 17 + i.val) (by omega) i.val
    have hunbarred := State.raiseNow_unbarred (s := { s with tpt := s.tpt.set i { s.tpt.get i with
      link := false, egress := []
      counts.egressDown := (s.tpt.get i).counts.egressDown + BitVec.ofNat 32 (s.tpt.get i).egress.length } }) hacts i
    have hout {v : State} (hv : (s.portLink i false).fmn = v.fmn ∧ (s.portLink i false).work.acts = v.work.acts) :
        v.work.acts = [] ∨ v.outranked → (s.portLink i false).work.acts = [] ∨ (s.portLink i false).outranked := by
      unfold State.outranked
      rw [hv.1, hv.2]
      exact id
    replace hunbarred := fun h => hout ⟨hfmn, huacts⟩ (hunbarred h)
    rw [← hfmn] at hraised
    obtain ⟨n, hex⟩ := exec_ends (c := .portLinkChange i false) hs rfl (hinner.portLink i false) rfl
    generalize s.portLink i false = u at *
    have huq : u.stu.queue = [] := by rw [hstu, hq]
    have hdown : (u.tpt.get i).link = false ∧ (u.tpt.get i).state ≠ .active ∧ (u.tpt.get i).state ≠ .unfit := by
      rw [htenant]
      unfold Tenant.held
      split
      · exact ⟨rfl, by simp [Tenant.moved], by simp [Tenant.moved]⟩
      · next h => exact ⟨rfl, fun h' => h (.inl h'), fun h' => h (.inr h')⟩
    have hstate : (u.tpt.get i).state = if (s.tpt.get i).state = .active ∨ (s.tpt.get i).state = .unfit then .held
        else (s.tpt.get i).state := by
      rw [htenant]
      unfold Tenant.held
      split <;> rfl
    have hstays := (State.Worked.finishWork_any u).tenant (Q := fun x => x.link = false ∧ x.state ≠ .active ∧ x.state ≠ .unfit)
      i (fun _ _ e h => (e.down h).1) hdown
    have hsame : u.work.acts = [] ∨ u.outranked → (u.finishWork.tpt.get i).state = (u.tpt.get i).state := by
      rintro (hnone | houtranked)
      · obtain ⟨a, ha⟩ := State.finishWork_quiet hnone huq
        rw [ha]
        rfl
      · have hw : State.Worked (· ≠ .bar) u u.finishWork := State.Worked.finishWork
          (fun _ _ e => FaultsOnly.outranked.edit e) (fun _ h => ⟨h.1, .inl (by simp)⟩) houtranked
        exact (hw.tenant (Q := fun x => (x.link = false ∧ x.state ≠ .active ∧ x.state ≠ .unfit)
          ∧ x.state = (u.tpt.get i).state) i (fun x y e h => ⟨(e.down h.1).1, ((e.down h.1).2 (by simp)).trans h.2⟩)
          ⟨hdown, rfl⟩).2
    obtain ⟨-, -, hegress, -, -, -, -, hcount⟩ := Tenant.kept_fields (State.finishWork_kept u i)
    have hrow := State.finishWork_active (q := 17 + i.val) (by simp only [clearedRow]; omega) hraised
    generalize u.finishWork = w at hex hstays hsame hegress hcount hrow
    have hheld : (u.tpt.get i).egress = [] ∧ (u.tpt.get i).counts.egressDown =
        (s.tpt.get i).counts.egressDown + BitVec.ofNat 32 (s.tpt.get i).egress.length := by
      rw [htenant]
      unfold Tenant.held
      split <;> exact ⟨rfl, rfl⟩
    exact ⟨_, hex, hstays.1, hegress.trans hheld.1, hstays.2.2, hstays.2.1, hrow,
      fun h => (hsame (hunbarred h)).trans hstate, hcount.trans hheld.2⟩
  · obtain ⟨⟨x, hx, hfall⟩, htenant⟩ := State.portLink_up hlink hentry
    have hrow := hfall (17 + i.val)
    have hclear := State.clear_inactive { s with tpt := s.tpt.set i { s.tpt.get i with link := true } } (17 + i.val)
    obtain ⟨f, m, hc⟩ := State.clear_eq { s with tpt := s.tpt.set i { s.tpt.get i with link := true } } (17 + i.val)
    rw [hc] at hx hrow hclear
    obtain ⟨a, ha⟩ := State.finishWork_quiet (s := State.telling { s with
      tpt := s.tpt.set i { s.tpt.get i with link := true }, fmn := f, mp := m } x) hacts hq
    obtain ⟨n, hex⟩ := exec_ends (c := .portLinkChange i true) hs rfl (hinner.portLink i true)
      ((congrArg State.finishWork hx).trans ha)
    rw [hx] at htenant
    have hget : x.tpt.get i = ({ s.tpt.get i with link := true, cause := .port } : Tenant).moved .active .port :=
      htenant.trans (if_pos ⟨hheld, hphase, rfl, hfit⟩)
    refine ⟨_, hex, ?_⟩
    show (x.tpt.get i).link = _ ∧ (x.tpt.get i).state = _ ∧ (x.tpt.get i).permit = _ ∧ (x.fmn.row _).active = _
    rw [hget]
    refine ⟨rfl, rfl, rfl, ?_⟩
    by_contra h
    have hact := hrow (by simpa using h)
    rw [hclear] at hact
    cases hact

end Sys2Proof.Machine
end

section
/-! PROOFS. An image comes into force, or is rejected (R2, R179 to R181). -/

namespace Sys2Proof.Machine

/-! ### The end of an event and the image -/

/-- The end of an event leaves an image that is not being read alone (R181). -/
theorem State.finishWork_il {s : State} (h : s.il.state ≠ .reading) : s.finishWork.il = s.il := by
  refine (State.Worked.finishWork_any s).keeps (P := fun t => t.il = s.il) (fun t u e ht => ?_) rfl
  cases e with
  | stopRead hC hreading => exact absurd (ht ▸ hreading) h
  | raise | clear | bar | hold | tryActive | adaptDown | refDown | offer => simpa using ht
  | port | work | dropPeer | hunt | unconfirm | site | halted | alloc | runs => exact ht

/-- LOAD is not entered at the end of an event (R3). -/
theorem State.finishWork_outsideLoad {s : State} (h : s.spc.phase ≠ .load) : s.finishWork.spc.phase ≠ .load := by
  refine (State.Worked.finishWork_any s).keeps (P := fun t => t.spc.phase ≠ .load) (fun t u e ht => ?_) h
  cases e with
  | site hC c hc =>
    show c.phase ≠ .load
    rcases hc.phase with hsame | hne
    · rwa [hsame]
    · exact hne
  | raise | clear | bar | hold | tryActive | adaptDown | refDown | offer => simpa using ht
  | port | work | dropPeer | hunt | unconfirm | stopRead | halted | alloc | runs => exact ht

/-! ### An image in force -/

theorem State.tenantsForce_il (s : State) (b : Bytes) : (s.tenantsForce b).il = s.il := by
  unfold State.tenantsForce
  generalize chunks 24 b = xs
  induction xs generalizing s with
  | nil => rfl
  | cons x xs ih =>
    refine (ih _).trans ?_
    simp

/-- What the sections say goes to their owners; of the image itself only the LINK settings are taken (R180). -/
theorem State.settingsForce_il (s : State) (img : Bytes) (dir : List DirEntry) (l : LinkSet) :
    (s.settingsForce img dir l).il = { s.il with link := some l } := by
  have hfaults (t : State) (b : Option Bytes) : (t.faultsForce b).il = t.il := by cases b <;> rfl
  have hprofiles (t : State) (b : Option Bytes) : (t.profilesForce b).il = t.il := by cases b <;> rfl
  have hthermal (t : State) (b : Option Bytes) : (t.thermalSection b).il = t.il := by
    cases b <;> simp [State.thermalSection]
  have htiming (t : State) (b : Option Bytes) (hub : Bool) : (t.timingSection b hub).il = t.il := by
    cases b <;> simp [State.timingSection, State.refForce]
  have htenants (t : State) (b : Option Bytes) : (t.tenantSection b).il = t.il := by
    cases b with
    | none => rfl
    | some b => exact State.tenantsForce_il t b
  rw [State.settingsForce_eq, htenants, htiming, hthermal]
  show (((s.clear rowImage).faultsForce _).linkForce l |>.profilesForce _).il = _
  rw [hprofiles]
  show ({ ((s.clear rowImage).faultsForce _).il with link := some l } : Il) = _
  rw [hfaults]
  simp

theorem State.leaveLoad_il (s : State) (l : LinkSet) : (s.leaveLoad l).il = s.il := by
  unfold State.leaveLoad
  dsimp only
  split <;> simp

/-- LOAD is left for ALIGN or SEEK (R2). -/
theorem State.leaveLoad_phase (s : State) (l : LinkSet) : (s.leaveLoad l).spc.phase ≠ .load := by
  unfold State.leaveLoad
  dsimp only
  split <;> simp [State.movePhase_spc]

/-- A valid image is accepted, and LOAD is left (R2, R180). -/
theorem State.endValidation_accepted {s : State} (h : validate s.il.bytes = none) (src : ImageSource) :
    (s.endValidation src).il = { s.il with
        state := .accepted, source := some src, dir := readDir s.il.bytes s.il.count
        link := some (readLink ((sectionOf s.il.bytes (readDir s.il.bytes s.il.count) 1).getD [])) }
      ∧ (s.endValidation src).spc.phase ≠ .load := by
  have heq : s.endValidation src = (State.leaveLoad (State.settingsForce { s with
        il.state := .accepted, il.source := some src, il.dir := readDir s.il.bytes s.il.count } s.il.bytes
      (readDir s.il.bytes s.il.count) (readLink ((sectionOf s.il.bytes (readDir s.il.bytes s.il.count) 1).getD [])))
      (readLink ((sectionOf s.il.bytes (readDir s.il.bytes s.il.count) 1).getD []))).noteImage := by
    unfold State.endValidation
    simp only [h]
  rw [heq]
  exact ⟨(State.leaveLoad_il _ _).trans (State.settingsForce_il _ _ _ _), State.leaveLoad_phase _ _⟩

/-- An image that fails its validation is rejected, and IMAGE raised (R180). -/
theorem State.endValidation_rejected {s : State} {reason : RejectReason} {pos : Nat}
    (h : validate s.il.bytes = some (reason, pos)) (hrows : s.fmn.rows.length = 21) (src : ImageSource) :
    (s.endValidation src).il = { s.il with state := .rejected, source := some src, reject := some (reason, pos) }
      ∧ ((s.endValidation src).fmn.row 0).active = true := by
  have hnoted : ∃ m, (if s.il.state = .rejected then
        ({ s with il.state := .rejected, il.source := some src, il.reject := some (reason, pos) } : State)
      else State.noteImage { s with il.state := .rejected, il.source := some src, il.reject := some (reason, pos) }) =
      { s with il := { s.il with state := .rejected, source := some src, reject := some (reason, pos) }, mp := m } := by
    split
    · exact ⟨s.mp, rfl⟩
    · exact ⟨_, rfl⟩
  obtain ⟨m, hm⟩ := hnoted
  have heq : s.endValidation src = State.raiseNow { s with
      il := { s.il with state := .rejected, source := some src, reject := some (reason, pos) }, mp := m } 0 reason.code := by
    unfold State.endValidation
    simp only [h]
    rw [hm]
    rfl
  rw [heq]
  exact ⟨by simp, State.raiseNow_active (s := { s with
    il := { s.il with state := .rejected, source := some src, reject := some (reason, pos) }, mp := m }) hrows (by omega) _⟩

/-- Settles O18. -/
theorem imageCommitValidates : Obligations.ImageCommitValidates := by
  intro s tag hs hphase hsaving hrows hstate
  have hload (a : Answer) : s.received.inLoad a = a := by
    have hbusy : ¬ (s.received.il.state = .reading ∨ s.received.il.saving = true) := by
      show ¬ (s.il.state = .reading ∨ s.il.saving = true)
      rcases hstate with h | h | h <;> simp [h, hsaving]
    have hopen : ¬ s.received.il.state = .accepted := by
      show ¬ s.il.state = .accepted
      rcases hstate with h | h | h <;> simp [h]
    exact (if_neg (not_not_intro hphase)).trans ((if_neg hbusy).trans (if_neg hopen))
  have hcommit : s.received.serve .imageCommit = s.received.inLoad (match validate s.il.bytes with
    | none => okOnly (s.received.endValidation .commit)
    | some (reason, pos) =>
      ⟨s.received.endValidation .commit, .badValue, fun _ => e1 reason.code ++ e2 pos⟩) := rfl
  rw [hload] at hcommit
  refine ⟨fun hvalid => ?_, fun reason pos hvalid => ?_⟩
  · obtain ⟨hil, hout⟩ := State.endValidation_accepted (s := s.received) hvalid .commit
    have hserve : s.received.serve .imageCommit = okOnly (s.received.endValidation .commit) := by
      rw [hcommit, hvalid]
    obtain ⟨w, p, hw, hex, hslot⟩ := exec_answered hs (c := .imageCommit tag) rfl hserve rfl
    generalize s.received.endValidation .commit = u at hil hout hw
    have hwil := State.finishWork_il (s := u) (by rw [hil]; simp)
    have hwout := State.finishWork_outsideLoad hout
    rw [hw, hil] at hwil
    rw [hw] at hwout
    refine ⟨_, hex, ?_⟩
    show w.il.state = _ ∧ w.il.source = _ ∧ w.il.buffer = _ ∧ _ ∧ p.slot = _ ∧ w.il.link = _
    rw [hwil]
    exact ⟨rfl, rfl, rfl, hwout, hslot, rfl⟩
  · obtain ⟨hil, hrow⟩ := State.endValidation_rejected (s := s.received) hvalid hrows .commit
    have hserve : s.received.serve .imageCommit =
        ⟨s.received.endValidation .commit, .badValue, fun _ => e1 reason.code ++ e2 pos⟩ := by
      rw [hcommit, hvalid]
    obtain ⟨w, p, hw, hex, hslot⟩ := exec_answered hs (c := .imageCommit tag) rfl hserve rfl
    generalize s.received.endValidation .commit = u at hil hrow hw
    have hwil := State.finishWork_il (s := u) (by rw [hil]; simp)
    have hwrow := State.finishWork_active (q := 0) (by simp [clearedRow]) hrow
    rw [hw, hil] at hwil
    rw [hw] at hwrow
    refine ⟨_, hex, ?_⟩
    show w.il.state = _ ∧ w.il.reject = _ ∧ w.il.buffer = _ ∧ _ ∧ p.slot = _
    rw [hwil]
    exact ⟨rfl, rfl, rfl, hwrow, hslot⟩

/-! ### The EEPROM read -/

/-- Zeros behind the bytes are in no field's number. -/
theorem readLe_append_zeros (bs : Bytes) (k : Nat) : readLe (bs ++ List.replicate k 0) = readLe bs := by
  induction bs with
  | nil =>
    induction k with
    | zero => rfl
    | succ k ih => simpa [readLe, List.replicate_succ] using ih
  | cons b bs ih => exact congrArg (fun n => b.toNat + 256 * n) ih

theorem field_append_zeros (bs : Bytes) (k off n : Nat) : field (bs ++ List.replicate k 0) off n = field bs off n := by
  unfold field slice
  rw [List.drop_append, List.take_append, List.drop_replicate, List.take_replicate, readLe_append_zeros]

theorem field_take (bs : Bytes) {off n m : Nat} (h : off + n ≤ m) : field (bs.take m) off n = field bs off n := by
  unfold field slice
  rw [List.drop_take, List.take_take, Nat.min_eq_left (by omega)]

/-- Bytes written from the start of an empty buffer are read back from it, and zeros behind them. -/
theorem Memory.readBytes_ofBytes {bs : Bytes} (h : bs.length ≤ 1024) :
    (Memory.ofBytes bs).readBytes 0 1024 = bs ++ List.replicate (1024 - bs.length) 0 := by
  refine List.ext_getElem? fun k => ?_
  rw [Memory.readBytes_getElem?, Memory.ofBytes, Memory.read_writeBytes 0 bs rfl (by simpa [bufferSize] using h), List.getElem?_append,
    List.getElem?_replicate]
  by_cases hk : k < bs.length
  · simp [hk, show k < 1024 by omega]
  · by_cases hk' : k < 1024
    · simp [hk, hk', Memory.read, show k - bs.length < 1024 - bs.length by omega]
    · simp [hk, hk', show ¬ k - bs.length < 1024 - bs.length by omega]

/-- The head of an image that the read brings is found by the validation of what it leaves. -/
theorem field_ofBytes_take (b : Bytes) {m off n : Nat} (hm : m ≤ 1024) (h : off + n ≤ m) :
    field ((Memory.ofBytes (b.take m)).readBytes 0 1024) off n = field b off n := by
  rw [Memory.readBytes_ofBytes ((List.length_take_le _ _).trans hm), field_append_zeros, field_take _ h]

/-- An image of the signature with a length out of range is rejected for it, or for its version (R179). -/
theorem validate_short {b : Bytes} (hsig : field b 0 1 = 0x6B) (hlen : field b 2 2 < 38 ∨ 1024 < field b 2 2) :
    validate ((Memory.ofBytes (b.take 5)).readBytes 0 1024) =
      some (if field b 1 1 = 1 then (.length, 2) else (.signature, 1)) := by
  have hf (off n : Nat) (h : off + n ≤ 5) := field_ofBytes_take b (m := 5) (by omega) h
  unfold validate
  rw [hf 0 1 (by omega), hf 1 1 (by omega), hf 2 2 (by omega), if_neg (not_not_intro hsig)]
  by_cases hver : field b 1 1 = 1
  · rw [if_neg (not_not_intro hver), if_pos hver]
    exact if_pos hlen
  · rw [if_neg hver]
    exact if_pos hver

/-- The read brought no image: the device did not answer, or its signature is another (R181). -/
theorem State.endRead_empty {s : State} (hreading : s.il.state = .reading) {a : Bool} {b : Bytes}
    (hsig : field (if a = true then b else []) 0 1 ≠ 0x6B) : ∃ m, s.endRead a b = { s with
      il := { s.il with
        answered := some a, state := .empty, buffer := Memory.ofBytes ((if a = true then b else []).take 5) }, mp := m } := by
  unfold State.endRead
  rw [if_pos hreading]
  dsimp only
  rw [if_pos hsig]
  exact ⟨_, rfl⟩

/-- The read brought an image's first bytes: the whole of it, or its head, is validated (R181). -/
theorem State.endRead_validated {s : State} (hreading : s.il.state = .reading) {b : Bytes} (hsig : field b 0 1 = 0x6B) :
    s.endRead true b = State.endValidation { s with
      il.answered := some true
      il.buffer := Memory.ofBytes (b.take (if 38 ≤ field b 2 2 ∧ field b 2 2 ≤ 1024 then field b 2 2 else 5)) } .eeprom := by
  unfold State.endRead
  rw [if_pos hreading]
  exact if_neg (not_not_intro hsig)

/-- A read whose image is rejected, up to the end of the event. -/
theorem exec_eepromReadDone_rejected {s : State} (hs : s.calm) (hreading : s.il.state = .reading)
    (hrows : s.fmn.rows.length = 21) {b : Bytes} (hsig : field b 0 1 = 0x6B) {held : Memory}
    (hheld : Memory.ofBytes (b.take (if 38 ≤ field b 2 2 ∧ field b 2 2 ≤ 1024 then field b 2 2 else 5)) = held)
    {reason : RejectReason} {pos : Nat} (hinvalid : validate (held.readBytes 0 1024) = some (reason, pos)) :
    ∃ t, exec (.eepromReadDone true b) s = .next t ∧ t.il.state = .rejected ∧ t.il.reject = some (reason, pos)
      ∧ t.il.buffer = held ∧ t.rowActive 0 := by
  have hread := State.endRead_validated hreading hsig
  rw [hheld] at hread
  obtain ⟨hil, hrow⟩ := State.endValidation_rejected (s := { s with il.answered := some true, il.buffer := held })
    hinvalid hrows .eeprom
  rw [← hread] at hil hrow
  obtain ⟨n, hex⟩ := exec_ends (c := .eepromReadDone true b) hs rfl
    ((State.InnerOf.refl (Q := View.consistent) s).endRead true b) rfl
  generalize s.endRead true b = u at hil hrow hex
  have hwil := State.finishWork_il (s := u) (by rw [hil]; simp)
  have hwrow := State.finishWork_active (q := 0) (by simp [clearedRow]) hrow
  rw [hil] at hwil
  generalize u.finishWork = w at hex hwil hwrow
  refine ⟨_, hex, ?_⟩
  show w.il.state = _ ∧ w.il.reject = _ ∧ w.il.buffer = _ ∧ _
  rw [hwil]
  exact ⟨rfl, rfl, rfl, hwrow⟩

/-- Settles O33. -/
theorem eepromReadEnds : Obligations.EepromReadEnds := by
  intro s hs hreading hphase hrows
  have hinner := State.InnerOf.refl (Q := View.consistent) s
  have hidle (il : Il) (m : Mp) : ({ s with il := il, mp := m } : State).finishWork = { s with il := il, mp := m } :=
    State.finishWork_idle hs.1 hs.2.1
  refine ⟨fun b => ?_, fun b hsig => ?_, fun b hsig hlen => ?_, fun b hsig hlo hhi => ⟨fun hvalid => ?_,
    fun reason pos hinvalid => ?_⟩⟩
  · obtain ⟨m, hread⟩ := State.endRead_empty hreading (a := false) (b := b) (by simp [field, slice, readLe])
    obtain ⟨n, hex⟩ := exec_ends (c := .eepromReadDone false b) hs rfl (hinner.endRead false b)
      ((congrArg State.finishWork hread).trans (hidle _ m))
    exact ⟨_, hex, rfl, rfl, hphase, rfl⟩
  · obtain ⟨m, hread⟩ := State.endRead_empty hreading (a := true) (b := b) (by simpa using hsig)
    obtain ⟨n, hex⟩ := exec_ends (c := .eepromReadDone true b) hs rfl (hinner.endRead true b)
      ((congrArg State.finishWork hread).trans (hidle _ m))
    exact ⟨_, hex, rfl, rfl, rfl, rfl⟩
  · have hshort := validate_short hsig hlen
    have hheld : Memory.ofBytes (b.take (if 38 ≤ field b 2 2 ∧ field b 2 2 ≤ 1024 then field b 2 2 else 5)) =
        Memory.ofBytes (b.take 5) := by rw [if_neg (by omega)]
    by_cases hver : field b 1 1 = 1
    · rw [if_pos hver] at hshort
      obtain ⟨t, hex, hstate, hreject, hbuffer, hrow⟩ := exec_eepromReadDone_rejected hs hreading hrows hsig hheld hshort
      exact ⟨t, _, hex, hstate, hreject, (if_pos hver).symm, hbuffer, hrow⟩
    · rw [if_neg hver] at hshort
      obtain ⟨t, hex, hstate, hreject, hbuffer, hrow⟩ := exec_eepromReadDone_rejected hs hreading hrows hsig hheld hshort
      exact ⟨t, _, hex, hstate, hreject, (if_neg hver).symm, hbuffer, hrow⟩
  · have hread := State.endRead_validated hreading hsig
    rw [if_pos ⟨hlo, hhi⟩] at hread
    obtain ⟨hil, hout⟩ := State.endValidation_accepted (s := { s with
      il.answered := some true, il.buffer := Memory.ofBytes (b.take (field b 2 2)) }) hvalid .eeprom
    rw [← hread] at hil hout
    obtain ⟨n, hex⟩ := exec_ends (c := .eepromReadDone true b) hs rfl (hinner.endRead true b) rfl
    generalize s.endRead true b = u at hil hout hex
    have hwil := State.finishWork_il (s := u) (by rw [hil]; simp)
    have hwout := State.finishWork_outsideLoad hout
    rw [hil] at hwil
    generalize u.finishWork = w at hex hwil hwout
    refine ⟨_, hex, ?_⟩
    show w.il.state = _ ∧ w.il.source = _ ∧ w.il.buffer = _ ∧ _
    rw [hwil]
    exact ⟨rfl, rfl, rfl, hwout⟩
  · obtain ⟨t, hex, hstate, hreject, -, hrow⟩ := exec_eepromReadDone_rejected hs hreading hrows hsig
      (by rw [if_pos ⟨hlo, hhi⟩]) hinvalid
    exact ⟨t, hex, hstate, hreject, hrow⟩

end Sys2Proof.Machine
end

section
/-! PROOFS. TENANT_SET (R99 to R104). -/

namespace Sys2Proof.Machine

/-! ### What it makes of a tenant -/

/-- A tenant emptied (R101). -/
def Tenant.vacated (t : Tenant) : Tenant :=
  { t.flush with
    entry := none, fit := none, refit := none, thr := 0, secDrops := 0
    left := t.state, state := .vacant, permit := false, cause := .tenantSet }

theorem State.vacate_tpt (s : State) (i : Fin 4) : (s.vacate i).tpt = s.tpt.set i (s.tpt.get i).vacated := by
  unfold State.vacate
  simp [State.moveTenant_tpt', Tenant.vacated, Tenant.moved, Tenant.flush]

/-- A tenant given its first entry (R99, R101). -/
def Tenant.entered (t : Tenant) (e : Entry) (thr : Nat) (fits : Bool) (c : TenantCause) : Tenant :=
  { t with
    entry := some e, refit := none, thr := thr, secDrops := 0, fit := some (if fits then .fit else .lost)
    left := t.state, state := .held, permit := false, cause := c }

/-- A tenant's first entry before its port is looked at (R99, R101). -/
def State.entering (s : State) (i : Fin 4) (e : Entry) (thr : Nat) (c : TenantCause) : State :=
  (s.modTenant i (fun t => { t with
    entry := some e, refit := none, thr := thr, secDrops := 0
    fit := some (if timingFit e s.dsu.loop s.dsu.u then .fit else .lost) })).moveTenant i .held c

theorem State.entering_tpt (s : State) (i : Fin 4) (e : Entry) (thr : Nat) (c : TenantCause) :
    (s.entering i e thr c).tpt = s.tpt.set i ((s.tpt.get i).entered e thr (timingFit e s.dsu.loop s.dsu.u) c) := by
  simp [State.entering, State.moveTenant_tpt', Tenant.entered, Tenant.moved]

/-- PORT_DOWN is raised where the port is down (R108). -/
theorem State.enterEntry_eq (s : State) (i : Fin 4) (e : Entry) (thr : Nat) (c : TenantCause) :
    s.enterEntry i e thr c = if (s.tpt.get i).link = true then s.entering i e thr c
      else (s.entering i e thr c).raiseNow (17 + i.val) i.val := by
  have hlink : ((s.entering i e thr c).tpt.get i).link = (s.tpt.get i).link := by
    simp [State.entering_tpt, Tenant.entered]
  rw [← hlink]
  rfl

theorem State.enterEntry_tpt (s : State) (i : Fin 4) (e : Entry) (thr : Nat) (c : TenantCause) :
    (s.enterEntry i e thr c).tpt = s.tpt.set i ((s.tpt.get i).entered e thr (timingFit e s.dsu.loop s.dsu.u) c) := by
  rw [State.enterEntry_eq]
  split
  · exact State.entering_tpt s i e thr c
  · simp [State.entering_tpt]

theorem State.replaceEntry_tpt (s : State) (i : Fin 4) (e : Entry) : (s.replaceEntry i e).tpt =
    s.tpt.set i (({ s.tpt.get i with entry := some e }.judged .tenantSet s.dsu.loop s.dsu.u).tried s.spc.phase .tenantSet) := by
  unfold State.replaceEntry
  dsimp only
  split <;> simp [State.tryActive_tpt, State.judgeFitness_tpt]

theorem State.tenantSetTaken_tells (s : State) (i : Fin 4) : State.Tells s (s.tenantSetTaken i).state :=
  ((State.Tells.refl s).tellTenant i _).wantAlloc _

theorem State.tenantSetTaken_tpt (s : State) (i : Fin 4) :
    (s.tenantSetTaken i).state.tpt = s.tpt.set i { s.tpt.get i with cause := .tenantSet } := by
  show ((s.tellTenant i .tenantSet).wantAlloc .tenantSet).tpt = _
  simp

theorem State.vacate_tells (s : State) (i : Fin 4) : State.Tells s (s.vacate i) :=
  ((((((State.Tells.refl s).modTenant i _).moveTenant i _ _).clear _).clear _).clear _)

/-- The first entry of a tenant whose port is up, or whose PORT_DOWN brings no action, leaves no action. -/
theorem State.enterEntry_acts {s : State} {i : Fin 4} (h : (s.tpt.get i).link = true ∨ s.fmn.phaseStays (17 + i.val))
    (e : Entry) (thr : Nat) (c : TenantCause) : (s.enterEntry i e thr c).work.acts = s.work.acts := by
  have hacts : (s.entering i e thr c).work.acts = s.work.acts := by
    rw [State.entering, State.moveTenant_acts]
    rfl
  rw [State.enterEntry_eq]
  split
  · exact hacts
  · next hlink =>
    have hfmn : (s.entering i e thr c).fmn = s.fmn := by simp [State.entering]
    have hstays : (s.entering i e thr c).fmn.phaseStays (17 + i.val) := by
      rw [hfmn]
      exact h.resolve_left hlink
    generalize s.entering i e thr c = t at hacts hstays
    obtain ⟨f, k, m, heq⟩ := State.raise_stays (s := t) (x := ⟨17 + i.val, i.val, t.raisePhase⟩) hstays
    exact (congrArg (fun u : State => u.work.acts) heq).trans hacts

/-- The first entry of a tenant whose port is down raises PORT_DOWN (R108). -/
theorem State.enterEntry_portDown {s : State} {i : Fin 4} (hlink : (s.tpt.get i).link = false) (hrows : s.fmn.rows.length = 21)
    (e : Entry) (thr : Nat) (c : TenantCause) : ((s.enterEntry i e thr c).fmn.row (17 + i.val)).active = true := by
  have hfmn : (s.entering i e thr c).fmn = s.fmn := by simp [State.entering]
  rw [State.enterEntry_eq, if_neg (by simp [hlink])]
  exact State.raiseNow_active (by rw [hfmn]; exact hrows) (by omega) _

/-! ### The entry of a present tenant replaced -/

/-- A tenant with its entry replaced and judged at once (R101, R102). -/
def Tenant.replaced (t : Tenant) (e : Entry) (phase : Phase) (loop : LoopState) (u : Nat) : Tenant :=
  { (({ t with entry := some e } : Tenant).judged .tenantSet loop u).tried phase .tenantSet with cause := .tenantSet }

/-- The raise of HOLDOVER_LIMIT that a judgement brings (R109). -/
def Tenant.overdue (t : Tenant) (e : Entry) (loop : LoopState) (u : Nat) : Prop :=
  timingFit e loop u = false ∧ t.fit ≠ some .lost ∧ t.state = .active ∧ e.timing = .phase ∧ loop = .holdover

theorem State.judgeFitness_acts {s : State} {i : Fin 4} {e : Entry} (he : (s.tpt.get i).entry = some e)
    (h : ¬ (s.tpt.get i).overdue e s.dsu.loop s.dsu.u) (c : TenantCause) :
    (s.judgeFitness c i).work.acts = s.work.acts := by
  unfold State.judgeFitness
  simp only [he]
  split
  · split <;> rfl
  · next hfits =>
    split
    · rfl
    · next hlost =>
      split
      · next hactive =>
        split
        · next hraise =>
          simp only [Bool.and_eq_true, decide_eq_true_eq, State.moveTenant_frame] at hraise
          exact absurd ⟨by simpa using hfits, hlost, hactive, hraise.1, hraise.2⟩ h
        · rw [State.moveTenant_acts]
          rfl
      · rfl

theorem State.replaceEntry_acts {s : State} {i : Fin 4} {e : Entry}
    (h : ¬ (s.tpt.get i).overdue e s.dsu.loop s.dsu.u) : (s.replaceEntry i e).work.acts = s.work.acts := by
  have hjudge := State.judgeFitness_acts (s := s.modTenant i (fun t => { t with entry := some e })) (i := i) (e := e)
    (by simp) (by simpa [Tenant.overdue] using h) .tenantSet
  have htry (t : State) : (t.tryActive .tenantSet i).work.acts = t.work.acts := by
    unfold State.tryActive
    split
    · rw [State.activate, (State.clear_frame _ _).2.2.2.2.2.2.2.2.2.2.2.2, State.moveTenant_acts]
    · rfl
  unfold State.replaceEntry
  dsimp only
  rw [htry]
  split
  · exact hjudge
  · rw [(State.clear_frame _ _).2.2.2.2.2.2.2.2.2.2.2.2]
    exact hjudge

/-! ### A loop too late for a tenant stays so to the end of the event -/

/-- No PHASE tenant of this budget is fit by the loop (R92). -/
def Dsu.late (d : Dsu) (budget : Nat) : Prop := d.loop ≠ .track ∧ (d.loop = .holdover → budget < d.u)

theorem Dsu.late.unfit {d : Dsu} {e : Entry} (h : d.late e.budget) (htiming : e.timing = .phase) :
    timingFit e d.loop d.u = false := by
  obtain ⟨htrack, hold⟩ := h
  unfold timingFit
  simp only [htiming, htrack, decide_false, Bool.false_or, Bool.and_eq_false_iff, decide_eq_false_iff_not]
  by_cases hl : d.loop = .holdover
  · have := hold hl
    exact .inr (by omega)
  · exact .inl hl

/-- What a change of the selection makes of the loop: it moves, by a loss or a gain of its reference, and judges (R81). -/
structure State.LoopMoved (s t : State) (st : LoopState) : Prop where
  by_ : st = .acquire ∨ (s.dsu.loop = .track ∨ s.dsu.loop = .acquire) ∧ (st = .free ∨ st = .holdover)
  loop : t.dsu.loop = (s.dsu.moveTo st).loop
  u : t.dsu.u = (s.dsu.moveTo st).u
  judged : ∀ i, t.tpt.get i = (s.tpt.get i).judged .fitness t.dsu.loop t.dsu.u

/-- The loop and the tenants are as they were, or the loop has moved. -/
def State.loopFollows (s t : State) : Prop := (t.dsu = s.dsu ∧ t.tpt = s.tpt) ∨ ∃ st, s.LoopMoved t st

theorem State.moveLoop_moved (s : State) {st : LoopState} (c : TimeCause)
    (h : st = .acquire ∨ (s.dsu.loop = .track ∨ s.dsu.loop = .acquire) ∧ (st = .free ∨ st = .holdover)) :
    s.LoopMoved (s.moveLoop st c) st := by
  unfold State.moveLoop
  dsimp only
  generalize hd : ({ s.dsu.moveTo st with acq := 0, trk := 0, left := s.dsu.loop, cause := c, landing := none } : Dsu) = d
  have hdsu : (({ s with dsu := d } : State).handQuality.noteTime).dsu = d := by simp
  refine ⟨h, ?_, ?_, fun i => ?_⟩
  · rw [hdsu, ← hd]
  · rw [hdsu, ← hd]
  · rw [hdsu]
    show ({ s with dsu := d } : State).handQuality.tpt.get i = _
    rw [State.handQuality_tpt, Four.get_of]

theorem Dsu.lostState_cases (d : Dsu) : d.lostState = .free ∨ d.lostState = .holdover := by
  unfold Dsu.lostState
  split
  · exact .inl rfl
  · exact .inr rfl

theorem State.loopOnSelection_follows (s : State) (a b : Option Ref) : s.loopFollows (s.loopOnSelection a b) := by
  unfold State.loopOnSelection
  split
  · split
    · exact .inr ⟨_, State.moveLoop_moved s _ (.inl rfl)⟩
    · exact .inl ⟨rfl, rfl⟩
  · split
    · next h => exact .inr ⟨_, State.moveLoop_moved s _ (.inr ⟨h, Dsu.lostState_cases _⟩)⟩
    · exact .inl ⟨rfl, rfl⟩
  · exact .inl ⟨rfl, rfl⟩

/-- What follows of a state follows of one with the same loop and tenants. -/
theorem State.loopFollows.of_eq {s t u : State} (h : t.loopFollows u) (hdsu : t.dsu = s.dsu) (htpt : t.tpt = s.tpt) :
    s.loopFollows u := by
  rcases h with ⟨hd, ht⟩ | ⟨st, hby, hloop, hu, hjudged⟩
  · exact .inl ⟨hd.trans hdsu, ht.trans htpt⟩
  · rw [hdsu] at hby hloop hu
    rw [htpt] at hjudged
    exact .inr ⟨st, hby, hloop, hu, hjudged⟩

theorem State.select_follows (s : State) (n : Option Ref) : s.loopFollows (s.select n) := by
  unfold State.select
  dsimp only
  split
  · exact .inl ⟨rfl, rfl⟩
  · generalize ht : State.noteRef _ .l = t
    have hsame : t.dsu = s.dsu ∧ t.tpt = s.tpt := by
      rw [← ht]
      split <;> simp
    exact (State.loopOnSelection_follows t _ _).of_eq hsame.1 hsame.2

theorem State.updateSelection_follows (s : State) : s.loopFollows s.updateSelection := by
  unfold State.updateSelection
  split
  · split
    · exact .inl ⟨rfl, rfl⟩
    · exact State.select_follows s _
  · exact State.select_follows s _

theorem State.refDown_follows (s : State) (r : Ref) : s.loopFollows (s.refDown r) := by
  unfold State.refDown
  split
  · exact (State.updateSelection_follows _).of_eq (by simp) (by simp)
  · exact (State.updateSelection_follows _).of_eq (by simp) (by simp)
  all_goals exact .inl ⟨rfl, rfl⟩

/-- A PHASE tenant that has lost its record while the loop is too late for it. -/
structure State.Lost (s : State) (i : Fin 4) (e : Entry) : Prop where
  late : s.dsu.late e.budget
  entry : (s.tpt.get i).entry = some e
  fit : (s.tpt.get i).fit = some .lost
  permit : (s.tpt.get i).permit = false

theorem State.Lost.edit {C : Cause → Prop} {s t : State} {i : Fin 4} {e : Entry} (htiming : e.timing = .phase)
    (hbudget : e.budget < Config.uSat) (he : State.Edit C s t) (h : s.Lost i e) : t.Lost i e := by
  obtain ⟨hlate, hentry, hfit, hpermit⟩ := h
  have hset {x : Tenant} {j : Fin 4} (htpt : t.tpt = s.tpt.set j x) (hdsu : t.dsu = s.dsu)
      (hx : (s.tpt.get j).entry = x.entry ∧ (s.tpt.get j).fit = x.fit
        ∧ ((s.tpt.get j).permit = false → (s.tpt.get j).fit = some .lost → x.permit = false)) : t.Lost i e := by
    refine ⟨by rw [hdsu]; exact hlate, ?_, ?_, ?_⟩ <;> rw [htpt, Four.get_set] <;> split
    · next hi => rw [← hx.1, ← hi]; exact hentry
    · exact hentry
    · next hi => rw [← hx.2.1, ← hi]; exact hfit
    · exact hfit
    · next hi => exact hx.2.2 (hi ▸ hpermit) (hi ▸ hfit)
    · exact hpermit
  cases he with
  | bar hC j c =>
    refine hset (State.bar_tpt s j c) (by simp) ?_
    unfold Tenant.bar
    split
    · exact ⟨rfl, rfl, fun _ _ => rfl⟩
    · exact ⟨rfl, rfl, fun h _ => h⟩
  | hold _ c j =>
    refine hset (State.hold_tpt s c j) (by simp) ?_
    unfold Tenant.held
    split
    · exact ⟨rfl, rfl, fun _ _ => rfl⟩
    · exact ⟨rfl, rfl, fun h _ => h⟩
  | tryActive _ c j =>
    refine hset (State.tryActive_tpt s c j) (by simp) ?_
    unfold Tenant.tried
    split
    · next hready => exact ⟨rfl, rfl, fun _ hlost => by rw [hlost] at hready; simp at hready⟩
    · exact ⟨rfl, rfl, fun h _ => h⟩
  | dropPeer hC hf =>
    have hgap : (s.dropPeer.tpt.get i) = (s.tpt.get i).gap := Four.get_of _ i
    have hsame : (s.tpt.get i).gap.entry = (s.tpt.get i).entry ∧ (s.tpt.get i).gap.fit = (s.tpt.get i).fit
        ∧ (s.tpt.get i).gap.permit = (s.tpt.get i).permit := by
      unfold Tenant.gap
      split <;> exact ⟨rfl, rfl, rfl⟩
    refine ⟨hlate, ?_, ?_, ?_⟩ <;> rw [hgap]
    · exact hsame.1.trans hentry
    · exact hsame.2.1.trans hfit
    · exact hsame.2.2.trans hpermit
  | refDown hC =>
    rcases State.refDown_follows { s with rfm.sec.framerOk := false } .l with ⟨hd, ht⟩ | ⟨st, hby, hloop, hu, hjudged⟩
    · exact ⟨hd.symm ▸ hlate, ht.symm ▸ hentry, ht.symm ▸ hfit, ht.symm ▸ hpermit⟩
    · have hlate' : (State.refDown { s with rfm.sec.framerOk := false } .l).dsu.late e.budget := by
        unfold Dsu.late
        rw [hloop, hu]
        rcases hby with rfl | ⟨hfrom, rfl | rfl⟩
        · exact ⟨by simp [Dsu.moveTo], by simp [Dsu.moveTo]⟩
        · exact ⟨by simp [Dsu.moveTo], by simp [Dsu.moveTo]⟩
        · refine ⟨by simp [Dsu.moveTo, Dsu.enterHoldover], fun _ => ?_⟩
          have hne : ¬ s.dsu.loop = .track := hlate.1
          simpa [Dsu.moveTo, Dsu.enterHoldover, hne] using hbudget
      have hsame : (State.refDown { s with rfm.sec.framerOk := false } .l).tpt.get i = s.tpt.get i := by
        rw [hjudged i]
        unfold Tenant.judged
        simp only [hentry]
        rw [if_neg (by simp [hlate'.unfit htiming]), if_pos hfit]
      exact ⟨hlate', hsame.symm ▸ hentry, hsame.symm ▸ hfit, hsame.symm ▸ hpermit⟩
  | raise | clear | adaptDown | offer => exact ⟨by simpa using hlate, by simpa using hentry, by simpa using hfit, by simpa using hpermit⟩
  | port | work | hunt | unconfirm | site | halted | stopRead | alloc | runs => exact ⟨hlate, hentry, hfit, hpermit⟩

end Sys2Proof.Machine
end

section
/-! PROOFS. TENANT_SET settled, form by form (R99 to R104, R199). -/

namespace Sys2Proof.Machine

/-! ### What the replaced tenant is -/

/-- A tenant whose entry is replaced, judged by its record (R102). -/
theorem Tenant.judged_cases {t : Tenant} {e : Entry} (he : t.entry = some e) (c : TenantCause) (l : LoopState) (u : Nat) :
    (timingFit e l u = true → t.fit = some .lost →
      t.judged c l u = { t with fit := some .refit, refit := some 80000, cause := c })
    ∧ (timingFit e l u = true → t.fit ≠ some .lost → t.judged c l u = t)
    ∧ (timingFit e l u = false → t.fit = some .lost → t.judged c l u = t)
    ∧ (timingFit e l u = false → t.fit ≠ some .lost → t.state ≠ .active →
      t.judged c l u = { t with fit := some .lost, refit := none, cause := c })
    ∧ (timingFit e l u = false → t.fit ≠ some .lost → t.state = .active →
      t.judged c l u = ({ t with fit := some .lost, refit := none, cause := c } : Tenant).moved .unfit c) := by
  unfold Tenant.judged
  simp only [he]
  refine ⟨fun hf h => ?_, fun hf h => ?_, fun hf h => ?_, fun hf h ha => ?_, fun hf h ha => ?_⟩
  · rw [if_pos hf, if_pos h]
    rfl
  · rw [if_pos hf, if_neg h]
  · rw [if_neg (by simp [hf]), if_pos h]
  · rw [if_neg (by simp [hf]), if_neg h, if_neg ha]
  · rw [if_neg (by simp [hf]), if_neg h, if_pos ha]

/-- What a judgement leaves of a tenant that it does not move. -/
structure Tenant.SameButFit (t x : Tenant) : Prop where
  entry : x.entry = t.entry
  state : x.state = t.state
  link : x.link = t.link
  queue : x.queue = t.queue
  sendOff : x.sendOff = t.sendOff
  egress : x.egress = t.egress
  counts : x.counts = t.counts
  thr : x.thr = t.thr

theorem Tenant.judged_still {t : Tenant} {e : Entry} (he : t.entry = some e) (c : TenantCause) (l : LoopState) (u : Nat)
    (h : t.state ≠ .active ∨ timingFit e l u = true ∨ t.fit = some .lost) : t.SameButFit (t.judged c l u) := by
  obtain ⟨h1, h2, h3, h4, -⟩ := Tenant.judged_cases he c l u
  by_cases hfits : timingFit e l u = true
  · by_cases hlost : t.fit = some .lost
    · rw [h1 hfits hlost]
      exact ⟨rfl, rfl, rfl, rfl, rfl, rfl, rfl, rfl⟩
    · rw [h2 hfits hlost]
      exact ⟨rfl, rfl, rfl, rfl, rfl, rfl, rfl, rfl⟩
  · have hunfit : timingFit e l u = false := by simpa using hfits
    by_cases hlost : t.fit = some .lost
    · rw [h3 hunfit hlost]
      exact ⟨rfl, rfl, rfl, rfl, rfl, rfl, rfl, rfl⟩
    · have hstill : t.state ≠ .active := h.resolve_right fun h' => h'.elim hfits hlost
      rw [h4 hunfit hlost hstill]
      exact ⟨rfl, rfl, rfl, rfl, rfl, rfl, rfl, rfl⟩

theorem Tenant.tried_still (t : Tenant) (p : Phase) (c : TenantCause) : (t.tried p c).entry = t.entry
    ∧ (t.tried p c).fit = t.fit ∧ (t.tried p c).refit = t.refit ∧ (t.tried p c).link = t.link
    ∧ (t.tried p c).queue = t.queue ∧ (t.tried p c).sendOff = t.sendOff ∧ (t.tried p c).egress = t.egress
    ∧ (t.tried p c).counts = t.counts ∧ (t.tried p c).thr = t.thr
    ∧ (t.tried p c).state = if t.state = .held ∧ p = .service ∧ t.link = true ∧ t.fit = some .fit then .active
      else t.state := by
  unfold Tenant.tried
  split <;> exact ⟨rfl, rfl, rfl, rfl, rfl, rfl, rfl, rfl, rfl, rfl⟩

/-- The record after the judgement of a replaced entry (R101, R102). -/
theorem Tenant.replaced_fit (t : Tenant) (e : Entry) (p : Phase) (l : LoopState) (u : Nat) :
    (t.replaced e p l u).entry = some e
    ∧ (timingFit e l u = true → t.fit ≠ some .lost → (t.replaced e p l u).fit = t.fit)
    ∧ (timingFit e l u = true → t.fit = some .lost →
      (t.replaced e p l u).fit = some .refit ∧ (t.replaced e p l u).refit = some 80000)
    ∧ (timingFit e l u = false → (t.replaced e p l u).fit = some .lost) := by
  obtain ⟨h1, h2, h3, h4, h5⟩ := Tenant.judged_cases (t := { t with entry := some e }) rfl .tenantSet l u
  obtain ⟨hentry, hfit, hrefit, -⟩ := Tenant.tried_still (({ t with entry := some e } : Tenant).judged .tenantSet l u) p
    .tenantSet
  have hjudged : (({ t with entry := some e } : Tenant).judged .tenantSet l u).entry = some e := by
    unfold Tenant.judged
    dsimp only
    (repeat' split) <;> rfl
  refine ⟨hentry.trans hjudged, fun hf h => hfit.trans ?_, fun hf h => ⟨hfit.trans ?_, hrefit.trans ?_⟩,
    fun hf => hfit.trans ?_⟩
  · rw [h2 hf h]
  · rw [h1 hf h]
  · rw [h1 hf h]
  · by_cases hlost : t.fit = some .lost
    · rw [h3 hf hlost]
      exact hlost
    · by_cases hactive : t.state = .active
      · rw [h5 hf hlost hactive]
        rfl
      · rw [h4 hf hlost hactive]

/-- What the replacement keeps of a tenant that its judgement does not move (R101). -/
theorem Tenant.replaced_still {t : Tenant} {e : Entry} (p : Phase) {l : LoopState} {u : Nat}
    (h : t.state ≠ .active ∨ timingFit e l u = true ∨ t.fit = some .lost) :
    (t.replaced e p l u).queue = t.queue ∧ (t.replaced e p l u).sendOff = t.sendOff
    ∧ (t.replaced e p l u).egress = t.egress ∧ (t.replaced e p l u).counts = t.counts ∧ (t.replaced e p l u).thr = t.thr
    ∧ (t.replaced e p l u).state = (if t.state = .held ∧ p = .service ∧ t.link = true
      ∧ (t.replaced e p l u).fit = some .fit then .active else t.state) := by
  have hstill := Tenant.judged_still (t := { t with entry := some e }) rfl .tenantSet l u h
  obtain ⟨-, hfit, -, -, hqueue, hsend, hegress, hcounts, hthr, hstate⟩ :=
    Tenant.tried_still (({ t with entry := some e } : Tenant).judged .tenantSet l u) p .tenantSet
  have hfit' : (t.replaced e p l u).fit = _ := hfit
  refine ⟨hqueue.trans hstill.queue, hsend.trans hstill.sendOff, hegress.trans hstill.egress, hcounts.trans hstill.counts,
    hthr.trans hstill.thr, hstate.trans ?_⟩
  rw [hfit', hstill.state, hstill.link]

/-- A tenant ACTIVE with a record that the new entry loses gives up its permit (R104). -/
theorem Tenant.replaced_unfit {t : Tenant} {e : Entry} (p : Phase) {l : LoopState} {u : Nat} (hactive : t.state = .active)
    (hfits : timingFit e l u = false) (hfit : t.fit ≠ some .lost) : (t.replaced e p l u).permit = false := by
  have hjudged := (Tenant.judged_cases (t := { t with entry := some e }) rfl .tenantSet l u).2.2.2.2 hfits hfit hactive
  unfold Tenant.replaced
  rw [hjudged]
  rfl

/-! ### Each form of the request -/

theorem State.tenantSetTaken_acts (s : State) (i : Fin 4) : (s.tenantSetTaken i).state.work.acts = s.work.acts := by
  show ((s.tellTenant i .tenantSet).wantAlloc .tenantSet).work.acts = _
  rw [State.wantAlloc_acts]
  rfl

theorem State.tenantSetTaken_frame (s : State) (i : Fin 4) :
    (s.tenantSetTaken i).state.stu = s.stu ∧ (s.tenantSetTaken i).state.dsu = s.dsu
      ∧ (s.tenantSetTaken i).state.fmn = s.fmn := by
  show ((s.tellTenant i .tenantSet).wantAlloc .tenantSet).stu = _ ∧ ((s.tellTenant i .tenantSet).wantAlloc .tenantSet).dsu = _
    ∧ ((s.tellTenant i .tenantSet).wantAlloc .tenantSet).fmn = _
  simp

/-- What an accepted entry's budget is at most (R100). -/
theorem readEntry_budget {sum : Nat} {raw : Bytes} (h : (checkEntry sum raw).all (·.2) = true)
    (htiming : (readEntry raw).timing = .phase) : (readEntry raw).budget < Config.uSat := by
  have hchecks := List.all_eq_true.1 h
  have hcode := hchecks (9, within 0 2 (field raw 9 1)) (by simp [checkEntry])
  have hbudget := hchecks (10, if field raw 9 1 = 2 then within 100 1000000 (field raw 10 4) else decide (field raw 10 4 = 0))
    (by simp [checkEntry])
  have htwo : field raw 9 1 = 2 := by
    have hlo : (readEntry raw).timing = TimingClass.ofCode (field raw 9 1) := rfl
    rw [hlo] at htiming
    simp only [within, Bool.and_eq_true, decide_eq_true_eq] at hcode
    generalize field raw 9 1 = n at *
    match n, hcode, htiming with
    | 2, _, _ => rfl
  simp only [htwo, if_true, within, Bool.and_eq_true, decide_eq_true_eq] at hbudget
  have hle : (readEntry raw).budget ≤ 1000000 := hbudget.2
  exact lt_of_le_of_lt hle (by decide)

/-- An entry that passes its checks, for a tenant with none (R100, R101). -/
theorem State.setEntry_new {s : State} {i : Fin 4} {raw : Bytes} (hname : field raw 0 1 = i.val)
    (hok : (checkEntry (s.otherFixed i) raw).all (·.2) = true) (hnone : (s.tpt.get i).entry = none) :
    s.setEntry i raw = ((s.enterEntry i (readEntry raw) 0 .tenantSet).tryActive .tenantSet i).tenantSetTaken i := by
  have hgood : ¬ (field raw 0 1 ≠ i.val ∨ (checkEntry (s.otherFixed i) raw).any (fun c => !c.2) = true) := by
    rintro (h | h)
    · exact h hname
    · obtain ⟨c, hc, hbad⟩ := List.any_eq_true.1 h
      have := List.all_eq_true.1 hok c hc
      simp [this] at hbad
  unfold State.setEntry
  dsimp only
  rw [if_neg hgood, hnone]

/-- An entry that passes its checks, for a present tenant whose class it may change (R101). -/
theorem State.setEntry_replace {s : State} {i : Fin 4} {raw : Bytes} {old : Entry} (hname : field raw 0 1 = i.val)
    (hok : (checkEntry (s.otherFixed i) raw).all (·.2) = true) (hold : (s.tpt.get i).entry = some old) :
    s.setEntry i raw = if old.cls ≠ (readEntry raw).cls ∧ (s.tpt.get i).state ≠ .held ∧ (s.tpt.get i).state ≠ .barred
      then refuse s .wrongPhase else (s.replaceEntry i (readEntry raw)).tenantSetTaken i := by
  have hgood : ¬ (field raw 0 1 ≠ i.val ∨ (checkEntry (s.otherFixed i) raw).any (fun c => !c.2) = true) := by
    rintro (h | h)
    · exact h hname
    · obtain ⟨c, hc, hbad⟩ := List.any_eq_true.1 h
      have := List.all_eq_true.1 hok c hc
      simp [this] at hbad
  unfold State.setEntry
  dsimp only
  rw [if_neg hgood, hold]

theorem State.setEntry_bad {s : State} {i : Fin 4} {raw : Bytes}
    (h : field raw 0 1 ≠ i.val ∨ (checkEntry (s.otherFixed i) raw).any (fun c => !c.2) = true) :
    s.setEntry i raw = refuse s .badValue := if_pos h

/-- A first entry up to the end of its event (R99, R101, R108). -/
theorem State.finishWork_entered {s : State} {i : Fin 4} {e : Entry} (hacts : s.work.acts = []) (hq : s.stu.queue = [])
    (hport : (s.tpt.get i).link = true ∨ s.fmn.phaseStays (17 + i.val)) {u : State}
    (hu : u = (((s.enterEntry i e 0 .tenantSet).tryActive .tenantSet i).tenantSetTaken i).state) :
    (u.finishWork.tpt.get i = { ((s.tpt.get i).entered e 0 (timingFit e s.dsu.loop s.dsu.u) .tenantSet).tried s.spc.phase
        .tenantSet with cause := .tenantSet })
      ∧ ((s.tpt.get i).link = false → s.fmn.rows.length = 21 → u.finishWork.rowActive (17 + i.val)) := by
  let v := s.enterEntry i e 0 .tenantSet
  have hvacts : v.work.acts = [] := (State.enterEntry_acts hport e 0 .tenantSet).trans hacts
  have hvspc : v.spc = s.spc := by simp [v]
  have hvtpt : v.tpt = _ := State.enterEntry_tpt s i e 0 .tenantSet
  have htells : State.Tells v u := by
    rw [hu]
    exact (((State.Tells.refl v).tryActive _ i).tellTenant i _).wantAlloc _
  obtain ⟨x, hx, -⟩ := htells
  have hvq : v.stu.queue = [] := by
    have hvstu : v.stu = s.stu := by simp [v]
    rw [hvstu, hq]
  obtain ⟨a, ha⟩ := State.finishWork_quiet (s := v.telling x) hvacts hvq
  have hend : u.finishWork = (v.telling x).allocated a := (congrArg State.finishWork hx).trans ha
  refine ⟨?_, fun hlink hrows => ?_⟩
  · have htpt : u.tpt.get i = _ := (congrArg (fun q => Four.get q i) (congrArg State.tpt hu)).trans
      (congrArg (fun q => Four.get q i) (State.tenantSetTaken_tpt _ i))
    rw [State.tryActive_tpt, Four.get_set_same, hvspc, hvtpt, Four.get_set_same, Four.get_set_same] at htpt
    rw [hend]
    show x.tpt.get i = _
    rw [← htpt, hx]
    rfl
  · have hidle : v.tryActive .tenantSet i = v := by
      refine if_neg fun h => ?_
      obtain ⟨-, -, hup, -⟩ := (State.readyForActive_iff v i).1 h
      rw [hvtpt, Four.get_set_same] at hup
      exact absurd (hup.symm.trans hlink) (by simp)
    have hrow : (v.fmn.row (17 + i.val)).active = true := State.enterEntry_portDown hlink hrows e 0 .tenantSet
    have hufmn : u.fmn = v.fmn := by
      rw [hu]
      exact (State.tenantSetTaken_frame _ i).2.2.trans (congrArg State.fmn hidle)
    exact State.finishWork_active (by simp only [clearedRow]; omega) (by rw [hufmn]; exact hrow)

/-- A replaced entry whose judgement raises nothing, up to the end of its event (R101). -/
theorem State.finishWork_replaced {s : State} {i : Fin 4} {e : Entry} (hacts : s.work.acts = []) (hq : s.stu.queue = [])
    (h : ¬ (s.tpt.get i).overdue e s.dsu.loop s.dsu.u) :
    ((s.replaceEntry i e).tenantSetTaken i).state.finishWork.tpt =
      s.tpt.set i ((s.tpt.get i).replaced e s.spc.phase s.dsu.loop s.dsu.u) := by
  have htpt := State.tenantSetTaken_tpt (s.replaceEntry i e) i
  rw [State.replaceEntry_tpt, Four.get_set_same, Four.set_set] at htpt
  have huacts := ((State.tenantSetTaken_acts (s.replaceEntry i e) i).trans (State.replaceEntry_acts h)).trans hacts
  have hstu : ((s.replaceEntry i e).tenantSetTaken i).state.stu = s.stu := by
    rw [(State.tenantSetTaken_frame _ i).1]
    simp
  obtain ⟨a, ha⟩ := State.finishWork_quiet huacts (by rw [hstu, hq])
  rw [ha]
  exact htpt

/-- A replaced entry that loses its record in HOLDOVER, up to the end of its event: whatever HOLDOVER_LIMIT is answered with,
the record stays lost and the permit down (R102, R104, R109). -/
theorem State.finishWork_overdue {s : State} {i : Fin 4} {e : Entry} (hbudget : e.timing = .phase → e.budget < Config.uSat)
    (h : (s.tpt.get i).overdue e s.dsu.loop s.dsu.u) :
    ((s.replaceEntry i e).tenantSetTaken i).state.finishWork.Lost i e := by
  obtain ⟨hfits, hfit, hactive, htiming, hhold⟩ := h
  have htpt := State.tenantSetTaken_tpt (s.replaceEntry i e) i
  rw [State.replaceEntry_tpt, Four.get_set_same, Four.set_set] at htpt
  have hget : ((s.replaceEntry i e).tenantSetTaken i).state.tpt.get i =
      (s.tpt.get i).replaced e s.spc.phase s.dsu.loop s.dsu.u := by
    rw [htpt, Four.get_set_same]
    rfl
  have hdsu : ((s.replaceEntry i e).tenantSetTaken i).state.dsu = s.dsu := by
    rw [(State.tenantSetTaken_frame _ i).2.1]
    simp
  obtain ⟨hentry, -, -, hlost⟩ := Tenant.replaced_fit (s.tpt.get i) e s.spc.phase s.dsu.loop s.dsu.u
  have hlate : s.dsu.late e.budget := by
    refine ⟨by simp [hhold], fun _ => ?_⟩
    simpa [timingFit, htiming, hhold] using hfits
  generalize ((s.replaceEntry i e).tenantSetTaken i).state = u at hget hdsu
  have hu : u.Lost i e := ⟨hdsu ▸ hlate, hget ▸ hentry, hget ▸ hlost hfits,
    hget ▸ Tenant.replaced_unfit s.spc.phase hactive hfits hfit⟩
  exact (State.Worked.finishWork_any u).keeps (fun _ _ he => State.Lost.edit htiming (hbudget htiming) he) hu

/-- Settles O26. -/
theorem tenantSetRules : Obligations.TenantSetRules := by
  intro s tag i hs hq hload
  have hout (a : Answer) : s.received.outsideLoad a = a := State.outsideLoad_of_ne (s := s.received) hload a
  have hvacate : s.received.serve (.tenantSet (BitVec.ofNat 8 i.val) 1 none) = s.received.vacateTenant i :=
    (hout _).trans (State.withTenant_lt s.received i _)
  have hset (raw : Bytes) : s.received.serve (.tenantSet (BitVec.ofNat 8 i.val) 0 (some raw)) = s.received.setEntry i raw :=
    (hout _).trans (State.withTenant_lt s.received i _)
  have hreq (raw : Bytes) (h : raw.length = 24) : requestOf (.tenantSet tag (BitVec.ofNat 8 i.val) 0 (some raw)) =
      some ⟨0x29, tag, .tenantSet (BitVec.ofNat 8 i.val) 0 (some raw)⟩ :=
    congrArg (fun b => some (⟨0x29, tag, b⟩ : Request)) (if_pos h)
  have hacts : s.received.work.acts = [] := congrArg Work.acts hs.1.1.1
  refine ⟨fun hstate => ?_, fun hstate => ?_, fun hstate => ?_, fun raw hraw hname => ?_, fun raw hraw hbad => ?_,
    fun raw hraw hname hok => ⟨fun hnone hport => ?_, fun old hold => ⟨fun hcls hstate => ?_, fun hcls => ?_⟩⟩⟩
  · have hserve : s.received.serve (.tenantSet (BitVec.ofNat 8 i.val) 1 none) =
        (s.received.vacate i).tenantSetTaken i := by
      rw [hvacate]
      unfold State.vacateTenant
      rcases hstate with h | h
      · rw [show (s.received.tpt.get i).state = .held from h]
      · rw [show (s.received.tpt.get i).state = .barred from h]
    obtain ⟨x, a, p, hx, hex, hslot⟩ := exec_told hs (c := .tenantSet tag _ 1 none) rfl hserve rfl
      (State.received_settled hs) hq ((State.vacate_tells s.received i).trans (State.tenantSetTaken_tells _ i))
    have htpt := State.tenantSetTaken_tpt (s.received.vacate i) i
    rw [State.vacate_tpt, Four.get_set_same, Four.set_set] at htpt
    replace htpt : x.tpt = s.tpt.set i (s.tpt.get i).vacated := ((congrArg State.tpt hx).symm.trans htpt :)
    refine ⟨_, hex, ?_⟩
    show (x.tpt.get i).state = _ ∧ (x.tpt.get i).entry = _ ∧ (x.tpt.get i).permit = _ ∧ (x.tpt.get i).queue = _
      ∧ (x.tpt.get i).fit = _ ∧ (x.tpt.get i).counts.flushed = _ ∧ (∀ j, j ≠ i → x.tpt.get j = _) ∧ p.slot = _
    rw [htpt, Four.get_set_same]
    exact ⟨rfl, rfl, rfl, rfl, rfl, rfl, fun j hj => Four.get_set_other _ _ hj, hslot⟩
  · have hserve : s.received.serve (.tenantSet (BitVec.ofNat 8 i.val) 1 none) = s.received.tenantSetTaken i := by
      rw [hvacate]
      unfold State.vacateTenant
      rw [show (s.received.tpt.get i).state = .vacant from hstate]
    obtain ⟨x, a, p, hx, hex, hslot⟩ := exec_told hs (c := .tenantSet tag _ 1 none) rfl hserve rfl
      (State.received_settled hs) hq (State.tenantSetTaken_tells s.received i)
    have htpt := State.tenantSetTaken_tpt s.received i
    have hfmn := (State.tenantSetTaken_frame s.received i).2.2
    exact ⟨_, hex, (congrArg State.tpt hx).symm.trans htpt, (congrArg State.fmn hx).symm.trans hfmn, hslot⟩
  · refine exec_refused hs (c := .tenantSet tag _ 1 none) rfl rfl (hvacate.trans ?_)
    unfold State.vacateTenant
    rcases hstate with h | h
    · rw [show (s.received.tpt.get i).state = .active from h]
    · rw [show (s.received.tpt.get i).state = .unfit from h]
  · exact exec_refused hs (c := .tenantSet tag _ 0 (some raw)) (hreq raw hraw) rfl
      ((hset raw).trans (State.setEntry_bad (s := s.received) (.inl hname)))
  · exact exec_refused hs (c := .tenantSet tag _ 0 (some raw)) (hreq raw hraw) rfl
      ((hset raw).trans (State.setEntry_bad (s := s.received) (.inr hbad)))
  · have hserve := (hset raw).trans (State.setEntry_new (s := s.received) hname hok hnone)
    obtain ⟨w, p, hw, hex, -⟩ := exec_answered hs (c := .tenantSet tag _ 0 (some raw)) (u :=
      (((s.received.enterEntry i (readEntry raw) 0 .tenantSet).tryActive .tenantSet i).tenantSetTaken i).state)
      (hreq raw hraw) hserve rfl
    obtain ⟨hget, hrow⟩ := State.finishWork_entered (s := s.received) (e := readEntry raw) hacts hq hport rfl
    rw [hw] at hget hrow
    replace hget : w.tpt.get i = { ((s.tpt.get i).entered (readEntry raw) 0
      (timingFit (readEntry raw) s.dsu.loop s.dsu.u) .tenantSet).tried s.spc.phase .tenantSet with cause := .tenantSet } := hget
    obtain ⟨h1, h2, h3, h4, -, -, -, -, -, h5⟩ := Tenant.tried_still ((s.tpt.get i).entered (readEntry raw) 0
      (timingFit (readEntry raw) s.dsu.loop s.dsu.u) .tenantSet) s.spc.phase .tenantSet
    refine ⟨_, hex, ?_⟩
    show (w.tpt.get i).entry = _ ∧ (w.tpt.get i).fit = _ ∧ (w.tpt.get i).state = _ ∧ (w.tpt.get i).permit = _
      ∧ (w.tpt.get i).link = _ ∧ (w.tpt.get i).refit = _ ∧ _
    rw [hget]
    refine ⟨h1, h2, h5.trans ?_, ?_, h4, h3, hrow⟩
    · by_cases hf : timingFit (readEntry raw) s.dsu.loop s.dsu.u = true
      · simp [Tenant.entered, hf]
      · simp [Tenant.entered, hf]
    · unfold Tenant.tried
      split <;> simp [Tenant.entered, Tenant.moved]
  · have hserve := (hset raw).trans (State.setEntry_replace (s := s.received) hname hok hold)
    refine exec_refused hs (c := .tenantSet tag _ 0 (some raw)) (hreq raw hraw) rfl (hserve.trans (if_pos ⟨hcls, ?_⟩))
    show (s.tpt.get i).state ≠ .held ∧ (s.tpt.get i).state ≠ .barred
    rcases hstate with h | h <;> simp [h]
  · have hserve := (hset raw).trans (State.setEntry_replace (s := s.received) hname hok hold)
    rw [if_neg (by
      rintro ⟨h1, h2, h3⟩
      rcases hcls with h | h | h
      · exact h1 h
      · exact h2 h
      · exact h3 h)] at hserve
    obtain ⟨w, p, hw, hex, -⟩ := exec_answered hs (c := .tenantSet tag _ 0 (some raw)) (u :=
      ((s.received.replaceEntry i (readEntry raw)).tenantSetTaken i).state) (hreq raw hraw) hserve rfl
    refine ⟨_, hex, ?_⟩
    by_cases hover : (s.tpt.get i).overdue (readEntry raw) s.dsu.loop s.dsu.u
    · have hlost := State.finishWork_overdue (s := s.received) (readEntry_budget hok) hover
      rw [hw] at hlost
      obtain ⟨hfits, hfit, hactive, -, -⟩ := hover
      refine ⟨hlost.entry, fun h => absurd (h.symm.trans hfits) (by simp), fun h => absurd (h.symm.trans hfits) (by simp),
        fun _ => hlost.fit, fun h => ?_, fun _ _ _ => hlost.permit⟩
      rcases h with h | h | h
      · exact absurd hactive h
      · exact absurd (h.symm.trans hfits) (by simp)
      · exact absurd h hfit
    · have htpt := State.finishWork_replaced (s := s.received) hacts hq hover
      rw [hw] at htpt
      replace htpt : w.tpt = s.tpt.set i ((s.tpt.get i).replaced (readEntry raw) s.spc.phase s.dsu.loop s.dsu.u) := htpt
      obtain ⟨hentry, hkept, hrefit, hlost⟩ :=
        Tenant.replaced_fit (s.tpt.get i) (readEntry raw) s.spc.phase s.dsu.loop s.dsu.u
      show (w.tpt.get i).entry = _ ∧ (_ → _ → (w.tpt.get i).fit = _) ∧ (_ → _ → (w.tpt.get i).fit = _ ∧ (w.tpt.get i).refit = _)
        ∧ (_ → (w.tpt.get i).fit = _) ∧ (_ → (w.tpt.get i).queue = _ ∧ (w.tpt.get i).sendOff = _ ∧ (w.tpt.get i).egress = _
          ∧ (w.tpt.get i).counts = _ ∧ (w.tpt.get i).thr = _ ∧ (w.tpt.get i).state = (if _ ∧ _ ∧ _ ∧ (w.tpt.get i).fit = _
            then _ else _) ∧ ∀ j, j ≠ i → w.tpt.get j = _) ∧ (_ → _ → _ → (w.tpt.get i).permit = _)
      rw [htpt, Four.get_set_same]
      refine ⟨hentry, hkept, hrefit, hlost, fun h => ?_, fun h1 h2 h3 => Tenant.replaced_unfit _ h1 h2 (by simp [h3])⟩
      obtain ⟨k1, k2, k3, k4, k5, k6⟩ := Tenant.replaced_still s.spc.phase h
      exact ⟨k1, k2, k3, k4, k5, k6, fun j hj => Four.get_set_other _ _ hj⟩

end Sys2Proof.Machine
end

section
/-! PROOFS. TIME_SET (R63, R72, R76, R95), and what a change of the selection makes of the references. -/

namespace Sys2Proof.Machine

/-! ### The selection -/

theorem State.setRef_rfm (s : State) (r : Ref) (x : RefState) : (s.setRef r x).rfm = s.rfm.put r x := by
  unfold State.setRef
  dsimp only
  split <;> rfl

/-- What the selection of a reference writes (R72): it, and its wait stopped. -/
def Rfm.selected (m : Rfm) (n : Option Ref) : Rfm :=
  match n with
  | some r => { m with sel := n }.put r { m.get r with wait := none }
  | none => { m with sel := n }

theorem State.select_rfm (s : State) (n : Option Ref) :
    (s.select n).rfm = if s.rfm.sel = n then s.rfm else s.rfm.selected n := by
  unfold State.select
  dsimp only
  split
  · rfl
  · rw [(State.loopOnSelection_frame _ _ _).2.2.2.2.2.1]
    cases n with
    | none =>
      cases s.rfm.sel <;> simp [Rfm.selected]
    | some r =>
      cases s.rfm.sel <;> cases r <;> simp [Rfm.selected] <;> rfl

theorem Rfm.get_put (m : Rfm) (r q : Ref) (x : RefState) : (m.put r x).get q = if q = r then x else m.get q := by
  cases r <;> cases q <;> rfl

/-- A selection among references that do not wait changes the selection alone. -/
theorem State.select_rfm_still {s : State} (h : ∀ r, (s.rfm.get r).wait = none) (n : Option Ref) :
    (s.select n).rfm = { s.rfm with sel := n } := by
  rw [State.select_rfm]
  split
  · next hn => rw [← hn]
  · cases n with
    | none => rfl
    | some r =>
      have hx : { s.rfm.get r with wait := none } = s.rfm.get r := by rw [← h r]
      unfold Rfm.selected
      dsimp only
      rw [hx]
      cases r <;> rfl

/-! ### What a change of the selection leaves alone -/

/-- The settings of the Reference Monitor, and of the loop all that its moves leave alone. -/
structure State.TimeKept (s t : State) : Prop where
  refSet : t.rfm.set = s.rfm.set
  time : t.dsu.time = s.dsu.time
  set : t.dsu.set = s.dsu.set
  pendSec : t.dsu.pendSec = s.dsu.pendSec
  steps : t.dsu.steps = s.dsu.steps

theorem State.TimeKept.refl (s : State) : s.TimeKept s := ⟨rfl, rfl, rfl, rfl, rfl⟩

theorem State.TimeKept.trans {s t u : State} (h : s.TimeKept t) (g : t.TimeKept u) : s.TimeKept u :=
  ⟨g.refSet.trans h.refSet, g.time.trans h.time, g.set.trans h.set, g.pendSec.trans h.pendSec, g.steps.trans h.steps⟩

theorem State.TimeKept.of_eq {s t u : State} (h : s.TimeKept t) (hset : u.rfm.set = t.rfm.set) (hdsu : u.dsu = t.dsu) :
    s.TimeKept u :=
  ⟨hset.trans h.refSet, by rw [hdsu, h.time], by rw [hdsu, h.set], by rw [hdsu, h.pendSec], by rw [hdsu, h.steps]⟩

theorem State.TimeKept.loopOnSelection {s t : State} (h : s.TimeKept t) (a b : Option Ref) :
    s.TimeKept (t.loopOnSelection a b) := by
  have hmove (st : LoopState) (c : TimeCause) : t.TimeKept (t.moveLoop st c) := by
    unfold State.moveLoop
    dsimp only
    cases st <;> exact ⟨by simp, by simp [Dsu.moveTo, Dsu.enterHoldover], by simp [Dsu.moveTo, Dsu.enterHoldover],
      by simp [Dsu.moveTo, Dsu.enterHoldover], by simp [Dsu.moveTo, Dsu.enterHoldover]⟩
  unfold State.loopOnSelection
  split
  · split
    · exact h.trans (hmove _ _)
    · exact h
  · split
    · exact h.trans (hmove _ _)
    · exact h
  · exact h

theorem State.TimeKept.setRef {s t : State} (h : s.TimeKept t) (r : Ref) (x : RefState) : s.TimeKept (t.setRef r x) := by
  refine h.of_eq ?_ (by simp)
  rw [State.setRef_rfm]
  cases r <;> rfl

theorem State.TimeKept.select {s t : State} (h : s.TimeKept t) (n : Option Ref) : s.TimeKept (t.select n) := by
  unfold State.select
  dsimp only
  split
  · exact h
  · refine State.TimeKept.loopOnSelection ?_ _ _
    refine h.of_eq ?_ ?_
    · cases n with
      | none => cases t.rfm.sel <;> simp
      | some r => cases t.rfm.sel <;> cases r <;> simp [Rfm.put]
    · split <;> simp

theorem State.TimeKept.updateSelection {s t : State} (h : s.TimeKept t) : s.TimeKept t.updateSelection := by
  unfold State.updateSelection
  split
  · split
    · exact h
    · exact h.select _
  · exact h.select _

theorem State.TimeKept.refDown {s t : State} (h : s.TimeKept t) (r : Ref) : s.TimeKept (t.refDown r) := by
  unfold State.refDown
  split
  · exact (h.setRef _ _).updateSelection
  · exact (h.setRef _ _).updateSelection
  all_goals exact h

theorem State.TimeKept.edit {C : Cause → Prop} {s t u : State} (e : State.Edit C t u) (h : s.TimeKept t) : s.TimeKept u := by
  cases e with
  | refDown hC => exact State.TimeKept.refDown (t := { t with rfm.sec.framerOk := false }) (h.of_eq rfl rfl) .l
  | raise hm hr d =>
    obtain ⟨f, c, m, as, heq, -⟩ := State.raise_eq t ⟨_, d, t.raisePhase⟩
    rw [State.raiseNow, heq]
    exact h.of_eq rfl rfl
  | clear | bar | hold | tryActive | adaptDown | offer => exact h.of_eq (by simp) (by simp)
  | port | work | dropPeer | hunt | unconfirm | site | stopRead | halted | alloc | runs => exact h.of_eq rfl rfl

theorem State.TimeKept.finishWork (s : State) : s.TimeKept s.finishWork :=
  (State.Worked.finishWork_any s).keeps (fun _ _ => State.TimeKept.edit) (State.TimeKept.refl s)

/-! ### A new priority -/

/-- The windows brought up to a moment. -/
theorem State.rollWindow_eq (s : State) (ns : Nat) : ∃ n c, s.rollWindow ns = { s with rfm.nextWin := n, rfm.winClosed := c } := by
  unfold State.rollWindow State.closeWindow
  split
  · split
    · exact ⟨s.rfm.nextWin, s.rfm.winClosed, rfl⟩
    · exact ⟨_, _, rfl⟩
  · exact ⟨s.rfm.nextWin, s.rfm.winClosed, rfl⟩

/-- A new priority before its references are looked at (R63, R76). -/
def State.prioritized (s : State) (p : Priority) : State :=
  { s with rfm := { s.rfm with
    set := { s.rfm.set with priority := p }
    win := if decide (.g ∈ p.order) then s.rfm.win else none
    nextWin := if decide (.g ∈ p.order) then s.rfm.nextWin else none
    prevPulse := if decide (.g ∈ p.order) then s.rfm.prevPulse else none
    sec := { s.rfm.sec with judged := s.rfm.sec.judged && decide (.l ∈ p.order) } } }

/-- The references of a new priority (R76). -/
def State.renamed (s : State) (p : Priority) : State :=
  ((s.prioritized p).setRef .g (s.rfm.g.named (decide (.g ∈ p.order)))).setRef .l (s.rfm.l.named (decide (.l ∈ p.order)))

theorem State.setPriority_new {s : State} {p : Priority} (h : p ≠ s.rfm.set.priority) :
    s.setPriority p = (s.renamed p).select (s.renamed p).rfm.firstUp := by
  have hl : ((s.prioritized p).setRef .g (s.rfm.g.named (decide (.g ∈ p.order)))).rfm.l = s.rfm.l := by
    rw [State.setRef_rfm]
    rfl
  unfold State.setPriority State.renamed
  rw [if_neg h, ← hl]
  rfl

theorem RefState.named_wait (x : RefState) (b : Bool) : (x.named b).wait = none := by
  unfold RefState.named
  split
  · rfl
  · split <;> rfl

theorem State.renamed_get (s : State) (p : Priority) (r : Ref) :
    (s.renamed p).rfm.get r = (s.rfm.get r).named (decide (r ∈ p.order)) := by
  unfold State.renamed
  rw [State.setRef_rfm, State.setRef_rfm, Rfm.get_put, Rfm.get_put]
  cases r <;> rfl

theorem State.renamed_set (s : State) (p : Priority) : (s.renamed p).rfm.set = { s.rfm.set with priority := p } := by
  unfold State.renamed
  rw [State.setRef_rfm, State.setRef_rfm]
  rfl

/-- What a new priority makes of the references and the selection (R72, R76). -/
theorem State.setPriority_rfm {s : State} {p : Priority} (h : p ≠ s.rfm.set.priority) :
    (s.setPriority p).rfm.set.priority = p
    ∧ (s.setPriority p).rfm.sel = p.order.find? (fun r => decide (((s.setPriority p).rfm.get r).mode = .up))
    ∧ ∀ r, (s.setPriority p).rfm.get r = (s.rfm.get r).named (decide (r ∈ p.order)) := by
  have hrfm : (s.setPriority p).rfm = { (s.renamed p).rfm with sel := (s.renamed p).rfm.firstUp } := by
    rw [State.setPriority_new h]
    exact State.select_rfm_still (fun r => by rw [State.renamed_get, RefState.named_wait]) _
  have hget (r : Ref) : (s.setPriority p).rfm.get r = (s.renamed p).rfm.get r := by
    rw [hrfm]
    cases r <;> rfl
  have hset : (s.renamed p).rfm.set.priority = p := by rw [State.renamed_set]
  refine ⟨by rw [hrfm]; exact hset, ?_, fun r => (hget r).trans (State.renamed_get s p r)⟩
  have hsel : (s.setPriority p).rfm.sel = (s.renamed p).rfm.firstUp := by rw [hrfm]
  rw [hsel, Rfm.firstUp, hset]
  exact congrArg (fun f => p.order.find? f) (funext fun r => by rw [hget])

theorem State.setPriority_kept {s : State} {p : Priority} (h : p ≠ s.rfm.set.priority) :
    (s.prioritized p).TimeKept (s.setPriority p) := by
  rw [State.setPriority_new h]
  exact (((State.TimeKept.refl (s.prioritized p)).setRef _ _).setRef _ _).select _

/-- A new priority leaves no RESEEK to be done where no row is answered so. -/
theorem State.setPriority_never {s : State} {p : Priority} (h : p ≠ s.rfm.set.priority) {k : Cause}
    (hs : s.fmn.answersNever k.response ∧ ∀ a ∈ s.work.acts, a.cause ≠ k) :
    (s.setPriority p).fmn.answersNever k.response ∧ ∀ a ∈ (s.setPriority p).work.acts, a.cause ≠ k := by
  have hP := FaultsOnly.never (C := fun _ => True) k
  rw [State.setPriority_new h]
  exact hP.select (hP.setRef (hP.setRef (s := s.prioritized p) hs _ _) _ _) _

/-! ### TIME_SET -/

/-- The state once the fields of a TIME_SET have taken effect, but for the priority (R95). -/
def State.timeTaken (s : State) (b : TimeSetBody) : State :=
  { s.rollWindow s.dsu.time.ns with
    rfm.set := (s.rollWindow s.dsu.time.ns).rfm.set.changed b
    dsu.set := (s.rollWindow s.dsu.time.ns).dsu.set.changed b
    dsu.pendSec := if timeHas b 0 then some b.seconds else (s.rollWindow s.dsu.time.ns).dsu.pendSec }

/-- The fields of a TIME_SET in a state (R95). -/
structure State.TookFields (s t : State) (b : TimeSetBody) : Prop where
  pendSec : t.dsu.pendSec = if timeHas b 0 = true then some b.seconds else s.dsu.pendSec
  cable : t.rfm.set.cable = if timeHas b 2 = true then b.cableDelay.toNat else s.rfm.set.cable
  ppsTol : t.rfm.set.ppsTol = if timeHas b 3 = true then b.ppsTol.toNat else s.rfm.set.ppsTol
  asym : t.rfm.set.asym = if timeHas b 4 = true then b.asym.toInt else s.rfm.set.asym
  delayMax : t.rfm.set.delayMax = if timeHas b 5 = true then b.delayMax.toNat else s.rfm.set.delayMax
  pShift : t.dsu.set.pShift = if timeHas b 6 = true then min 15 b.pShift.toNat else s.dsu.set.pShift
  iShift : t.dsu.set.iShift = if timeHas b 7 = true then min 20 b.iShift.toNat else s.dsu.set.iShift
  time : t.dsu.time = s.dsu.time
  steps : t.dsu.steps = s.dsu.steps

theorem State.timeTaken_eq (s : State) (b : TimeSetBody) : ∃ n c, s.timeTaken b = { s with
    rfm.nextWin := n, rfm.winClosed := c, rfm.set := s.rfm.set.changed b
    dsu.set := s.dsu.set.changed b, dsu.pendSec := if timeHas b 0 then some b.seconds else s.dsu.pendSec } := by
  obtain ⟨n, c, h⟩ := State.rollWindow_eq s s.dsu.time.ns
  refine ⟨n, c, ?_⟩
  unfold State.timeTaken
  rw [h]

theorem State.timeTaken_fields (s : State) (b : TimeSetBody) : s.TookFields (s.timeTaken b) b := by
  obtain ⟨n, c, h⟩ := State.timeTaken_eq s b
  rw [h]
  exact ⟨rfl, rfl, rfl, rfl, rfl, rfl, rfl, rfl, rfl⟩

theorem State.TookFields.kept {s t u : State} {b : TimeSetBody} (h : s.TookFields t b) (g : t.TimeKept u) :
    s.TookFields u b := by
  obtain ⟨h1, h2, h3, h4, h5, h6, h7, h8, h9⟩ := h
  obtain ⟨g1, g2, g3, g4, g5⟩ := g
  exact ⟨g4 ▸ h1, g1 ▸ h2, g1 ▸ h3, g1 ▸ h4, g1 ▸ h5, g3 ▸ h6, g3 ▸ h7, g2 ▸ h8, g5 ▸ h9⟩

theorem State.TookFields.prioritized {s t : State} {b : TimeSetBody} (h : s.TookFields t b) (p : Priority) :
    s.TookFields (t.prioritized p) b := ⟨h.1, h.2, h.3, h.4, h.5, h.6, h.7, h.8, h.9⟩

/-- Settles O24. -/
theorem timeSetTakesFields : Obligations.TimeSetTakesFields := by
  intro s tag b hs hload
  have hout (a : Answer) : s.received.outsideLoad a = a := State.outsideLoad_of_ne (s := s.received) hload a
  refine ⟨fun hbad => ?_, fun hgood => ?_⟩
  · exact exec_refused hs (c := .timeSet tag b) rfl rfl ((hout _).trans (if_neg (by
      show ¬ timeSetValid b s.hubInForce = true
      simp [hbad])))
  obtain ⟨n, c, htaken⟩ := State.timeTaken_eq s.received b
  have hfields := State.timeTaken_fields s.received b
  by_cases hnew : timeHas b 1 = true ∧ (Priority.ofCode b.priority.toNat).getD s.rfm.set.priority ≠ s.rfm.set.priority
  · obtain ⟨hhas, hne⟩ := hnew
    generalize hp : (Priority.ofCode b.priority.toNat).getD s.rfm.set.priority = p at hne
    have hprio : (s.received.timeTaken b).rfm.set.priority = s.rfm.set.priority := by rw [htaken]; rfl
    have hserve : s.received.serve (.timeSet b) = okWith ((s.received.timeTaken b).setPriority p) State.timeSetBody := by
      refine (hout _).trans ((if_pos hgood).trans ?_)
      refine congrArg (fun t => okWith t State.timeSetBody) ?_
      rw [if_pos hhas, ← hp, ← hprio]
      rfl
    obtain ⟨w, m, hw, hex, hslot⟩ := exec_answered hs (c := .timeSet tag b) rfl hserve rfl
    have hne' : p ≠ (s.received.timeTaken b).rfm.set.priority := by rw [hprio]; exact hne
    have hkept := (State.setPriority_kept hne').trans (State.TimeKept.finishWork _)
    rw [hw] at hkept
    obtain ⟨h1, h2, h3, h4, h5, h6, h7, h8, h9⟩ := (hfields.prioritized p).kept hkept
    refine ⟨_, hex, h1, h2, h3, h4, h5, h6, h7, h8, h9, hslot, fun hsame => ?_, fun q _ hq hqne hreseek => ?_⟩
    · rcases hsame with h | h
      · rw [hhas] at h
        cases h
      · rw [h] at hp
        exact absurd hp.symm hne
    · have hqp : q = p := by rw [← hp, hq]; rfl
      subst hqp
      obtain ⟨hset, hsel, hget⟩ := State.setPriority_rfm hne'
      obtain ⟨htable, hacts⟩ := State.setPriority_never (k := .reseek) hne' (by
        rw [htaken]
        exact ⟨hreseek, fun a ha => by
          have hnil : s.received.work.acts = [] := congrArg Work.acts hs.1.1.1
          have ha' : a ∈ s.received.work.acts := ha
          rw [hnil] at ha'
          cases ha'⟩)
      have hsame := ((State.Worked.finishWork_never (k := .reseek) (by simp) htable hacts).unreseeked (by simp)).rfm
      rw [hw] at hsame
      have hold (r : Ref) : (s.received.timeTaken b).rfm.get r = s.rfm.get r := by
        rw [htaken]
        cases r <;> rfl
      show w.rfm.set.priority = _ ∧ w.rfm.sel = q.order.find? (fun r => decide ((w.rfm.get r).mode = .up)) ∧ ∀ r, _
      rw [hsame]
      refine ⟨hset, hsel, fun r => ?_⟩
      rw [hget, hold]
      refine ⟨fun h => ?_, fun h h' => ?_, fun h h' => ?_⟩
      · simp [RefState.named, h]
      · simp [RefState.named, h, h']
      · simp [RefState.named, h, h']
  · have hserve : s.received.serve (.timeSet b) = okWith (s.received.timeTaken b) State.timeSetBody := by
      refine (hout _).trans ((if_pos hgood).trans ?_)
      refine congrArg (fun t => okWith t State.timeSetBody) ?_
      have hprio : (s.received.timeTaken b).rfm.set.priority = s.rfm.set.priority := by rw [htaken]; rfl
      by_cases hhas : timeHas b 1 = true
      · have hsame : (Priority.ofCode b.priority.toNat).getD s.rfm.set.priority = s.rfm.set.priority := by
          by_contra h
          exact hnew ⟨hhas, h⟩
        rw [if_pos hhas]
        refine if_pos ?_
        show (Priority.ofCode b.priority.toNat).getD (s.received.timeTaken b).rfm.set.priority =
          (s.received.timeTaken b).rfm.set.priority
        rw [hprio, hsame]
      · rw [if_neg hhas]
        rfl
    obtain ⟨m, hex, hslot⟩ := exec_idle hs (c := .timeSet tag b) rfl hserve rfl (by rw [htaken]; rfl) (by rw [htaken]; rfl)
    obtain ⟨h1, h2, h3, h4, h5, h6, h7, h8, h9⟩ := hfields
    refine ⟨_, hex, h1, h2, h3, h4, h5, h6, h7, h8, h9, hslot, fun _ => ?_, fun p hhas hp hne => ?_⟩
    · rw [htaken]
      exact ⟨rfl, rfl, rfl, rfl, rfl, rfl⟩
    · exact absurd ⟨hhas, by rw [hp]; exact hne⟩ hnew

end Sys2Proof.Machine
end

section
/-! PROOFS. The judgement of references and the selection (R64 to R75). -/

namespace Sys2Proof.Machine

/-! ### What a selection leaves of the references -/

/-- The Reference Monitor but for the selection and the waits. -/
def Rfm.unselected (m : Rfm) : Rfm := { m with sel := none, g := { m.g with wait := none }, l := { m.l with wait := none } }

theorem Rfm.selected_unselected (m : Rfm) (n : Option Ref) : (m.selected n).unselected = m.unselected := by
  cases n with
  | none => rfl
  | some r => cases r <;> rfl

theorem State.select_unselected (s : State) (n : Option Ref) : (s.select n).rfm.unselected = s.rfm.unselected := by
  rw [State.select_rfm]
  split
  · rfl
  · exact Rfm.selected_unselected _ _

theorem State.updateSelection_unselected (s : State) : s.updateSelection.rfm.unselected = s.rfm.unselected := by
  unfold State.updateSelection
  split
  · split
    · rfl
    · exact State.select_unselected _ _
  · exact State.select_unselected _ _

/-- References alike but for waits and selection. -/
theorem Rfm.unselected_get {m n : Rfm} (h : m.unselected = n.unselected) (r : Ref) : (m.get r).mode = (n.get r).mode
    ∧ (m.get r).k = (n.get r).k ∧ (m.get r).streak = (n.get r).streak := by
  cases r with
  | g => exact ⟨(congrArg (fun x => x.g.mode) h :), (congrArg (fun x => x.g.k) h :), (congrArg (fun x => x.g.streak) h :)⟩
  | l => exact ⟨(congrArg (fun x => x.l.mode) h :), (congrArg (fun x => x.l.k) h :), (congrArg (fun x => x.l.streak) h :)⟩

/-! ### A judgement of a reference -/

/-- A reference after a judgement, with its wait to restore (R71, R73). -/
def State.judgedRef (s : State) (r : Ref) (v : Verdict) : RefState :=
  let old := s.rfm.get r
  let new := old.judged v
  if old.mode = .up ∧ new.mode = .up then { new with wait := new.wait.map (· + 1) }
  else if new.mode = .up ∧ (s.rfm.sel.map (s.rfm.earlier r)) = some true then { new with wait := some 0 }
  else new

theorem State.judgeRef_eq (s : State) (r : Ref) (v : Verdict) : s.judgeRef r v =
    if (s.judgedRef r v).wait = some 30 then (s.setRef r (s.judgedRef r v)).select (some r)
    else (s.setRef r (s.judgedRef r v)).updateSelection := rfl

theorem State.judgedRef_core (s : State) (r : Ref) (v : Verdict) :
    (s.judgedRef r v).mode = ((s.rfm.get r).judged v).mode ∧ (s.judgedRef r v).k = ((s.rfm.get r).judged v).k
    ∧ (s.judgedRef r v).streak = ((s.rfm.get r).judged v).streak := by
  unfold State.judgedRef
  dsimp only
  split
  · exact ⟨rfl, rfl, rfl⟩
  · split <;> exact ⟨rfl, rfl, rfl⟩

theorem State.judgeRef_unselected (s : State) (r : Ref) (v : Verdict) :
    (s.judgeRef r v).rfm.unselected = (s.rfm.put r ((s.rfm.get r).judged v)).unselected := by
  have hput : (s.rfm.put r (s.judgedRef r v)).unselected = (s.rfm.put r ((s.rfm.get r).judged v)).unselected := by
    obtain ⟨hm, hk, hs⟩ := State.judgedRef_core s r v
    cases r <;> simp only [Rfm.put, Rfm.unselected, hm, hk, hs]
  rw [State.judgeRef_eq]
  split
  · rw [State.select_unselected, State.setRef_rfm, hput]
  · rw [State.updateSelection_unselected, State.setRef_rfm, hput]

/-- The table of R71, case by case. -/
theorem RefState.judged_cases (x : RefState) (v : Verdict) :
    (x.mode = .disabled ∨ v = .neutral → x.judged v = x)
    ∧ (x.mode = .down → v = .good → (x.judged v).mode = .probation ∧ (x.judged v).k = 1)
    ∧ (x.mode = .down → v = .bad → x.judged v = x)
    ∧ (x.mode = .probation → v = .good → x.k + 1 ≠ 10 → (x.judged v).mode = .probation ∧ (x.judged v).k = x.k + 1)
    ∧ (x.mode = .probation → v = .good → x.k + 1 = 10 →
      (x.judged v).mode = .up ∧ (x.judged v).k = 0 ∧ (x.judged v).streak = 0)
    ∧ (x.mode = .probation → v = .bad → x.judged v = { mode := .down })
    ∧ (x.mode = .up → v = .good → (x.judged v).mode = .up ∧ (x.judged v).streak = 0)
    ∧ (x.mode = .up → v = .bad → x.streak = 0 → (x.judged v).mode = .up ∧ (x.judged v).streak = 1)
    ∧ (x.mode = .up → v = .bad → x.streak ≠ 0 → x.judged v = { mode := .down }) := by
  unfold RefState.judged
  refine ⟨fun h => ?_, fun h hv => ?_, fun h hv => ?_, fun h hv hk => ?_, fun h hv hk => ?_, fun h hv => ?_,
    fun h hv => ?_, fun h hv hk => ?_, fun h hv hk => ?_⟩
  · rcases h with h | h
    · rw [h]
    · subst h
      cases x.mode <;> rfl
  · simp [h, hv]
  · simp [h, hv]
  · simp only [h, hv, if_neg hk, and_self]
  · simp only [h, hv, if_pos hk, and_self]
  · simp [h, hv]
  · simp [h, hv]
  · simp [h, hv, hk]
  · simp [h, hv, hk]

/-- A reference that leaves UP has no wait, and one that was not UP keeps the wait it had, or has none. -/
theorem RefState.judged_wait {x : RefState} {v : Verdict} (hy : (x.judged v).mode ≠ .up) (h : x.mode = .up ∨ x.wait = none) :
    (x.judged v).wait = none := by
  by_cases hx : x.mode = .up
  · unfold RefState.judged at hy ⊢
    cases v with
    | good => simp [hx] at hy
    | neutral => simp [hx] at hy
    | bad =>
      simp only [hx] at hy ⊢
      split at hy
      · exact absurd rfl hy
      · next hs => rw [if_neg hs]
  · have hnone : x.wait = none := h.resolve_left hx
    unfold RefState.judged
    split
    · exact hnone
    · split <;> exact hnone
    · rfl
    · exact hnone
    · split
      · exact hnone
      · rfl
    · exact hnone

/-! ### REF_LOSS follows the selection -/

/-- A move of the loop raises rows of tenants alone. -/
theorem State.loopOnSelection_seen (s : State) (a b : Option Ref) {q : Nat} (hq : q < 9) :
    (s.loopOnSelection a b).fmn.seen q = s.fmn.seen q := by
  have hjudge (t : State) (i : Fin 4) : (t.judgeFitness .fitness i).fmn.seen q = t.fmn.seen q := by
    unfold State.judgeFitness
    dsimp only
    split
    · rfl
    · split
      · split <;> simp
      · split
        · rfl
        · split
          · split
            · have hne : q ≠ rowHoldover i := by simp only [rowHoldover]; omega
              refine (State.raise_seen _ _ (.inl hne)).trans ?_
              simp
            · simp
          · simp
  have htenants (t : State) : (t.handQuality).fmn.seen q = t.fmn.seen q := by
    have hP := FaultsOnly.forTenants (P := fun u : State => u.fmn.seen q = t.fmn.seen q)
      (fun s i => s.judgeFitness .fitness i) (fun u i hu => (hjudge u i).trans hu) (s := t) rfl
    exact hP
  have hmove (st : LoopState) (c : TimeCause) : (s.moveLoop st c).fmn.seen q = s.fmn.seen q := (htenants _).trans rfl
  unfold State.loopOnSelection
  split
  · split
    · exact hmove _ _
    · rfl
  · split
    · exact hmove _ _
    · rfl
  · rfl

/-- A selection where there was none clears REF_LOSS, and the loss of the last raises it (R75). -/
theorem State.select_refLoss (s : State) :
    (∀ r, s.rfm.sel = none → ((s.select (some r)).fmn.row 7).active = false)
    ∧ (∀ r, s.rfm.sel = some r → s.fmn.rows.length = 21 → ((s.select none).fmn.row 7).active = true) := by
  refine ⟨fun r hsel => ?_, fun r hsel hrows => ?_⟩
  · unfold State.select
    dsimp only
    rw [hsel, if_neg (by simp)]
    refine (congrArg Prod.fst (State.loopOnSelection_seen _ _ _ (q := 7) (by omega))).trans ?_
    exact State.clear_inactive _ 7
  · unfold State.select
    dsimp only
    rw [hsel, if_neg (by simp)]
    refine (congrArg Prod.fst (State.loopOnSelection_seen _ _ _ (q := 7) (by omega))).trans ?_
    exact State.raiseNow_active (s := { s with rfm.sel := none }) (r := 7) hrows (by omega) r.code

/-! ### The selection after a judgement -/

theorem State.select_sel (s : State) (n : Option Ref) : (s.select n).rfm.sel = n := by
  rw [State.select_rfm]
  split
  · next h => exact h
  · cases n with
    | none => rfl
    | some r => cases r <;> rfl

theorem State.select_wait (s : State) {r q : Ref} (hne : s.rfm.sel ≠ some r) :
    ((s.select (some r)).rfm.get q).wait = if q = r then none else (s.rfm.get q).wait := by
  rw [State.select_rfm, if_neg hne]
  cases r <;> cases q <;> rfl

/-- The first reference that is UP, where it is known which are. -/
theorem Rfm.firstUp_some {m : Rfm} {r q : Ref} (hne : q ≠ r) (hr : (m.get r).mode = .up) (hq : (m.get q).mode ≠ .up)
    (hmem : r ∈ m.set.priority.order) : m.firstUp = some r := by
  unfold Rfm.firstUp
  cases h : m.set.priority.order.find? (fun x => decide ((m.get x).mode = .up)) with
  | none => exact absurd hr (by simpa using List.find?_eq_none.1 h r hmem)
  | some x =>
    have hx : (m.get x).mode = .up := by simpa using List.find?_some h
    by_cases hxr : x = r
    · rw [hxr]
    · have hxq : x = q := by cases x <;> cases r <;> cases q <;> simp_all
      exact absurd (hxq ▸ hx) hq

theorem Rfm.firstUp_none {m : Rfm} {r q : Ref} (hne : q ≠ r) (hr : (m.get r).mode ≠ .up) (hq : (m.get q).mode ≠ .up) :
    m.firstUp = none := by
  unfold Rfm.firstUp
  refine List.find?_eq_none.2 fun x _ => ?_
  have hx : x = r ∨ x = q := by cases x <;> cases r <;> cases q <;> simp_all
  rcases hx with rfl | rfl
  · simpa using hr
  · simpa using hq

/-- What a judgement writes before the selection is looked at. -/
theorem State.setRef_judged (s : State) {r q : Ref} (hne : q ≠ r) (v : Verdict) :
    (s.setRef r (s.judgedRef r v)).rfm.get r = s.judgedRef r v
    ∧ (s.setRef r (s.judgedRef r v)).rfm.get q = s.rfm.get q
    ∧ (s.setRef r (s.judgedRef r v)).rfm.sel = s.rfm.sel
    ∧ (s.setRef r (s.judgedRef r v)).rfm.set = s.rfm.set := by
  rw [State.setRef_rfm]
  refine ⟨by rw [Rfm.get_put, if_pos rfl], by rw [Rfm.get_put, if_neg hne], ?_, ?_⟩ <;> cases r <;> rfl

/-- With no reference selected, the first that is UP is selected (R72, R75). -/
theorem State.judgeRef_selects {s : State} {r q : Ref} {v : Verdict} (hne : q ≠ r) (hsel : s.rfm.sel = none)
    (hy : ((s.rfm.get r).judged v).mode = .up) (hmem : r ∈ s.rfm.set.priority.order) (hq : (s.rfm.get q).mode ≠ .up) :
    (s.judgeRef r v).rfm.sel = some r ∧ ((s.judgeRef r v).fmn.row 7).active = false := by
  obtain ⟨hr, hq', hsel', hset⟩ := State.setRef_judged s hne v
  have hmode := (State.judgedRef_core s r v).1.trans hy
  have hfirst : (s.setRef r (s.judgedRef r v)).rfm.firstUp = some r :=
    Rfm.firstUp_some hne (by rw [hr, hmode]) (by rw [hq']; exact hq) (by rw [hset]; exact hmem)
  have hgoes : s.judgeRef r v = (s.setRef r (s.judgedRef r v)).select (some r) := by
    rw [State.judgeRef_eq]
    split
    · rfl
    · unfold State.updateSelection
      rw [hsel', hsel, hfirst]
  rw [hgoes]
  exact ⟨State.select_sel _ _, (State.select_refLoss _).1 r (hsel'.trans hsel)⟩

/-- The selected reference lost: the other is selected if it is UP, and none otherwise (R72, R75). -/
theorem State.judgeRef_loses {s : State} {r q : Ref} {v : Verdict} (hne : q ≠ r) (hsel : s.rfm.sel = some r)
    (hx : (s.rfm.get r).mode = .up) (hy : ((s.rfm.get r).judged v).mode ≠ .up) :
    ((s.rfm.get q).mode = .up → q ∈ s.rfm.set.priority.order → (s.judgeRef r v).rfm.sel = some q)
    ∧ ((s.rfm.get q).mode ≠ .up → s.fmn.rows.length = 21 → (s.judgeRef r v).rfm.sel = none ∧ (s.judgeRef r v).rowActive 7) := by
  obtain ⟨hr, hq', hsel', hset⟩ := State.setRef_judged s hne v
  have hmode : (s.judgedRef r v).mode ≠ .up := (State.judgedRef_core s r v).1 ▸ hy
  have hnew : s.judgedRef r v = (s.rfm.get r).judged v := by
    unfold State.judgedRef
    dsimp only
    rw [if_neg (fun h => hy h.2), if_neg (fun h => hy h.1)]
  have hwait : (s.judgedRef r v).wait = none := by rw [hnew]; exact RefState.judged_wait hy (.inl hx)
  have hgoes : s.judgeRef r v = (s.setRef r (s.judgedRef r v)).select (s.setRef r (s.judgedRef r v)).rfm.firstUp := by
    rw [State.judgeRef_eq, if_neg (by simp [hwait])]
    unfold State.updateSelection
    simp only [hsel', hsel, hr, if_neg hmode]
  rw [hgoes]
  refine ⟨fun hup hmem => ?_, fun hdown hrows => ?_⟩
  · rw [State.select_sel]
    exact Rfm.firstUp_some (Ne.symm hne) (by rw [hq']; exact hup) (by rw [hr]; exact hmode) (by rw [hset]; exact hmem)
  · have hnone : (s.setRef r (s.judgedRef r v)).rfm.firstUp = none :=
      Rfm.firstUp_none hne (by rw [hr]; exact hmode) (by rw [hq']; exact hdown)
    rw [hnone]
    exact ⟨State.select_sel _ _, (State.select_refLoss _).2 r (hsel'.trans hsel) (by simpa using hrows)⟩

/-- A judgement of the reference before the selected one, up to the selection: only its wait run out takes it back (R73). -/
theorem State.judgeRef_waits {s : State} {r q : Ref} {v : Verdict} (hne : q ≠ r) (hsel : s.rfm.sel = some q)
    (hq : (s.rfm.get q).mode = .up) (hwait : (s.judgedRef r v).wait ≠ some 30) :
    (s.judgeRef r v).rfm.sel = some q ∧ ((s.judgeRef r v).rfm.get r).wait = (s.judgedRef r v).wait := by
  obtain ⟨hr, hq', hsel', -⟩ := State.setRef_judged s hne v
  have hstays : s.judgeRef r v = s.setRef r (s.judgedRef r v) := by
    rw [State.judgeRef_eq, if_neg hwait]
    unfold State.updateSelection
    simp only [hsel', hsel]
    exact if_pos (by rw [hq']; exact hq)
  rw [hstays]
  exact ⟨hsel'.trans hsel, by rw [hr]⟩

/-- The wait to restore (R73). -/
theorem State.judgeRef_wait {s : State} {r q : Ref} {v : Verdict} (hne : q ≠ r) (hsel : s.rfm.sel = some q)
    (hq : (s.rfm.get q).mode = .up) (horder : s.rfm.set.priority.order = [r, q]) :
    let x := s.rfm.get r
    let y := x.judged v
    let t := s.judgeRef r v
    (x.mode ≠ .up → y.mode = .up → t.rfm.sel = some q ∧ (t.rfm.get r).wait = some 0)
    ∧ (∀ n, x.mode = .up → y.mode = .up → x.wait = some n → n + 1 ≠ 30 →
      t.rfm.sel = some q ∧ (t.rfm.get r).wait = some (n + 1))
    ∧ (x.mode = .up → y.mode = .up → x.wait = some 29 → t.rfm.sel = some r ∧ (t.rfm.get r).wait = none)
    ∧ (y.mode ≠ .up → x.mode = .up ∨ x.wait = none → t.rfm.sel = some q ∧ (t.rfm.get r).wait = none) := by
  intro x y t
  have hkept (hx : x.mode = .up) (hy : y.mode = .up) : y.wait = x.wait := by
    show (x.judged v).wait = x.wait
    have hy' : (x.judged v).mode = .up := hy
    unfold RefState.judged at hy' ⊢
    cases v with
    | good => simp [hx]
    | neutral => simp [hx]
    | bad =>
      simp only [hx] at hy' ⊢
      split
      · rfl
      · next hs =>
        rw [if_neg hs] at hy'
        cases hy'
  have hcounted (hx : x.mode = .up) (hy : y.mode = .up) : (s.judgedRef r v).wait = x.wait.map (· + 1) := by
    unfold State.judgedRef
    dsimp only
    rw [if_pos ⟨hx, hy⟩, ← hkept hx hy]
  have hplain (hy : y.mode ≠ .up) : s.judgedRef r v = y := by
    unfold State.judgedRef
    dsimp only
    rw [if_neg (fun h => hy h.2), if_neg (fun h => hy h.1)]
  refine ⟨fun hx hy => ?_, fun n hx hy hw hn => ?_, fun hx hy hw => ?_, fun hy hxw => ?_⟩
  · have hearlier : (s.rfm.sel.map (s.rfm.earlier r)) = some true := by
      rw [hsel]
      simp [Rfm.earlier, horder, Ne.symm hne]
    have hzero : (s.judgedRef r v).wait = some 0 := by
      unfold State.judgedRef
      dsimp only
      rw [if_neg (fun h => hx h.1), if_pos ⟨hy, hearlier⟩]
    obtain ⟨h1, h2⟩ := State.judgeRef_waits (v := v) hne hsel hq (by simp [hzero])
    exact ⟨h1, h2.trans hzero⟩
  · have hnext : (s.judgedRef r v).wait = some (n + 1) := by rw [hcounted hx hy, hw]; rfl
    obtain ⟨h1, h2⟩ := State.judgeRef_waits (v := v) hne hsel hq (by rw [hnext]; simpa using hn)
    exact ⟨h1, h2.trans hnext⟩
  · have hdone : (s.judgedRef r v).wait = some 30 := by rw [hcounted hx hy, hw]; rfl
    have hgoes : s.judgeRef r v = (s.setRef r (s.judgedRef r v)).select (some r) := by
      rw [State.judgeRef_eq, if_pos hdone]
    have hother : (s.setRef r (s.judgedRef r v)).rfm.sel ≠ some r := by
      rw [(State.setRef_judged s hne v).2.2.1, hsel]
      exact fun h => hne (Option.some.inj h)
    show (s.judgeRef r v).rfm.sel = _ ∧ ((s.judgeRef r v).rfm.get r).wait = _
    rw [hgoes]
    exact ⟨State.select_sel _ _, (State.select_wait _ hother).trans (if_pos rfl)⟩
  · have hnone : (s.judgedRef r v).wait = none := by
      rw [hplain hy]
      exact RefState.judged_wait hy hxw
    obtain ⟨h1, h2⟩ := State.judgeRef_waits (v := v) hne hsel hq (by simp [hnone])
    exact ⟨h1, h2.trans hnone⟩

end Sys2Proof.Machine
end

section
/-! PROOFS. A loss of GNSS_OK, and the judgements at a crossing (R64 to R75). -/

namespace Sys2Proof.Machine

/-! ### What the end of an event leaves of the references -/

/-- The Reference Monitor but for the selection, the waits, L, and the framer's mark on its second. -/
def Rfm.lless (m : Rfm) : Rfm := { m.unselected with l := { mode := .down }, sec := { m.sec with framerOk := false } }

theorem Rfm.lless_of_unselected {m n : Rfm} (h : m.unselected = n.unselected) : m.lless = n.lless :=
  (congrArg (fun x : Rfm => { x with l := { mode := .down }, sec := { x.sec with framerOk := false } }) h :)

theorem State.refDown_unselected (s : State) (r : Ref) :
    (s.refDown r).rfm.unselected = s.rfm.unselected ∨ (s.refDown r).rfm.unselected = (s.rfm.put r { mode := .down }).unselected := by
  have hgoes : (s.setRef r { mode := .down }).updateSelection.rfm.unselected = (s.rfm.put r { mode := .down }).unselected := by
    rw [State.updateSelection_unselected, State.setRef_rfm]
  unfold State.refDown
  split
  · exact .inr hgoes
  · exact .inr hgoes
  all_goals exact .inl rfl

/-- An edit of the end of an event touches of the references L alone. -/
theorem State.Edit.lless {C : Cause → Prop} {s t : State} (e : State.Edit C s t) : t.rfm.lless = s.rfm.lless := by
  cases e with
  | refDown hC =>
    rcases State.refDown_unselected { s with rfm.sec.framerOk := false } .l with h | h
    · exact (Rfm.lless_of_unselected h).trans rfl
    · exact (Rfm.lless_of_unselected h).trans rfl
  | raise | clear | bar | hold | tryActive | adaptDown | offer => simp
  | port | work | dropPeer | hunt | unconfirm | site | stopRead | halted | alloc | runs => rfl

theorem State.finishWork_lless (s : State) : s.finishWork.rfm.lless = s.rfm.lless :=
  (State.Worked.finishWork_any s).keeps (P := fun t => t.rfm.lless = s.rfm.lless) (fun _ _ e h => e.lless.trans h) rfl

/-! ### The judgements of a crossing -/

theorem RefState.judged_unwaited (x : RefState) (v : Verdict) :
    ({ x with wait := none } : RefState).judged v = { x.judged v with wait := none } := by
  obtain ⟨mode, k, streak, wait⟩ := x
  cases mode <;> cases v <;> simp only [RefState.judged]
  all_goals split <;> rfl

/-- G judged, but for its wait and the selection. -/
def Rfm.judgedG (m : Rfm) : Rfm :=
  match m.win with
  | none => m
  | some w => { m with lastG := some (judgeWindow m.prevPulse w), g := m.g.judged (judgeWindow m.prevPulse w).verdict }

/-- L judged, but for its wait and the selection. -/
def Rfm.judgedL (m : Rfm) : Rfm :=
  if m.sec.judged && decide (m.l.mode ≠ .disabled) then
    { m with lastL := some m.sec.judge, l := m.l.judged m.sec.judge.verdict } else m

theorem Rfm.judgedG_unselected (m : Rfm) : m.unselected.judgedG.unselected = m.judgedG.unselected := by
  have hwin : m.unselected.win = m.win := rfl
  unfold Rfm.judgedG
  rw [hwin]
  cases m.win with
  | none => rfl
  | some w => simp only [Rfm.unselected, RefState.judged_unwaited]

theorem Rfm.judgedL_unselected (m : Rfm) : m.unselected.judgedL.unselected = m.judgedL.unselected := by
  unfold Rfm.judgedL
  show (if m.sec.judged && decide (m.l.mode ≠ .disabled) then _ else _ : Rfm).unselected = _
  split
  · simp only [Rfm.unselected, RefState.judged_unwaited]
  · rfl

/-- Either judgement leaves the other what it judges by. -/
theorem Rfm.judgedG_judgedL (m : Rfm) : m.judgedG.judgedL = m.judgedL.judgedG := by
  unfold Rfm.judgedG
  cases hw : m.win with
  | none =>
    show m.judgedL = _
    unfold Rfm.judgedL
    split <;> simp only [hw]
  | some w =>
    unfold Rfm.judgedL
    dsimp only
    split <;> simp only [hw]

theorem State.judgeG_unselected (s : State) : s.judgeG.rfm.unselected = s.rfm.judgedG.unselected := by
  unfold State.judgeG Rfm.judgedG
  cases hw : s.rfm.win with
  | none => rfl
  | some w =>
    dsimp only
    rw [← hw]
    exact State.judgeRef_unselected { s with rfm.lastG := some (judgeWindow s.rfm.prevPulse w) } .g
      (judgeWindow s.rfm.prevPulse w).verdict

theorem State.judgeL_unselected (s : State) : s.judgeL.rfm.unselected = s.rfm.judgedL.unselected := by
  unfold State.judgeL Rfm.judgedL
  split
  · exact State.judgeRef_unselected _ _ _
  · rfl

/-- Both judgements, in either order (R71). -/
theorem State.judgeBoth_unselected (s : State) (lFirst : Bool) :
    (s.judgeBoth lFirst).rfm.unselected = s.rfm.judgedG.judgedL.shiftWindows.unselected := by
  have hshift {m n : Rfm} (h : m.unselected = n.unselected) : m.shiftWindows.unselected = n.shiftWindows.unselected :=
    (congrArg Rfm.shiftWindows h :)
  have hgl : s.judgeG.judgeL.rfm.unselected = s.rfm.judgedG.judgedL.unselected := by
    rw [State.judgeL_unselected, ← Rfm.judgedL_unselected, State.judgeG_unselected, Rfm.judgedL_unselected]
  have hlg : s.judgeL.judgeG.rfm.unselected = s.rfm.judgedG.judgedL.unselected := by
    rw [State.judgeG_unselected, ← Rfm.judgedG_unselected, State.judgeL_unselected, Rfm.judgedG_unselected, Rfm.judgedG_judgedL]
  cases lFirst with
  | true => exact hshift hlg
  | false => exact hshift hgl

/-! ### A crossing, part by part -/

/-- A crossing has begun: the window last open is closed, and site time stands at the boundary. -/
def State.begun (s : State) : State :=
  let c := s.closeWindow
  { c with
    fmn.lastRaises := c.fmn.secRaises, fmn.secRaises := 0
    dsu.time := s.dsu.boundary, dsu.nextCross := c.dsu.nextCross + 1 }

/-- The loop's second, the setting or step done at the boundary, and the pulse. -/
def State.secondDone (s : State) (step : Option Int) (sec : Option (BitVec 32)) (x : SiteTime) : State :=
  (((s.loopSecond step.isSome).setSeconds sec x).doStep step x).ppsSecond step.isSome

/-- What the second hands to the blocks beside the loop and the references. -/
def State.secondHanded (s : State) (serving : Bool) : State :=
  let t := (((s.handQuality).forTenants State.dropSecond).slipSecond).dueSecond serving
  if t.spc.phase = .align then t.noteAlign else t

/-- The crossing as its parts. -/
theorem State.crossing_eq (s : State) (lFirst : Bool) : s.crossing lFirst =
    let t := ((((s.begun).judgeBoth lFirst).crossSecond.secondDone s.dsu.pendStep s.dsu.pendSec s.dsu.boundary).secondHanded
      (decide (s.spc.phase = .service))).startSecondL
    { t with dsu.time := timeAdd t.dsu.time s.dsu.overshoot } := rfl

theorem State.crossSecond_idle {s : State} (h : s.stu.queue = []) : s.crossSecond = s := by
  unfold State.crossSecond
  rw [Stu.active_empty h]

theorem State.loopSecond_rfm (s : State) (b : Bool) : (s.loopSecond b).rfm = s.rfm := by
  unfold State.loopSecond
  split <;> simp

/-- The loop's second touches of the references only the notes of a disturbed site time. -/
theorem State.secondDone_rfm (s : State) (step : Option Int) (sec : Option (BitVec 32)) (x : SiteTime) :
    ∃ d o w, (s.secondDone step sec x).rfm = { s.rfm with disturb := d, overlap := o, win := w } := by
  have hpps (t : State) (b : Bool) : (t.ppsSecond b).rfm = t.rfm := by
    unfold State.ppsSecond
    split <;> rfl
  unfold State.secondDone
  rw [hpps]
  have hloop := State.loopSecond_rfm s step.isSome
  generalize s.loopSecond step.isSome = t at hloop
  rw [← hloop]
  cases sec <;> cases step <;> exact ⟨_, _, _, rfl⟩

theorem State.secondHanded_kept (s : State) (b : Bool) : (s.secondHanded b).rfm = s.rfm ∧ (s.secondHanded b).dsu = s.dsu
    ∧ (s.secondHanded b).lfr.rx.secMismatch = 0 ∧ (s.secondHanded b).fmn.settings = s.fmn.settings := by
  have hdrop (t : State) : (t.forTenants State.dropSecond).rfm = t.rfm ∧ (t.forTenants State.dropSecond).dsu = t.dsu := by
    constructor <;> simp [State.forTenants, tenants]
  have hslip (t : State) : t.slipSecond.rfm = t.rfm ∧ t.slipSecond.dsu = t.dsu ∧ t.slipSecond.lfr.rx.secMismatch = 0
      ∧ t.slipSecond.fmn.settings = t.fmn.settings := by
    unfold State.slipSecond
    split
    · exact ⟨by simp, by simp, rfl, State.clear_settings t _⟩
    · exact ⟨rfl, rfl, rfl, rfl⟩
  have hdropSet (t : State) : (t.forTenants State.dropSecond).fmn.settings = t.fmn.settings := by
    refine FaultsOnly.forTenants (P := fun u : State => u.fmn.settings = t.fmn.settings) _ (fun u i hu => ?_) (s := t) rfl
    unfold State.dropSecond
    dsimp only
    split
    · exact hu
    · split
      · exact (State.clear_settings u _).trans hu
      · exact hu
  have hparts (t : State) (hr : t.rfm = s.rfm) (hd : t.dsu = s.dsu) (hm : t.lfr.rx.secMismatch = 0)
      (hf : t.fmn.settings = s.fmn.settings) : (if t.spc.phase = .align then t.noteAlign else t).rfm = s.rfm
      ∧ (if t.spc.phase = .align then t.noteAlign else t).dsu = s.dsu
      ∧ (if t.spc.phase = .align then t.noteAlign else t).lfr.rx.secMismatch = 0
      ∧ (if t.spc.phase = .align then t.noteAlign else t).fmn.settings = s.fmn.settings := by
    split
    · exact ⟨hr, hd, hm, hf⟩
    · exact ⟨hr, hd, hm, hf⟩
  have hquality : s.handQuality.fmn.settings = s.fmn.settings :=
    (FaultsOnly.settings (C := fun _ => True) s.fmn.settings).handQuality rfl
  obtain ⟨hr1, hd1⟩ := hdrop s.handQuality
  obtain ⟨hr2, hd2, hm2, hf2⟩ := hslip (s.handQuality.forTenants State.dropSecond)
  refine hparts _ ?_ ?_ ?_ ?_
  · simp [hr2, hr1]
  · simp [hd2, hd1]
  · simp [hm2]
  · simp [hf2, hdropSet, hquality]

/-- The references at the end of a crossing. -/
theorem State.crossing_rfm {s : State} (hq : s.stu.queue = []) (lFirst : Bool) : ∃ d o w st j f,
    (s.crossing lFirst).rfm = { (s.begun.judgeBoth lFirst).rfm with
      disturb := d, overlap := o, win := w, nextSec := {}
      sec := { (s.begun.judgeBoth lFirst).rfm.nextSec with start := st, judged := j, framerOk := f } } := by
  have hqueue : (s.begun.judgeBoth lFirst).stu.queue = [] := by
    unfold State.judgeBoth State.begun
    cases lFirst <;> simp [hq]
  rw [State.crossing_eq]
  dsimp only
  rw [State.crossSecond_idle hqueue]
  obtain ⟨d, o, w, hdone⟩ := State.secondDone_rfm (s.begun.judgeBoth lFirst) s.dsu.pendStep s.dsu.pendSec s.dsu.boundary
  have hhanded := (State.secondHanded_kept ((s.begun.judgeBoth lFirst).secondDone s.dsu.pendStep s.dsu.pendSec s.dsu.boundary)
    (decide (s.spc.phase = .service))).1.trans hdone
  generalize ((s.begun.judgeBoth lFirst).secondDone s.dsu.pendStep s.dsu.pendSec s.dsu.boundary).secondHanded
    (decide (s.spc.phase = .service)) = t at hhanded
  refine ⟨d, o, w, t.dsu.time, t.judges && decide (t.rfm.l.mode ≠ .disabled), t.lfr.rx.framer.carries, ?_⟩
  unfold State.startSecondL
  simp only [hhanded]

end Sys2Proof.Machine
end

section
/-! PROOFS. A loss of GNSS_OK, the judgements of a crossing, and the link time marks settled (R64 to R75). -/

namespace Sys2Proof.Machine

/-! ### A loss of GNSS_OK -/

/-- G stands as `x`, is not selected, and the pulse windows are these. -/
structure Rfm.Unselects (m : Rfm) (x : RefState) (w v : Option PulseWindow) : Prop where
  g : m.g = x
  sel : m.sel ≠ some .g
  win : m.win = w
  nextWin : m.nextWin = v

theorem State.updateSelection_unselects {s : State} (hup : s.rfm.g.mode ≠ .up) :
    s.updateSelection.rfm.Unselects s.rfm.g s.rfm.win s.rfm.nextWin := by
  have hfirst : s.rfm.firstUp ≠ some .g := by
    intro h
    unfold Rfm.firstUp at h
    exact hup (of_decide_eq_true (List.find?_some h :))
  have hselect : (s.select s.rfm.firstUp).rfm.Unselects s.rfm.g s.rfm.win s.rfm.nextWin := by
    rw [State.select_rfm]
    split
    · next h => exact ⟨rfl, h ▸ hfirst, rfl, rfl⟩
    · generalize hn : s.rfm.firstUp = n at hfirst
      cases n with
      | none => exact ⟨rfl, hfirst, rfl, rfl⟩
      | some r =>
        cases r with
        | g => exact absurd rfl hfirst
        | l => exact ⟨rfl, hfirst, rfl, rfl⟩
  unfold State.updateSelection
  split
  · next r h =>
    split
    · next hr =>
      refine ⟨rfl, fun hg => ?_, rfl, rfl⟩
      rw [h] at hg
      cases hg
      exact hup hr
    · exact hselect
  · exact hselect

/-- The end of an event selects no reference that is not UP, and touches neither G nor the windows. -/
theorem State.Edit.unselects {C : Cause → Prop} {s t : State} {x : RefState} {w v : Option PulseWindow} (hx : x.mode ≠ .up)
    (e : State.Edit C s t) (h : s.rfm.Unselects x w v) : t.rfm.Unselects x w v := by
  have hsame (hr : t.rfm = s.rfm) : t.rfm.Unselects x w v := by rw [hr]; exact h
  cases e with
  | refDown hC =>
    have hgoes : (({ s with rfm.sec.framerOk := false } : State).setRef .l { mode := .down }).updateSelection.rfm.Unselects x w v := by
      have hput : (({ s with rfm.sec.framerOk := false } : State).setRef .l { mode := .down }).rfm =
          ({ s.rfm with sec.framerOk := false } : Rfm).put .l { mode := .down } := State.setRef_rfm _ _ _
      have hnew := State.updateSelection_unselects
        (s := ({ s with rfm.sec.framerOk := false } : State).setRef .l { mode := .down }) (by
          rw [hput]
          show s.rfm.g.mode ≠ .up
          rw [h.g]
          exact hx)
      rw [hput] at hnew
      exact ⟨hnew.g.trans h.g, hnew.sel, hnew.win.trans h.win, hnew.nextWin.trans h.nextWin⟩
    unfold State.refDown
    split
    · exact hgoes
    · exact hgoes
    all_goals exact ⟨h.g, h.sel, h.win, h.nextWin⟩
  | raise | clear | bar | hold | tryActive | adaptDown | offer => exact hsame (by simp)
  | port | work | dropPeer | hunt | unconfirm | site | stopRead | halted | alloc | runs => exact hsame rfl

theorem State.Edit.pins {C : Cause → Prop} {s t : State} (e : State.Edit C s t) : t.pins = s.pins := by
  cases e with
  | refDown => exact (State.refDown_frame _ _).2.1
  | raise | clear | bar | hold | tryActive | adaptDown | offer => simp
  | port | work | dropPeer | hunt | unconfirm | site | stopRead | halted | alloc | runs => rfl

/-- The state as a deassertion of GNSS_OK leaves it, before G is taken DOWN. -/
def State.uncovered (s : State) : State :=
  let u := s.rollWindow s.dsu.time.ns
  { u with pins.gnssOk := false, rfm := u.rfm.modifyOpen PulseWindow.uncover }

theorem State.setGnssOk_lost {s : State} (hlow : s.rfm.set.gnssLow = false) (hok : s.pins.gnssOk = true) :
    s.setGnssOk false = s.uncovered.refDown .g := by
  obtain ⟨n, c, hroll⟩ := State.rollWindow_eq s s.dsu.time.ns
  unfold State.setGnssOk State.uncovered State.gnssOk
  rw [hroll]
  dsimp only
  rw [hlow, hok]
  rfl

theorem State.uncovered_windows (s : State) : s.uncovered.rfm.g = s.rfm.g
    ∧ (s.pastClose s.dsu.time.ns = false → s.rfm.winClosed = false →
      s.uncovered.rfm.win = s.rfm.win.map (fun w => { w with covered := false }) ∧ s.uncovered.rfm.nextWin = s.rfm.nextWin)
    ∧ (s.rfm.winClosed = true →
      s.uncovered.rfm.win = s.rfm.win ∧ s.uncovered.rfm.nextWin = s.rfm.nextWin.map (fun w => { w with covered := false })) := by
  refine ⟨?_, fun hpast hopen => ?_, fun hclosed => ?_⟩
  · obtain ⟨n, c, hroll⟩ := State.rollWindow_eq s s.dsu.time.ns
    unfold State.uncovered
    rw [hroll]
    cases c <;> rfl
  · have hroll : s.rollWindow s.dsu.time.ns = s := by simp [State.rollWindow, hpast]
    unfold State.uncovered
    rw [hroll]
    simp only [Rfm.modifyOpen, hopen]
    exact ⟨rfl, rfl⟩
  · have hroll : s.rollWindow s.dsu.time.ns = s := by simp [State.rollWindow, State.closeWindow, hclosed]
    unfold State.uncovered
    rw [hroll]
    simp only [Rfm.modifyOpen, hclosed]
    exact ⟨rfl, rfl⟩

/-- A deassertion of GNSS_OK, by the state of G (R64, R66). -/
theorem gnssLoss_settled {s : State} (hs : s.calm) (hlow : s.rfm.set.gnssLow = false) (hok : s.pins.gnssOk = true) :
    (s.rfm.g.mode = .probation ∨ s.rfm.g.mode = .up → ∃ t, exec (.gnssOkChange false) s = .next t
      ∧ t.rfm.Unselects { mode := .down } s.uncovered.rfm.win s.uncovered.rfm.nextWin ∧ t.pins.gnssOk = false)
    ∧ (s.rfm.g.mode = .down ∨ s.rfm.g.mode = .disabled → ∃ t, exec (.gnssOkChange false) s = .next t
      ∧ t.rfm = s.uncovered.rfm) := by
  have hinner : State.InnerOf View.consistent s (s.uncovered.refDown .g) := by
    rw [← State.setGnssOk_lost hlow hok]
    exact (State.InnerOf.refl (Q := View.consistent) s).setGnssOk false
  have hex : exec (.gnssOkChange false) s = .next (s.uncovered.refDown .g).close := by
    rw [← State.setGnssOk_lost hlow hok]
    rfl
  have hg : s.uncovered.rfm.g = s.rfm.g := (State.uncovered_windows s).1
  refine ⟨fun hmode => ?_, fun hmode => ?_⟩
  · have hgoes : s.uncovered.refDown .g = (s.uncovered.setRef .g { mode := .down }).updateSelection := by
      unfold State.refDown
      show (match s.uncovered.rfm.g.mode with | .probation | .up => _ | .disabled | .down => _) = _
      rw [hg]
      rcases hmode with h | h <;> rw [h]
    have hput : (s.uncovered.setRef .g { mode := .down }).rfm = s.uncovered.rfm.put .g { mode := .down } := State.setRef_rfm _ _ _
    have hstart : (s.uncovered.refDown .g).rfm.Unselects { mode := .down } s.uncovered.rfm.win s.uncovered.rfm.nextWin := by
      have hnew := State.updateSelection_unselects (s := s.uncovered.setRef .g { mode := .down }) (by
        rw [hput]
        simp [Rfm.put])
      rw [hput] at hnew
      rw [hgoes]
      exact hnew
    obtain ⟨m, hend⟩ := exec_ends hs hex hinner rfl
    have hw := (State.Worked.finishWork_any (s.uncovered.refDown .g)).keeps
      (P := fun u => u.rfm.Unselects { mode := .down } s.uncovered.rfm.win s.uncovered.rfm.nextWin)
      (fun _ _ e h => e.unselects (by simp) h) hstart
    have hpins := (State.Worked.finishWork_any (s.uncovered.refDown .g)).keeps
      (P := fun u => u.pins = (s.uncovered.refDown .g).pins) (fun _ _ e h => e.pins.trans h) rfl
    have hpin : (s.uncovered.refDown .g).pins.gnssOk = false := by
      rw [(State.refDown_frame _ _).2.1]
      rfl
    generalize (s.uncovered.refDown .g).finishWork = w at hend hw hpins
    exact ⟨_, hend, hw, (congrArg Pins.gnssOk hpins).trans hpin⟩
  · have hstays : s.uncovered.refDown .g = s.uncovered := by
      unfold State.refDown
      show (match s.uncovered.rfm.g.mode with | .probation | .up => _ | .disabled | .down => _) = _
      rw [hg]
      rcases hmode with h | h <;> rw [h]
    have hwork : s.uncovered.work = s.work ∧ s.uncovered.stu = s.stu := by
      unfold State.uncovered
      exact ⟨by simp, by simp⟩
    rw [hstays] at hex hinner
    obtain ⟨m, hend⟩ := exec_ends hs hex hinner
      (State.finishWork_idle (hwork.1.trans hs.1) (by rw [hwork.2]; exact hs.2.1))
    exact ⟨_, hend, rfl⟩

/-! ### The judgements of G and L at a crossing -/

theorem intervalOk_iff (prev : Option Nat) (w : PulseWindow) : intervalOk prev w = true ↔
    ∀ p, prev = some p → 1000000000 - (w.ppsTol : Int) ≤ (w.osc : Int) - (p : Int)
      ∧ (w.osc : Int) - (p : Int) ≤ 1000000000 + (w.ppsTol : Int) := by
  unfold intervalOk
  cases prev with
  | none => simp
  | some p => simp

/-- The tests of R65 in their order. -/
theorem judgeWindow_cases (prev : Option Nat) (w : PulseWindow) :
    let j := judgeWindow prev w
    let near := ∀ p, prev = some p → 1000000000 - (w.ppsTol : Int) ≤ (w.osc : Int) - (p : Int)
      ∧ (w.osc : Int) - (p : Int) ≤ 1000000000 + (w.ppsTol : Int)
    j.pulses = w.pulses
    ∧ (w.stepped = true → j.verdict = .neutral ∧ j.e = none)
    ∧ (w.stepped = false → w.pulses = 0 → j.verdict = .bad ∧ j.reason = some .noPulse)
    ∧ (w.stepped = false → 1 < w.pulses → j.verdict = .bad ∧ j.reason = some .extraPulse)
    ∧ (w.stepped = false → w.pulses = 1 → w.covered = false → j.verdict = .bad ∧ j.reason = some .qualifier)
    ∧ (w.stepped = false → w.pulses = 1 → w.covered = true → ¬ near → j.verdict = .bad ∧ j.reason = some .interval)
    ∧ (w.stepped = false → w.pulses = 1 → w.covered = true → near → j.verdict = .good ∧ j.reason = none
      ∧ j.e = some (intoSecond ((w.ns : Int) - (w.cable : Int)))) := by
  intro j near
  have hnear : near ↔ intervalOk prev w = true := (intervalOk_iff prev w).symm
  show (judgeWindow prev w).pulses = w.pulses ∧ _
  refine ⟨?_, fun h => ?_, fun h hp => ?_, fun h hp => ?_, fun h hp hc => ?_, fun h hp hc hn => ?_, fun h hp hc hn => ?_⟩
  · unfold judgeWindow
    (repeat' split) <;> rfl
  · simp [j, judgeWindow, h]
  · simp [j, judgeWindow, h, hp]
  · simp [j, judgeWindow, h, show w.pulses ≠ 0 by omega, show w.pulses ≠ 1 by omega]
  · simp [j, judgeWindow, h, hp, hc]
  · simp [j, judgeWindow, h, hp, hc, Bool.eq_false_iff.2 (fun hi => hn (hnear.2 hi))]
  · simp [j, judgeWindow, h, hp, hc, hnear.1 hn]

/-- The tests of R69 in their order. -/
theorem LSecond.judge_cases (x : LSecond) :
    let j := x.judge
    j.accepted = x.accepted ∧ j.refQuality = x.refQuality ∧ j.refDelay = x.refDelay ∧ j.refStep = x.refStep ∧ j.best = x.best
    ∧ (x.framerOk = false → j.verdict = .bad ∧ j.reason = some .framer)
    ∧ (x.framerOk = true → (x.headers = 0 ∨ x.allTrack = false) → j.verdict = .bad ∧ j.reason = some .peerQuality)
    ∧ (x.framerOk = true → x.headers ≠ 0 → x.allTrack = true → x.accepted < 1000 →
      j.verdict = .bad ∧ j.reason = some .fewMarks)
    ∧ (x.framerOk = true → x.headers ≠ 0 → x.allTrack = true → 1000 ≤ x.accepted →
      j.verdict = .good ∧ j.reason = none) := by
  intro j
  refine ⟨rfl, rfl, rfl, rfl, rfl, fun h => ?_, fun h hp => ?_, fun h hh ht ha => ?_, fun h hh ht ha => ?_⟩
  · simp [j, LSecond.judge, h]
  · rcases hp with hp | hp <;> simp [j, LSecond.judge, h, hp]
  · simp [j, LSecond.judge, h, hh, ht, ha]
  · simp [j, LSecond.judge, h, hh, ht, show ¬ x.accepted < 1000 by omega]

/-- A crossing ends in a state whose references agree, but for L and the selection, with those it leaves. -/
theorem exec_crossing {s : State} (hs : s.calm) (lFirst : Bool) : ∃ m, exec (.siteSecondCrossing lFirst) s =
    .next { (s.crossing lFirst).finishWork with mp := m } :=
  exec_ends hs rfl ((State.InnerOf.refl (Q := View.consistent) s).crossing lFirst) rfl

theorem State.begun_rfm (s : State) :
    ∃ n c, s.begun.rfm = { s.rfm with nextWin := n, winClosed := c } := by
  unfold State.begun State.closeWindow
  split
  · exact ⟨_, _, rfl⟩
  · exact ⟨_, _, rfl⟩

/-- What a crossing leaves of G and of its window, read from both judgements. -/
theorem State.crossing_g {s : State} (hq : s.stu.queue = []) (lFirst : Bool) {w : PulseWindow} (hw : s.rfm.win = some w) :
    let j := judgeWindow s.rfm.prevPulse w
    let t := (s.crossing lFirst).finishWork
    t.rfm.lastG = some j ∧ t.rfm.g.mode = (s.rfm.g.judged j.verdict).mode ∧ t.rfm.g.k = (s.rfm.g.judged j.verdict).k
      ∧ t.rfm.g.streak = (s.rfm.g.judged j.verdict).streak ∧ t.rfm.prevPulse = (if w.pulses = 0 then none else some w.osc) := by
  intro j t
  have hend : t.rfm.lless = (s.crossing lFirst).rfm.lless := State.finishWork_lless _
  clear_value t
  obtain ⟨d, o, v, st, jd, f, hrfm⟩ := State.crossing_rfm hq lFirst
  have hboth := State.judgeBoth_unselected s.begun lFirst
  obtain ⟨n, c, hbegun⟩ := State.begun_rfm s
  rw [hbegun] at hboth
  have hG : ({ s.rfm with nextWin := n, winClosed := c } : Rfm).judgedG =
      { s.rfm with nextWin := n, winClosed := c, lastG := some j, g := s.rfm.g.judged j.verdict } := by
    unfold Rfm.judgedG
    dsimp only
    rw [hw]
  have hGL : ∃ a l, (({ s.rfm with nextWin := n, winClosed := c } : Rfm).judgedG).judgedL =
      { s.rfm with nextWin := n, winClosed := c, lastG := some j, g := s.rfm.g.judged j.verdict, lastL := a, l := l } := by
    rw [hG]
    unfold Rfm.judgedL
    split
    · exact ⟨_, _, rfl⟩
    · exact ⟨_, _, rfl⟩
  obtain ⟨a, l, hGL⟩ := hGL
  rw [hGL] at hboth
  rw [hrfm] at hend
  generalize (s.begun.judgeBoth lFirst).rfm = b at hboth hend
  have hg : t.rfm.g.mode = b.g.mode ∧ t.rfm.g.k = b.g.k ∧ t.rfm.g.streak = b.g.streak :=
    ⟨(congrArg (fun x => x.g.mode) hend :), (congrArg (fun x => x.g.k) hend :), (congrArg (fun x => x.g.streak) hend :)⟩
  refine ⟨(congrArg Rfm.lastG hend :).trans (congrArg Rfm.lastG hboth :), hg.1.trans (congrArg (fun x => x.g.mode) hboth :),
    hg.2.1.trans (congrArg (fun x => x.g.k) hboth :), hg.2.2.trans (congrArg (fun x => x.g.streak) hboth :), ?_⟩
  refine (congrArg Rfm.prevPulse hend :).trans ((congrArg Rfm.prevPulse hboth :).trans ?_)
  show s.rfm.win.bind _ = _
  rw [hw]
  rfl

/-- What a crossing leaves of the judgement of L, and the second it begins. -/
theorem State.crossing_l {s : State} (hq : s.stu.queue = []) (lFirst : Bool) (hjudged : s.rfm.sec.judged = true)
    (hmode : s.rfm.l.mode ≠ .disabled) :
    let t := (s.crossing lFirst).finishWork
    t.rfm.lastL = some s.rfm.sec.judge ∧ t.rfm.sec.accepted = s.rfm.nextSec.accepted
      ∧ t.rfm.sec.headers = s.rfm.nextSec.headers ∧ t.rfm.sec.best = s.rfm.nextSec.best := by
  intro t
  have hend : t.rfm.lless = (s.crossing lFirst).rfm.lless := State.finishWork_lless _
  clear_value t
  obtain ⟨d, o, v, st, jd, f, hrfm⟩ := State.crossing_rfm hq lFirst
  have hboth := State.judgeBoth_unselected s.begun lFirst
  obtain ⟨n, c, hbegun⟩ := State.begun_rfm s
  rw [hbegun] at hboth
  have hG : ∃ a g, ({ s.rfm with nextWin := n, winClosed := c } : Rfm).judgedG =
      { s.rfm with nextWin := n, winClosed := c, lastG := a, g := g } := by
    unfold Rfm.judgedG
    split
    · exact ⟨_, _, rfl⟩
    · exact ⟨_, _, rfl⟩
  obtain ⟨a, g, hG⟩ := hG
  have hGL : (({ s.rfm with nextWin := n, winClosed := c } : Rfm).judgedG).judgedL =
      { s.rfm with nextWin := n, winClosed := c, lastG := a, g := g, lastL := some s.rfm.sec.judge
                   l := s.rfm.l.judged s.rfm.sec.judge.verdict } := by
    rw [hG]
    unfold Rfm.judgedL
    exact if_pos (by simp [hjudged, hmode])
  rw [hGL] at hboth
  rw [hrfm] at hend
  generalize (s.begun.judgeBoth lFirst).rfm = b at hboth hend
  exact ⟨(congrArg Rfm.lastL hend :).trans (congrArg Rfm.lastL hboth :),
    (congrArg (fun x => x.sec.accepted) hend :).trans (congrArg (fun x => x.nextSec.accepted) hboth :),
    (congrArg (fun x => x.sec.headers) hend :).trans (congrArg (fun x => x.nextSec.headers) hboth :),
    (congrArg (fun x => x.sec.best) hend :).trans (congrArg (fun x => x.nextSec.best) hboth :)⟩

/-! ### Link time marks -/

/-- What a good header adds to a second, by what it brings (R67 to R69). -/
theorem State.headerInto_cases (s : State) (x : LSecond) (h : Header) (t4 : SiteTime) (step : SiteTime → Bool) :
    let y := s.headerInto x h t4 step
    let d := roundDiv (timeDiff t4 h.echoTime - (h.held : Int)) 2
    let e := -(timeDiff h.sent t4 + d + s.rfm.set.asym)
    y.headers = x.headers + 1 ∧ y.allTrack = (x.allTrack && decide (h.loop = 2))
    ∧ (s.takesMarks = true → h.loop ≠ 2 → y.refQuality = x.refQuality + 1 ∧ y.accepted = x.accepted)
    ∧ (s.takesMarks = true → h.loop = 2 → h.echo = true →
      (d < 0 ∨ (s.rfm.set.delayMax : Int) < d → y.refDelay = x.refDelay + 1 ∧ y.accepted = x.accepted)
      ∧ (0 ≤ d → d ≤ (s.rfm.set.delayMax : Int) → step h.echoTime = true → y.refStep = x.refStep + 1 ∧ y.accepted = x.accepted)
      ∧ (0 ≤ d → d ≤ (s.rfm.set.delayMax : Int) → step h.echoTime = false → y.accepted = x.accepted + 1
        ∧ y.best = (match x.best with
          | some b => if d < b.d then some ⟨d, -e, e⟩ else some b
          | none => some ⟨d, -e, e⟩))) := by
  intro y d e
  have hmark : markOf s.rfm.set h.echoTime h.held h.sent t4 = ⟨d, -e, e⟩ := by
    show (⟨d, _, _⟩ : Mark) = _
    rw [show -e = timeDiff h.sent t4 + d + s.rfm.set.asym from neg_neg _]
  have hy : y = s.headerInto x h t4 step := rfl
  refine ⟨?_, ?_, fun hm hl => ?_, fun hm hl he => ?_⟩
  · rw [hy]
    unfold State.headerInto LSecond.takeMark
    dsimp only
    (repeat' split) <;> rfl
  · rw [hy]
    unfold State.headerInto LSecond.takeMark
    dsimp only
    (repeat' split) <;> rfl
  · simp [hy, State.headerInto, hm, hl]
  · have htaken : y = ({ x with headers := x.headers + 1, allTrack := x.allTrack && true } : LSecond).takeMark ⟨d, -e, e⟩
        s.rfm.set.delayMax (step h.echoTime) := by
      rw [hy, ← hmark]
      simp [State.headerInto, hm, hl, he]
    rw [htaken]
    unfold LSecond.takeMark
    dsimp only
    refine ⟨fun hd => ?_, fun h0 h1 hstep => ?_, fun h0 h1 hstep => ?_⟩
    · rw [if_pos hd]
      exact ⟨rfl, rfl⟩
    · rw [if_neg (by omega), if_pos hstep]
      exact ⟨rfl, rfl⟩
    · rw [if_neg (by omega), if_neg (by rw [hstep]; simp)]
      exact ⟨rfl, rfl⟩

/-- The second that a header counts in, by its arrival (R67). -/
theorem State.markHeader_cases (s : State) (h : Header) (t4 : SiteTime) :
    (0 ≤ timeDiff t4 s.dsu.boundary → s.markHeader h t4 =
      { s with rfm.nextSec := s.headerInto s.rfm.nextSec h t4 (fun t1 => s.rfm.spans t1 || s.dsu.willSpan t1) })
    ∧ (timeDiff t4 s.dsu.boundary < 0 → timeDiff t4 s.rfm.sec.start < 0 → s.markHeader h t4 = s)
    ∧ (timeDiff t4 s.dsu.boundary < 0 → 0 ≤ timeDiff t4 s.rfm.sec.start → s.markHeader h t4 =
      { s with rfm.sec := s.headerInto s.rfm.sec h t4 s.rfm.spans }) := by
  unfold State.markHeader
  refine ⟨fun h0 => if_pos h0, fun h0 h1 => ?_, fun h0 h1 => ?_⟩
  · rw [if_neg (by omega), if_pos h1]
  · rw [if_neg (by omega), if_neg (by omega)]

/-- Settles O51. -/
theorem gnssLossTakesGDown : Obligations.GnssLossTakesGDown := by
  refine ⟨fun s hs _ hlow hok => ?_, fun s lFirst w hs hq hw => ?_, fun s lFirst hs hq hjudged hmode => ?_, fun s h t4 => ?_,
    RefState.judged_cases, fun s r q v hne hrows => ?_⟩
  · obtain ⟨hleaves, hstays⟩ := gnssLoss_settled hs hlow hok
    obtain ⟨-, hopen, hclosed⟩ := State.uncovered_windows s
    refine ⟨fun hmode => ?_, fun hmode => ?_⟩
    · obtain ⟨t, hex, ⟨hg, hsel, hwin, hnext⟩, hpin⟩ := hleaves hmode
      exact ⟨t, hex, hg, hsel, hpin,
        fun hp hc => ⟨hwin.trans (hopen hp hc).1, hnext.trans (hopen hp hc).2⟩,
        fun hc => ⟨hwin.trans (hclosed hc).1, hnext.trans (hclosed hc).2⟩⟩
    · obtain ⟨t, hex, hrfm⟩ := hstays hmode
      refine ⟨t, hex, ?_, fun hp hc => ?_, fun hc => ?_⟩
      · rw [hrfm]
        exact (State.uncovered_windows s).1
      · rw [hrfm]
        exact (hopen hp hc).1
      · rw [hrfm]
        exact (hclosed hc).2
  · obtain ⟨m, hex⟩ := exec_crossing hs lFirst
    obtain ⟨hlast, hm, hk, hstreak, hprev⟩ := State.crossing_g hq lFirst hw
    obtain ⟨h1, h2, h3, h4, h5, h6, h7⟩ := judgeWindow_cases s.rfm.prevPulse w
    generalize (s.crossing lFirst).finishWork = t at hex hlast hm hk hstreak hprev
    exact ⟨_, _, hex, hlast, h1, h2, h3, h4, h5, h6, h7, hm, hk, hstreak, hprev⟩
  · obtain ⟨m, hex⟩ := exec_crossing hs lFirst
    obtain ⟨hlast, hacc, hhead, hbest⟩ := State.crossing_l hq lFirst hjudged hmode
    obtain ⟨h1, h2, h3, h4, h5, h6, h7, h8, h9⟩ := LSecond.judge_cases s.rfm.sec
    generalize (s.crossing lFirst).finishWork = t at hex hlast hacc hhead hbest
    refine ⟨_, _, hex, hlast, h1, h2, h3, h4, h5, h6, h7, h8, h9, fun hempty => ?_⟩
    rw [hempty] at hacc hhead hbest
    exact ⟨hacc, hhead, hbest⟩
  · obtain ⟨hnext, hnone, hthis⟩ := State.markHeader_cases s h t4
    refine ⟨fun h0 => ?_, hnone, fun h0 h1 => ?_⟩
    · rw [hnext h0]
      exact ⟨(State.headerInto_cases s _ h t4 _).1, rfl⟩
    · obtain ⟨hh, ht, hqual, hmark⟩ := State.headerInto_cases s s.rfm.sec h t4 s.rfm.spans
      rw [hthis h0 h1]
      exact ⟨hh, rfl, ht, hqual, hmark⟩
  · intro x y t order
    have hkept := State.judgeRef_unselected s r v
    obtain ⟨hm, hk, hstreak⟩ := Rfm.unselected_get hkept r
    have hother := (Rfm.unselected_get hkept q).1
    rw [Rfm.get_put, if_pos rfl] at hm hk hstreak
    rw [Rfm.get_put, if_neg hne] at hother
    exact ⟨hm, hk, hstreak, hother, fun hsel hy hmem hq => State.judgeRef_selects hne hsel hy hmem hq,
      fun hsel hx hy => ⟨(State.judgeRef_loses hne hsel hx hy).1, fun hq => (State.judgeRef_loses hne hsel hx hy).2 hq hrows⟩,
      fun hsel hq horder => State.judgeRef_wait hne hsel hq horder⟩

end Sys2Proof.Machine
end

section
/-! PROOFS. The crossing of a seconds boundary: its second, its step and the loop's report (R80 to R89, R93). -/

namespace Sys2Proof.Machine

/-! ### What a move of the loop leaves of the Discipline Unit -/

/-- The loop moved to another state (R81): both streaks cleared, and the move noted. -/
def Dsu.movedTo (d : Dsu) (st : LoopState) (c : TimeCause) : Dsu :=
  { d.moveTo st with acq := 0, trk := 0, left := d.loop, cause := c, landing := none }

theorem State.moveLoop_dsu (s : State) (st : LoopState) (c : TimeCause) : (s.moveLoop st c).dsu = s.dsu.movedTo st c := by
  unfold State.moveLoop
  simp [Dsu.movedTo]

/-- A part of the Discipline Unit that no move of the loop touches. -/
def Dsu.Unmoved {α : Type} (f : Dsu → α) : Prop := ∀ d st c, f (d.movedTo st c) = f d

section
variable {α : Type} {f : Dsu → α} (hf : Dsu.Unmoved f)
include hf

theorem State.loopOnSelection_unmoved (s : State) (a b : Option Ref) : f (s.loopOnSelection a b).dsu = f s.dsu := by
  have hmove (st : LoopState) (c : TimeCause) : f (s.moveLoop st c).dsu = f s.dsu := by rw [State.moveLoop_dsu, hf]
  unfold State.loopOnSelection
  split
  · split
    · exact hmove _ _
    · rfl
  · split
    · exact hmove _ _
    · rfl
  · rfl

theorem State.select_unmoved (s : State) (n : Option Ref) : f (s.select n).dsu = f s.dsu := by
  unfold State.select
  dsimp only
  split
  · rfl
  · generalize ht : State.noteRef _ .l = t
    have hsame : t.dsu = s.dsu := by
      rw [← ht]
      split <;> simp
    exact (State.loopOnSelection_unmoved hf t _ _).trans (congrArg f hsame)

theorem State.updateSelection_unmoved (s : State) : f s.updateSelection.dsu = f s.dsu := by
  unfold State.updateSelection
  split
  · split
    · rfl
    · exact State.select_unmoved hf s _
  · exact State.select_unmoved hf s _

theorem State.refDown_unmoved (s : State) (r : Ref) : f (s.refDown r).dsu = f s.dsu := by
  have hdown : f ((s.setRef r { mode := .down }).updateSelection).dsu = f s.dsu :=
    (State.updateSelection_unmoved hf _).trans (by simp)
  unfold State.refDown
  split
  · exact hdown
  · exact hdown
  all_goals rfl

theorem State.judgeRef_unmoved (s : State) (r : Ref) (v : Verdict) : f (s.judgeRef r v).dsu = f s.dsu := by
  rw [State.judgeRef_eq]
  split
  · exact (State.select_unmoved hf _ _).trans (by simp)
  · exact (State.updateSelection_unmoved hf _).trans (by simp)

theorem State.judgeBoth_unmoved (s : State) (lFirst : Bool) : f (s.judgeBoth lFirst).dsu = f s.dsu := by
  have hg (t : State) : f t.judgeG.dsu = f t.dsu := by
    unfold State.judgeG
    split
    · rfl
    · exact State.judgeRef_unmoved hf _ _ _
  have hl (t : State) : f t.judgeL.dsu = f t.dsu := by
    unfold State.judgeL
    split
    · exact State.judgeRef_unmoved hf _ _ _
    · rfl
  cases lFirst with
  | true => exact (hg _).trans (hl _)
  | false => exact (hl _).trans (hg _)

theorem State.Edit.unmoved {C : Cause → Prop} {s t : State} (e : State.Edit C s t) : f t.dsu = f s.dsu := by
  cases e with
  | refDown hC => exact State.refDown_unmoved hf { s with rfm.sec.framerOk := false } .l
  | raise | clear | bar | hold | tryActive | adaptDown | offer => simp
  | port | work | dropPeer | hunt | unconfirm | site | stopRead | halted | alloc | runs => rfl

theorem State.Worked.unmoved {C : Cause → Prop} {s t : State} (h : s.Worked C t) : f t.dsu = f s.dsu :=
  h.keeps (P := fun u => f u.dsu = f s.dsu) (fun _ _ e hs => (e.unmoved hf).trans hs) rfl

end

/-- The clock: site time, the pulse, the next crossing, the steps counted, and the settings. -/
def Dsu.clock (d : Dsu) : SiteTime × Option Nat × BitVec 32 × Count × DsuSet := (d.time, d.pps, d.nextCross, d.steps, d.set)

theorem Dsu.clock_unmoved : Dsu.Unmoved Dsu.clock := fun _ st _ => by cases st <;> rfl

theorem Dsu.pendStep_unmoved : Dsu.Unmoved Dsu.pendStep := fun _ st _ => by cases st <;> rfl

/-! ### The report taken -/

/-- A report taken in ACQUIRE (R82, R83). -/
def Dsu.acquires (d : Dsu) (e : Int) : Dsu :=
  if 1000 < e.natAbs then { d with pendStep := some e, acq := 0 }
  else if (d.update e).acq + 1 = 5 then (d.update e).movedTo .track .acquireStreak
  else { d.update e with acq := (d.update e).acq + 1 }

/-- A report taken in TRACK (R82, R83, R87). -/
def Dsu.tracks (d : Dsu) (e : Int) : Dsu :=
  if 1000 < e.natAbs then
    if d.trk + 1 = 3 then (d.movedTo .acquire .trackStreak).acquires e
    else { (d.update (clampInt (-1000) 1000 e)).writeRing with trk := d.trk + 1 }
  else { (d.update e).writeRing with trk := 0 }

/-- The report taken by the loop state (R82). -/
def Dsu.takes (d : Dsu) (r : Report) : Dsu :=
  match d.loop, r with
  | .acquire, .phase e => ({ d with report := some r }).acquires e
  | .track, .phase e => ({ d with report := some r }).tracks e
  | .holdover, _ => ({ d with report := some r }).age
  | _, _ => { d with report := some r }

theorem State.acquireReport_dsu (s : State) (e : Int) : (s.acquireReport e).dsu = s.dsu.acquires e := by
  unfold State.acquireReport Dsu.acquires
  dsimp only
  split
  · rfl
  · split
    · exact State.moveLoop_dsu _ _ _
    · rfl

theorem State.takeSecondReport_dsu (s : State) (r : Report) : (s.takeSecondReport r).dsu = s.dsu.takes r := by
  have htrack (t : State) (e : Int) : (t.trackReport e).dsu = t.dsu.tracks e := by
    unfold State.trackReport Dsu.tracks
    split
    · split
      · rw [State.acquireReport_dsu, State.moveLoop_dsu]
      · rfl
    · rfl
  unfold State.takeSecondReport Dsu.takes
  dsimp only
  cases s.dsu.loop with
  | free => cases r <;> rfl
  | holdover => cases r <;> rfl
  | acquire =>
    cases r with
    | phase e => exact State.acquireReport_dsu _ _
    | skipStep | skipBad | noReference => rfl
  | track =>
    cases r with
    | phase e => exact htrack _ _
    | skipStep | skipBad | noReference => rfl

theorem Dsu.acquires_clock (d : Dsu) (e : Int) : (d.acquires e).clock = d.clock := by
  unfold Dsu.acquires
  split
  · rfl
  · split
    · exact Dsu.clock_unmoved _ _ _
    · rfl

/-- A report changes nothing of the clock. -/
theorem Dsu.takes_clock (d : Dsu) (r : Report) : (d.takes r).clock = d.clock := by
  have htracks (x : Dsu) (e : Int) : (x.tracks e).clock = x.clock := by
    unfold Dsu.tracks
    split
    · split
      · exact (Dsu.acquires_clock _ _).trans (Dsu.clock_unmoved _ _ _)
      · rfl
    · rfl
  have hage (x : Dsu) : x.age.clock = x.clock := by
    unfold Dsu.age
    split <;> rfl
  unfold Dsu.takes
  split
  · exact (Dsu.acquires_clock _ _).trans rfl
  · exact (htracks _ _).trans rfl
  · exact (hage _).trans rfl
  · rfl

/-! ### The second of any crossing -/

theorem Worked.crossSecond (s : State) : State.Worked (fun _ => True) s s.crossSecond := by
  have hrefl := State.Worked.refl (C := fun _ => True) s
  unfold State.crossSecond
  cases hactive : s.stu.active with
  | none => exact hrefl
  | some r =>
    have hq : s.stu.queue ≠ [] := fun h => by
      rw [Stu.active_empty h] at hactive
      cases hactive
    have hset (x : Run) : State.Worked (fun _ => True) s (s.setActive x) := hrefl.setActive hq x
    have hqueue (x : Run) : (s.setActive x).stu.queue ≠ [] := by simp [State.setActive]
    dsimp only
    split
    · split
      · exact (hset _).endRun (.inl trivial) (hqueue _) _ _ _
      · split
        · exact (hset _).endRun (.inl trivial) (hqueue _) _ _ _
        · exact hset _
    · exact hrefl

namespace FaultsOnly

variable {P : State → Prop}

theorem judgeRef (hP : FaultsOnly (fun _ => True) P) {s : State} (h : P s) (r : Ref) (v : Verdict) : P (s.judgeRef r v) := by
  rw [State.judgeRef_eq]
  split
  · exact hP.select (hP.setRef h _ _) _
  · exact hP.updateSelection (hP.setRef h _ _)

theorem judgeBoth (hP : FaultsOnly (fun _ => True) P) {s : State} (h : P s) (lFirst : Bool) : P (s.judgeBoth lFirst) := by
  have hg {t : State} (ht : P t) : P t.judgeG := by
    unfold State.judgeG
    split
    · exact ht
    · refine hP.judgeRef ?_ _ _
      exact hP.congr t _ rfl rfl rfl rfl (fun _ => id) ht
  have hl {t : State} (ht : P t) : P t.judgeL := by
    unfold State.judgeL
    split
    · refine hP.judgeRef ?_ _ _
      exact hP.congr t _ rfl rfl rfl rfl (fun _ => id) ht
    · exact ht
  cases lFirst with
  | true => exact hP.congr s.judgeL.judgeG _ rfl rfl rfl rfl (fun _ => id) (hg (hl h))
  | false => exact hP.congr s.judgeG.judgeL _ rfl rfl rfl rfl (fun _ => id) (hl (hg h))

theorem loop (hP : FaultsOnly (fun _ => True) P) {s : State} (h : P s) (d : Dsu) : P { s with dsu := d } :=
  hP.congr s _ rfl rfl rfl rfl (fun _ => id) h

theorem acquireReport (hP : FaultsOnly (fun _ => True) P) {s : State} (h : P s) (e : Int) : P (s.acquireReport e) := by
  unfold State.acquireReport
  dsimp only
  split
  · exact hP.loop h _
  · split
    · exact hP.moveLoop (hP.loop h (s.dsu.update e)) _ _
    · exact hP.loop h _

theorem trackReport (hP : FaultsOnly (fun _ => True) P) {s : State} (h : P s) (e : Int) : P (s.trackReport e) := by
  unfold State.trackReport
  split
  · split
    · exact hP.acquireReport (hP.moveLoop h _ _) _
    · exact hP.loop h _
  · exact hP.loop h _

theorem takeSecondReport (hP : FaultsOnly (fun _ => True) P) {s : State} (h : P s) (r : Report) : P (s.takeSecondReport r) := by
  have hreport : P { s with dsu.report := some r } := hP.loop h _
  unfold State.takeSecondReport
  dsimp only
  split
  · exact hP.acquireReport hreport _
  · exact hP.trackReport hreport _
  · exact hP.loop h _
  · exact hreport

theorem secondDone (hP : FaultsOnly (fun _ => True) P) {s : State} (h : P s) (step : Option Int) (sec : Option (BitVec 32))
    (x : SiteTime) : P (s.secondDone step sec x) := by
  have hloop : P (s.loopSecond step.isSome) := by
    unfold State.loopSecond
    split
    · exact hP.congr s _ rfl rfl rfl rfl (fun _ => id) h
    · exact hP.takeSecondReport h _
  unfold State.secondDone
  generalize s.loopSecond step.isSome = t at hloop
  have hset : P (t.setSeconds sec x) := by
    cases sec with
    | none => exact hloop
    | some n => exact hP.noteTime (hP.congr t _ rfl rfl rfl rfl (fun _ => id) hloop)
  generalize t.setSeconds sec x = u at hset
  have hstep : P (u.doStep step x) := by
    cases step with
    | none => exact hset
    | some e => exact hP.noteTime (hP.congr u _ rfl rfl rfl rfl (fun _ => id) hset)
  generalize u.doStep step x = v at hstep
  unfold State.ppsSecond
  split
  · exact hstep
  · exact hP.congr v _ rfl rfl rfl rfl (fun _ => id) hstep

end FaultsOnly

/-- The raises of the second just ended are kept as the last second's. -/
theorem State.crossing_raises (s : State) (lFirst : Bool) : (s.crossing lFirst).fmn.lastRaises = s.fmn.secRaises := by
  have hS := FaultsOnly.settings (C := fun _ => True) s.begun.fmn.settings
  have hcross : (s.begun.judgeBoth lFirst).crossSecond.fmn.settings = s.begun.fmn.settings :=
    (Worked.crossSecond _).keeps (P := fun u => u.fmn.settings = s.begun.fmn.settings) (fun _ _ e h => hS.edit e h)
      (hS.judgeBoth (s := s.begun) rfl lFirst)
  rw [State.crossing_eq]
  dsimp only
  generalize (s.begun.judgeBoth lFirst).crossSecond = t at hcross
  have hdone := hS.secondDone hcross s.dsu.pendStep s.dsu.pendSec s.dsu.boundary
  generalize t.secondDone s.dsu.pendStep s.dsu.pendSec s.dsu.boundary = u at hdone
  have hhanded := (State.secondHanded_kept u (decide (s.spc.phase = .service))).2.2.2.trans hdone
  have hbegun : s.begun.fmn.lastRaises = s.fmn.secRaises := by
    unfold State.begun
    simp
  exact (congrArg (fun x => x.2.2.1) hhanded :).trans hbegun

/-! ### The clock at a crossing -/

/-- The clock once both judgements are made. -/
theorem State.crossSecond_clock (s : State) (lFirst : Bool) : (s.begun.judgeBoth lFirst).crossSecond.dsu.clock =
    (s.dsu.boundary, s.dsu.pps, s.dsu.nextCross + 1, s.dsu.steps, s.dsu.set) := by
  refine ((Worked.crossSecond _).unmoved Dsu.clock_unmoved).trans ((State.judgeBoth_unmoved Dsu.clock_unmoved _ lFirst).trans ?_)
  unfold State.begun
  simp [Dsu.clock]

/-- The Discipline Unit at the end of a crossing, but for site time. -/
theorem State.crossing_dsu (s : State) (lFirst : Bool) : (s.crossing lFirst).dsu =
    let d := ((s.begun.judgeBoth lFirst).crossSecond.secondDone s.dsu.pendStep s.dsu.pendSec s.dsu.boundary).dsu
    { d with time := timeAdd d.time s.dsu.overshoot } := by
  rw [State.crossing_eq]
  dsimp only
  have h := (State.secondHanded_kept ((s.begun.judgeBoth lFirst).crossSecond.secondDone s.dsu.pendStep s.dsu.pendSec
    s.dsu.boundary) (decide (s.spc.phase = .service))).2.1
  generalize ((s.begun.judgeBoth lFirst).crossSecond.secondDone s.dsu.pendStep s.dsu.pendSec s.dsu.boundary).secondHanded
    (decide (s.spc.phase = .service)) = t at h
  unfold State.startSecondL
  dsimp only
  rw [h]

theorem State.crossing_mismatch (s : State) (lFirst : Bool) : (s.crossing lFirst).lfr.rx.secMismatch = 0 := by
  rw [State.crossing_eq]
  exact (State.secondHanded_kept _ _).2.2.1

/-- With neither a step nor a setting due, the second is the report and the pulse. -/
theorem State.secondDone_plain (s : State) (x : SiteTime) : (s.secondDone none none x).dsu =
    let d := s.dsu.takes s.rfm.report
    { d with pps := if decide (d.loop = .free) && d.set.squelch then d.pps else some 800 } := by
  have hplain : s.secondDone none none x = (s.takeSecondReport s.rfm.report).ppsSecond false := rfl
  rw [hplain]
  dsimp only
  rw [← State.takeSecondReport_dsu]
  generalize s.takeSecondReport s.rfm.report = t
  unfold State.ppsSecond
  rw [Bool.false_or]
  split <;> rfl

/-- The end of a crossing's event keeps the clock, and the step that waits. -/
theorem exec_crossing_clock {s : State} (hs : s.calm) (lFirst : Bool) : ∃ t, exec (.siteSecondCrossing lFirst) s = .next t
    ∧ t.dsu.clock = (s.crossing lFirst).dsu.clock ∧ t.dsu.pendStep = (s.crossing lFirst).dsu.pendStep
    ∧ t.fmn.lastRaises = s.fmn.secRaises ∧ t.lfr.rx.secMismatch = 0 := by
  obtain ⟨m, hex⟩ := exec_crossing hs lFirst
  have hworked := State.Worked.finishWork_any (s.crossing lFirst)
  have hclock := hworked.unmoved Dsu.clock_unmoved
  have hstep := hworked.unmoved Dsu.pendStep_unmoved
  have hset := (FaultsOnly.settings (s.crossing lFirst).fmn.settings).finishWork rfl
  have hmis : (s.crossing lFirst).finishWork.lfr.rx.secMismatch = 0 := by
    refine hworked.keeps (P := fun u => u.lfr.rx.secMismatch = 0) (fun a b e h => ?_) (State.crossing_mismatch s lFirst)
    cases e with
    | refDown => rw [(State.refDown_frame _ _).2.2.2.1]; exact h
    | raise | clear | bar | hold | tryActive | adaptDown => simpa using h
    | offer =>
      unfold State.offer
      split <;> exact h
    | port | work | dropPeer | hunt | unconfirm | site | stopRead | halted | alloc | runs => exact h
  have hraises := State.crossing_raises s lFirst
  generalize (s.crossing lFirst).finishWork = t at hex hclock hstep hset hmis
  exact ⟨_, hex, hclock, hstep, (congrArg (fun x => x.2.2.1) hset :).trans hraises, hmis⟩

end Sys2Proof.Machine
end

section
/-! PROOFS. The crossing settled: its second, its step, the report of G, and the ageing of U (R80 to R93). -/

namespace Sys2Proof.Machine

/-! ### A selection that stands -/

/-- G is selected and UP, or nothing is selected and nothing is UP: no move of L changes the selection. -/
def Rfm.Stands (m : Rfm) : Prop := (m.sel = some .g ∧ m.g.mode = .up) ∨ (m.sel = none ∧ m.g.mode ≠ .up ∧ m.l.mode ≠ .up)

theorem State.updateSelection_stands {s : State} (h : s.rfm.Stands) : s.updateSelection = s := by
  unfold State.updateSelection
  rcases h with ⟨hsel, hg⟩ | ⟨hsel, hg, hl⟩
  · rw [hsel]
    exact if_pos hg
  · rw [hsel]
    have hnone : s.rfm.firstUp = none := Rfm.firstUp_none (r := .g) (q := .l) (by simp) hg hl
    rw [hnone]
    unfold State.select
    rw [hsel]
    exact if_pos rfl

/-- While the selection stands, the end of an event leaves it and the loop alone. -/
theorem State.Edit.stands {C : Cause → Prop} {s t : State} (e : State.Edit C s t) (h : s.rfm.Stands) :
    t.rfm.Stands ∧ t.dsu = s.dsu := by
  have hsame (hr : t.rfm = s.rfm) (hd : t.dsu = s.dsu) : t.rfm.Stands ∧ t.dsu = s.dsu := ⟨hr ▸ h, hd⟩
  cases e with
  | refDown hC =>
    have hput : (({ s with rfm.sec.framerOk := false } : State).setRef .l { mode := .down }).rfm.Stands := by
      rw [State.setRef_rfm]
      rcases h with ⟨hsel, hg⟩ | ⟨hsel, hg, hl⟩
      · exact .inl ⟨hsel, hg⟩
      · exact .inr ⟨hsel, hg, by simp [Rfm.put]⟩
    have hdown : (({ s with rfm.sec.framerOk := false } : State).setRef .l { mode := .down }).updateSelection.rfm.Stands
        ∧ (({ s with rfm.sec.framerOk := false } : State).setRef .l { mode := .down }).updateSelection.dsu = s.dsu := by
      rw [State.updateSelection_stands hput]
      exact ⟨hput, by simp⟩
    unfold State.refDown
    split
    · exact hdown
    · exact hdown
    all_goals exact ⟨h, rfl⟩
  | raise | clear | bar | hold | tryActive | adaptDown | offer => exact hsame (by simp) (by simp)
  | port | work | dropPeer | hunt | unconfirm | site | stopRead | halted | alloc | runs => exact hsame rfl rfl

/-- A crossing with neither step nor setting due, its judgements known: the report is taken, and nothing moves the loop after it. -/
theorem exec_crossing_report {s : State} (hs : s.calm) (hq : s.stu.queue = []) (hstep : s.dsu.pendStep = none)
    (hsec : s.dsu.pendSec = none) (lFirst : Bool) {r : Report} (hstands : (s.begun.judgeBoth lFirst).rfm.Stands)
    (hdsu : (s.begun.judgeBoth lFirst).dsu = s.begun.dsu) (hreport : (s.begun.judgeBoth lFirst).rfm.report = r) :
    ∃ t p x, exec (.siteSecondCrossing lFirst) s = .next t ∧ t.dsu = { s.begun.dsu.takes r with pps := p, time := x } := by
  obtain ⟨m, hex⟩ := exec_crossing hs lFirst
  have hqueue : (s.begun.judgeBoth lFirst).stu.queue = [] := by
    unfold State.judgeBoth State.begun
    cases lFirst <;> simp [hq]
  obtain ⟨d, o, w, st, j, f, hrfm⟩ := State.crossing_rfm hq lFirst
  have hend : (s.crossing lFirst).rfm.Stands := by
    rw [hrfm]
    exact hstands
  have hloop := State.crossing_dsu s lFirst
  rw [State.crossSecond_idle hqueue, hstep, hsec, State.secondDone_plain, hdsu, hreport] at hloop
  have hkept := (State.Worked.finishWork_any (s.crossing lFirst)).keeps
    (P := fun u => u.rfm.Stands ∧ u.dsu = (s.crossing lFirst).dsu)
    (fun _ _ e h => ⟨(e.stands h.1).1, (e.stands h.1).2.trans h.2⟩) ⟨hend, rfl⟩
  have hfinal := hkept.2.trans hloop
  generalize (s.crossing lFirst).finishWork = t at hex hfinal
  exact ⟨_, _, _, hex, hfinal⟩

/-! ### G selected and judged -/

/-- A judgement that leaves the selected reference UP changes no selection. -/
theorem State.judgeRef_stays {s : State} {r : Ref} {v : Verdict} (hsel : s.rfm.sel = some r)
    (hy : ((s.rfm.get r).judged v).mode = .up) : s.judgeRef r v = s.setRef r (s.judgedRef r v) := by
  have hmode : (s.judgedRef r v).mode = .up := (State.judgedRef_core s r v).1.trans hy
  have hset : (s.setRef r (s.judgedRef r v)).rfm.sel = some r := by
    rw [State.setRef_rfm]
    cases r <;> exact hsel
  have hget : (s.setRef r (s.judgedRef r v)).rfm.get r = s.judgedRef r v := by
    rw [State.setRef_rfm, Rfm.get_put, if_pos rfl]
  rw [State.judgeRef_eq]
  split
  · unfold State.select
    rw [hset]
    exact if_pos rfl
  · unfold State.updateSelection
    rw [hset]
    exact if_pos (by rw [hget]; exact hmode)

/-- G selected and UP, L's second not judged, and G's judgement leaving it UP: the report is G's. -/
theorem State.judgeBoth_g {s : State} (lFirst : Bool) {w : PulseWindow} (hsel : s.rfm.sel = some .g)
    (hsec : s.rfm.sec.judged = false) (hwin : s.rfm.win = some w)
    (hy : (s.rfm.g.judged (judgeWindow s.rfm.prevPulse w).verdict).mode = .up) :
    (s.judgeBoth lFirst).rfm.Stands ∧ (s.judgeBoth lFirst).dsu = s.dsu ∧ (s.judgeBoth lFirst).rfm.report =
      ({ sel := some .g, lastG := some (judgeWindow s.rfm.prevPulse w) } : Rfm).report := by
  have hl (t : State) (ht : t.rfm.sec.judged = false) : t.judgeL = t := by
    unfold State.judgeL
    rw [ht]
    rfl
  have hg : s.judgeG = ({ s with rfm.lastG := some (judgeWindow s.rfm.prevPulse w) } : State).setRef .g
      (({ s with rfm.lastG := some (judgeWindow s.rfm.prevPulse w) } : State).judgedRef .g
        (judgeWindow s.rfm.prevPulse w).verdict) := by
    unfold State.judgeG
    rw [hwin]
    exact State.judgeRef_stays (s := { s with rfm.lastG := some (judgeWindow s.rfm.prevPulse w) }) (r := .g) hsel hy
  have hrfm := (congrArg State.rfm hg).trans (State.setRef_rfm _ _ _)
  have hdsu : s.judgeG.dsu = s.dsu := by
    rw [hg]
    simp
  have hboth : s.judgeBoth lFirst = { s.judgeG with rfm := s.judgeG.rfm.shiftWindows } := by
    unfold State.judgeBoth
    cases lFirst with
    | true => rw [if_pos rfl, hl s hsec]
    | false =>
      rw [if_neg (by simp), hl s.judgeG (by rw [hrfm]; exact hsec)]
  have hmode := (State.judgedRef_core { s with rfm.lastG := some (judgeWindow s.rfm.prevPulse w) } .g
    (judgeWindow s.rfm.prevPulse w).verdict).1.trans hy
  rw [hboth]
  refine ⟨?_, hdsu, ?_⟩
  · show s.judgeG.rfm.shiftWindows.Stands
    rw [hrfm]
    exact .inl ⟨hsel, hmode⟩
  · show s.judgeG.rfm.shiftWindows.report = _
    rw [hrfm]
    unfold Rfm.report
    show (match s.rfm.sel with | none => _ | some .g => _ | some .l => _) = _
    rw [hsel]
    rfl

/-- Nothing selected, nothing UP, and nothing judged: there is no reference. -/
theorem State.judgeBoth_none {s : State} (lFirst : Bool) (hsel : s.rfm.sel = none) (hsec : s.rfm.sec.judged = false)
    (hwin : s.rfm.win = none) (hg : s.rfm.g.mode ≠ .up) (hl : s.rfm.l.mode ≠ .up) :
    (s.judgeBoth lFirst).rfm.Stands ∧ (s.judgeBoth lFirst).dsu = s.dsu ∧ (s.judgeBoth lFirst).rfm.report = .noReference := by
  have hjl : s.judgeL = s := by
    unfold State.judgeL
    rw [hsec]
    rfl
  have hjg : s.judgeG = s := by
    unfold State.judgeG
    rw [hwin]
  have hboth : s.judgeBoth lFirst = { s with rfm := s.rfm.shiftWindows } := by
    unfold State.judgeBoth
    cases lFirst <;> simp [hjl, hjg]
  rw [hboth]
  refine ⟨.inr ⟨hsel, hg, hl⟩, rfl, ?_⟩
  unfold Rfm.report
  show (match s.rfm.sel with | none => _ | some .g => _ | some .l => _) = _
  rw [hsel]

/-! ### The loop's tables -/

theorem Dsu.takes_acquire {d : Dsu} (h : d.loop = .acquire) (e : Int) :
    d.takes (.phase e) = ({ d with report := some (.phase e) } : Dsu).acquires e := by
  unfold Dsu.takes
  rw [h]

theorem Dsu.takes_track {d : Dsu} (h : d.loop = .track) (e : Int) :
    d.takes (.phase e) = ({ d with report := some (.phase e) } : Dsu).tracks e := by
  unfold Dsu.takes
  rw [h]

theorem Dsu.acquires_far {d : Dsu} {e : Int} (h : 1000 < e.natAbs) : d.acquires e = { d with pendStep := some e, acq := 0 } :=
  if_pos h

/-- A loop update in ACQUIRE, the fifth of which enters TRACK (R82, R86). -/
theorem Dsu.acquires_near {d : Dsu} {e : Int} (h : e.natAbs ≤ 1000) : d.acquires e =
    if d.acq + 1 = 5 then (d.update e).movedTo .track .acquireStreak else { d.update e with acq := d.acq + 1 } :=
  if_neg (by omega)

theorem Dsu.tracks_far {d : Dsu} {e : Int} (h : 1000 < e.natAbs) : d.tracks e =
    if d.trk + 1 = 3 then (d.movedTo .acquire .trackStreak).acquires e
    else { (d.update (clampInt (-1000) 1000 e)).writeRing with trk := d.trk + 1 } :=
  if_pos h

theorem Dsu.tracks_near {d : Dsu} {e : Int} (h : e.natAbs ≤ 1000) : d.tracks e = { (d.update e).writeRing with trk := 0 } :=
  if_neg (by omega)

/-- A report of the loop states it does not concern is only noted. -/
theorem Dsu.takes_skipped {d : Dsu} (h : d.loop = .acquire ∨ d.loop = .track) : d.takes .skipBad = { d with report := some .skipBad } := by
  unfold Dsu.takes
  rcases h with h | h <;> rw [h]

theorem Dsu.takes_report (d : Dsu) (r : Report) : (d.takes r).report = some r := by
  have hunmoved : Dsu.Unmoved Dsu.report := fun _ st _ => by cases st <;> rfl
  have hacquires (x : Dsu) (e : Int) : (x.acquires e).report = x.report := by
    unfold Dsu.acquires
    split
    · rfl
    · split
      · exact hunmoved _ _ _
      · rfl
  unfold Dsu.takes
  split
  · exact (hacquires _ _).trans rfl
  · unfold Dsu.tracks
    split
    · split
      · exact (hacquires _ _).trans ((hunmoved _ _ _).trans rfl)
      · rfl
    · rfl
  · unfold Dsu.age
    split <;> rfl
  · rfl

/-- A phase error taken, by the tables of R82, R83 and R87. -/
theorem Dsu.takes_phase (d : Dsu) (e : Int) :
    let t := d.takes (.phase e)
    let updated := fun x : Int => t.p = roundDiv (x * 1000) (2 ^ d.set.pShift)
      ∧ t.i = clampPpt (d.i + roundDiv (x * 1000) (2 ^ d.set.iShift)) ∧ t.c = clampPpt (-(t.p + t.i))
    let kept := t.c = d.c ∧ t.i = d.i ∧ t.ring = d.ring
    let written := t.ring = (if d.ring.length < 64 then d.ring else d.ring.drop 1) ++ [t.c]
    t.report = some (.phase e)
    ∧ (d.loop = .acquire → 1000 < e.natAbs → t.loop = .acquire ∧ t.pendStep = some e ∧ t.acq = 0 ∧ kept)
    ∧ (d.loop = .acquire → e.natAbs ≤ 1000 → updated e ∧ t.ring = d.ring ∧ t.pendStep = d.pendStep
      ∧ (d.acq + 1 = 5 → t.loop = .track ∧ t.acq = 0 ∧ t.u = d.set.uBase)
      ∧ (d.acq + 1 ≠ 5 → t.loop = .acquire ∧ t.acq = d.acq + 1))
    ∧ (d.loop = .track → e.natAbs ≤ 1000 → updated e ∧ written ∧ t.loop = .track ∧ t.trk = 0)
    ∧ (d.loop = .track → 1000 < e.natAbs → d.trk + 1 ≠ 3 →
      updated (max (-1000) (min 1000 e)) ∧ written ∧ t.loop = .track ∧ t.trk = d.trk + 1)
    ∧ (d.loop = .track → 1000 < e.natAbs → d.trk + 1 = 3 →
      t.loop = .acquire ∧ t.trk = 0 ∧ t.pendStep = some e ∧ t.u = Config.uSat ∧ kept) := by
  intro t updated kept written
  have ht : t = d.takes (.phase e) := rfl
  clear_value t
  refine ⟨?_, fun h he => ?_, fun h he => ?_, fun h he => ?_, fun h he htrk => ?_, fun h he htrk => ?_⟩
  · rw [ht, Dsu.takes_report]
  · rw [Dsu.takes_acquire h, Dsu.acquires_far he] at ht
    subst ht
    exact ⟨h, rfl, rfl, rfl, rfl, rfl⟩
  · rw [Dsu.takes_acquire h, Dsu.acquires_near he] at ht
    by_cases hacq : d.acq + 1 = 5
    · rw [if_pos hacq] at ht
      subst ht
      exact ⟨⟨rfl, rfl, rfl⟩, rfl, rfl, fun _ => ⟨rfl, rfl, rfl⟩, fun h => absurd hacq h⟩
    · rw [if_neg hacq] at ht
      subst ht
      exact ⟨⟨rfl, rfl, rfl⟩, rfl, rfl, fun h => absurd h hacq, fun _ => ⟨h, rfl⟩⟩
  · rw [Dsu.takes_track h, Dsu.tracks_near he] at ht
    subst ht
    exact ⟨⟨rfl, rfl, rfl⟩, rfl, h, rfl⟩
  · rw [Dsu.takes_track h, Dsu.tracks_far he, if_neg htrk] at ht
    have hclamp : clampInt (-1000) 1000 e = max (-1000) (min 1000 e) := rfl
    rw [hclamp] at ht
    subst ht
    exact ⟨⟨rfl, rfl, rfl⟩, rfl, h, rfl⟩
  · rw [Dsu.takes_track h, Dsu.tracks_far he, if_pos htrk, Dsu.acquires_far he] at ht
    subst ht
    exact ⟨rfl, rfl, rfl, rfl, rfl, rfl, rfl⟩

/-- Settles O49. -/
theorem crossingRunsSecondAndSteps : Obligations.CrossingRunsSecondAndSteps := by
  refine ⟨fun s lFirst hs hstep hsec hsquelch => ?_, fun s lFirst e hs hstep hsec htime => ?_,
    fun s lFirst w hs hq hstep hsec hsel hg hl hwin hw hprev => ?_, fun s lFirst hs hq hstep hsec hloop hsel hwin hl hg hlmode => ?_⟩
  · obtain ⟨t, hex, hclock, -, hraises, hmis⟩ := exec_crossing_clock hs lFirst
    have hbase := State.crossSecond_clock s lFirst
    have hdsu := State.crossing_dsu s lFirst
    rw [hstep, hsec, State.secondDone_plain] at hdsu
    generalize (s.begun.judgeBoth lFirst).crossSecond = u at hbase hdsu
    have htaken := (Dsu.takes_clock u.dsu u.rfm.report).trans hbase
    generalize u.dsu.takes u.rfm.report = d at hdsu htaken
    have hset : d.set.squelch = false := (congrArg (fun x => x.2.2.2.2.squelch) htaken :).trans hsquelch
    rw [hdsu] at hclock
    refine ⟨t, hex, (congrArg (fun x => x.2.1) hclock :).trans ?_,
      (congrArg (fun x => x.2.2.1) hclock :).trans (congrArg (fun x => x.2.2.1) htaken :), hraises, hmis,
      (congrArg (fun x => x.2.2.2.1) hclock :).trans (congrArg (fun x => x.2.2.2.1) htaken :)⟩
    show (if decide (d.loop = .free) && d.set.squelch then d.pps else some 800) = some 800
    rw [hset, Bool.and_false]
    rfl
  · obtain ⟨t, hex, hclock, hpend, -, -⟩ := exec_crossing_clock hs lFirst
    have hbase := State.crossSecond_clock s lFirst
    have hdsu := State.crossing_dsu s lFirst
    have hahead : s.dsu.overshoot = 0 := by
      unfold Dsu.overshoot Dsu.boundary
      rw [htime, timeDiff_self]
      rfl
    generalize (s.begun.judgeBoth lFirst).crossSecond = u at hbase hdsu
    have hage : u.dsu.age.clock = u.dsu.clock := by
      unfold Dsu.age
      split <;> rfl
    have hdone : (u.secondDone s.dsu.pendStep s.dsu.pendSec s.dsu.boundary).dsu = { u.dsu.age with
        time := timeAdd u.dsu.age.time (-e), pendStep := none, steps := u.dsu.age.steps + 1, cause := .step
        landing := some (timeAdd u.dsu.age.time (-e), e)
        nextCross := laterSec u.dsu.age.nextCross ((timeAdd u.dsu.age.time (-e)).sec + 1) } := by
      rw [hstep, hsec]
      rfl
    rw [hdone, hahead] at hdsu
    dsimp only at hdsu
    rw [timeAdd_zero _ (timeAdd_ns_lt _ _)] at hdsu
    have hu := hage.trans hbase
    generalize u.dsu.age = d at hdsu hu
    have htime0 : d.time = ⟨s.dsu.nextCross, 0⟩ := (congrArg (fun x => x.1) hu :)
    have hnext0 : d.nextCross = s.dsu.nextCross + 1 := (congrArg (fun x => x.2.2.1) hu :)
    rw [hdsu] at hclock hpend
    have hland : t.dsu.time = timeAdd d.time (-e) := (congrArg (fun x => x.1) hclock :)
    refine ⟨t, hex, by rw [hland, htime0], (congrArg (fun x => x.2.1) hclock :).trans (congrArg (fun x => x.2.1) hu :),
      (congrArg (fun x => x.2.2.2.1) hclock :).trans ?_, hpend, (congrArg (fun x => x.2.2.1) hclock :).trans ?_⟩
    · show d.steps + 1 = s.dsu.steps + 1
      have hsteps : d.steps = s.dsu.steps := (congrArg (fun x => x.2.2.2.1) hu :)
      rw [hsteps]
    · show laterSec d.nextCross ((timeAdd d.time (-e)).sec + 1) = _
      rw [hland, hnext0]
  · intro d e
    obtain ⟨n, c, hbegun⟩ := State.begun_rfm s
    have hbd : s.begun.dsu = { d with time := s.dsu.boundary, nextCross := d.nextCross + 1 } := by
      unfold State.begun
      simp [d]
    have hends (v : Verdict) (hv : (judgeWindow none w).verdict = v) (hy : (s.rfm.g.judged v).mode = .up) :
        ∃ t p x, exec (.siteSecondCrossing lFirst) s = .next t ∧ t.dsu = { s.begun.dsu.takes
          (({ sel := some .g, lastG := some (judgeWindow none w) } : Rfm).report) with pps := p, time := x } := by
      have hjudge := State.judgeBoth_g (s := s.begun) lFirst (w := w) (by rw [hbegun]; exact hsel) (by rw [hbegun]; exact hl)
        (by rw [hbegun]; exact hwin) (by rw [hbegun]; show (s.rfm.g.judged (judgeWindow s.rfm.prevPulse w).verdict).mode = _
                                         rw [hprev, hv]; exact hy)
      have hp : s.begun.rfm.prevPulse = none := by rw [hbegun]; exact hprev
      rw [hp] at hjudge
      exact exec_crossing_report hs hq hstep hsec lFirst hjudge.1 hjudge.2.1 hjudge.2.2
    obtain ⟨m, hex0⟩ := exec_crossing hs lFirst
    generalize (s.crossing lFirst).finishWork = t0 at hex0
    refine ⟨_, hex0, fun hp hc hlow hhigh => ?_, fun hp hstreak hloop => ?_⟩
    · intro updated kept written
      have hj : judgeWindow none w = ⟨.good, none, w.pulses, some e⟩ := by
        have hin : intoSecond e = e := by
          unfold intoSecond
          rw [if_neg (by omega), if_neg (by omega)]
        show judgeWindow none w = ⟨.good, none, w.pulses, some e⟩
        rw [← hin]
        unfold judgeWindow
        rw [hw, hp, hc]
        rfl
      obtain ⟨t, p, x, hex, ht⟩ := hends .good (by rw [hj]) (by simp [RefState.judged, hg])
      obtain rfl : t = _ := by injection hex.symm.trans hex0
      have hreport : ({ sel := some .g, lastG := some (judgeWindow none w) } : Rfm).report = .phase e := by
        rw [hj]
        rfl
      have htable := Dsu.takes_phase s.begun.dsu e
      rw [hreport] at ht
      rw [hbd] at ht htable
      generalize Dsu.takes _ (.phase e) = u at ht htable
      simp only [updated, kept, written]
      rw [ht]
      obtain ⟨h1, h2, h3, h4, h5, h6⟩ := htable
      refine ⟨h1, h2, fun h he => ?_, h4, h5, h6⟩
      obtain ⟨hupdated, hring, hpend, hnext⟩ := h3 h he
      exact ⟨hupdated, hring, hpend.trans hstep, hnext⟩
    · have hbad : (judgeWindow none w).verdict = .bad := ((judgeWindow_cases none w).2.2.1 hw hp).1
      obtain ⟨t, p, x, hex, ht⟩ := hends .bad hbad (by simp [RefState.judged, hg, hstreak])
      obtain rfl : t = _ := by injection hex.symm.trans hex0
      have hreport : ({ sel := some .g, lastG := some (judgeWindow none w) } : Rfm).report = .skipBad := by
        unfold Rfm.report
        simp [hbad]
      have hskip := Dsu.takes_skipped (d := s.begun.dsu) (by rw [hbd]; exact hloop)
      rw [hreport, hskip, hbd] at ht
      rw [ht]
      exact ⟨rfl, rfl, rfl, rfl, rfl, rfl, rfl⟩
  · obtain ⟨n, c, hbegun⟩ := State.begun_rfm s
    obtain ⟨hstands, hdsu, hreport⟩ := State.judgeBoth_none (s := s.begun) lFirst (by rw [hbegun]; exact hsel)
      (by rw [hbegun]; exact hl) (by rw [hbegun]; exact hwin) (by rw [hbegun]; exact hg) (by rw [hbegun]; exact hlmode)
    obtain ⟨t, p, x, hex, ht⟩ := exec_crossing_report hs hq hstep hsec lFirst hstands hdsu hreport
    have hbd : s.begun.dsu = { s.dsu with time := s.dsu.boundary, nextCross := s.dsu.nextCross + 1 } := by
      unfold State.begun
      simp
    have htakes : ({ s.dsu with time := s.dsu.boundary, nextCross := s.dsu.nextCross + 1 } : Dsu).takes .noReference =
        ({ s.dsu with time := s.dsu.boundary, nextCross := s.dsu.nextCross + 1, report := some .noReference } : Dsu).age := by
      unfold Dsu.takes
      dsimp only
      rw [hloop]
    rw [hbd, htakes] at ht
    unfold Dsu.age at ht
    rw [if_pos hloop] at ht
    refine ⟨t, hex, ?_⟩
    rw [ht]
    exact ⟨rfl, hloop, rfl, rfl, rfl, rfl⟩

end Sys2Proof.Machine
end

section
/-! PROOFS. Runs stopped by a move of the phase, and raises that stay within the fault table (R105, R153, R159). -/

namespace Sys2Proof.Machine

/-! ### The runs that a move of the phase stops -/

theorem phaseAbortCause_ne (r : Run) (c : PhaseCause) : phaseAbortCause r c ≠ .revoked := by
  unfold phaseAbortCause
  split <;> simp

/-- The active run ends ABORTED, and the runs behind it are removed (R105, R159). -/
theorem State.stopRuns_active {s : State} {r : Run} (h : s.runActive r) (c : PhaseCause) : ∃ k a d g m due,
    s.stopRuns c = { s with
      stu := { s.stu with
        kept := k, log := (s.recordOf r .aborted (phaseAbortCause r c) :: s.stu.log).take 16, decisive := d, queue := [], removed := g }
      sha := if r.entry.kind = .linkPattern ∧ ¬ (phaseAbortCause r c = .revoked ∨ r.state = .draining) then
        { s.sha with tReq := 0, grant := none } else s.sha
      work := { s.work with alloc := a, runDue := due }, mp := m } := by
  obtain ⟨hstate, rs, hq, hqueued⟩ := h
  have hactive : s.stu.active = some r := Stu.active_cons hq hstate
  obtain ⟨k, a, hback⟩ := State.giveBack_eq s r (phaseAbortCause r c)
  obtain ⟨d, x, hfinish, hacts, hsame⟩ := State.finishRun_eq (s.giveBack r (phaseAbortCause r c)) r .aborted (phaseAbortCause r c)
  obtain ⟨hfmn, hceiling⟩ := hsame rfl
  have hquiet : s.abortQuietly c (fun _ => true) = (s.giveBack r (phaseAbortCause r c)).finishRun r .aborted (phaseAbortCause r c) := by
    unfold State.abortQuietly
    rw [hactive]
    exact if_pos rfl
  rw [hback] at hfinish hfmn hceiling
  rw [hback] at hquiet
  rw [State.withRaised, hacts (by simp), hfmn, hceiling] at hfinish
  dsimp only at hfinish
  obtain ⟨g, m, hremove⟩ := State.removeRuns_eq (s.abortQuietly c (fun _ => true)) (fun _ => true)
  rw [hquiet, hfinish] at hremove
  have hnone : (s.stu.queue.tail.filter fun r => !(decide (r.state = .queued) && true)) = [] := by
    rw [hq]
    refine List.filter_eq_nil_iff.2 fun q hmem => ?_
    simp [hqueued q hmem]
  dsimp only at hremove
  rw [hnone] at hremove
  refine ⟨k, a, d, g, m, !s.stu.queue.tail.isEmpty, ?_⟩
  unfold State.stopRuns
  rw [hquiet, hfinish, hremove]
  simp only [List.append_nil]
  rfl

/-- A state whose runs and grant are those of one where `r` was stopped. -/
theorem State.runsStopped.of_eq {s t : State} {r : Run} {c : RunCause} (h : s.runsStopped r c) (hstu : t.stu.queue = s.stu.queue)
    (hlog : t.stu.log = s.stu.log) (hsha : t.sha = s.sha) : t.runsStopped r c := by
  obtain ⟨hq, hl, hg⟩ := h
  exact ⟨hstu.trans hq, by rw [hlog]; exact hl, by rw [hsha]; exact hg⟩

theorem State.runsStopped.finishWork {s : State} {r : Run} {c : RunCause} (h : s.runsStopped r c) : s.finishWork.runsStopped r c := by
  obtain ⟨hq, hl, hg⟩ := h
  have hend := State.Runless.finishWork hq
  generalize s.finishWork = t at hend
  exact ⟨hend.queue, by rw [hend.log]; exact hl, fun hk hd => hend.share (hg hk hd).1 (hg hk hd).2⟩

theorem State.stopRuns_stops {s : State} {r : Run} (h : s.runActive r) (c : PhaseCause) :
    (s.stopRuns c).runsStopped r (phaseAbortCause r c) ∧ (s.stopRuns c).work.acts = s.work.acts
      ∧ (s.stopRuns c).tpt = s.tpt ∧ (s.stopRuns c).fmn = s.fmn := by
  obtain ⟨k, a, d, g, m, due, heq⟩ := State.stopRuns_active h c
  rw [heq]
  refine ⟨⟨rfl, ⟨s.recordOf r .aborted (phaseAbortCause r c), by simp, rfl, rfl, rfl, rfl⟩, fun hk hd => ?_⟩, rfl, rfl, rfl⟩
  have hgiven : r.entry.kind = .linkPattern ∧ ¬ (phaseAbortCause r c = .revoked ∨ r.state = .draining) :=
    ⟨hk, fun h => h.elim (phaseAbortCause_ne r c) hd⟩
  dsimp only
  rw [if_pos hgiven]
  exact ⟨rfl, rfl⟩

theorem State.clear_work (s : State) (r : Nat) : (s.clear r).work = s.work := by simp

theorem State.clear_stopped {s : State} {r : Run} {c : RunCause} (h : s.runsStopped r c) (q : Nat) : (s.clear q).runsStopped r c :=
  h.of_eq (by simp) (by simp) (by simp)

/-- A move of the phase out of PROVE or SERVICE, not into SERVICE, stops the runs (R105, R159). -/
theorem State.movePhase_stops {s : State} {r : Run} (h : s.runActive r) (hphase : s.spc.phase = .prove ∨ s.spc.phase = .service)
    {p : Phase} (hp : p ≠ .service) (c : PhaseCause) (v : ProveState) (n : Nat) :
    (s.movePhase p c v n).runsStopped r (phaseAbortCause r c) ∧ (s.movePhase p c v n).work.acts = s.work.acts := by
  unfold State.movePhase
  dsimp only
  rw [if_neg (by rcases hphase with h | h <;> simp [h])]
  generalize ht : State.notify _ _ _ _ = t
  have htstu : t.stu = s.stu := by rw [← ht]; rfl
  have htacts : t.work.acts = s.work.acts := by rw [← ht]; rfl
  have htactive : t.runActive r := by
    unfold State.runActive
    rw [htstu]
    exact h
  rcases hphase with hphase | hphase
  · rw [hphase]
    show ((if p = .service then t.roundOver c else t.stopRuns c).clear rowProveFail).runsStopped _ _ ∧ _
    rw [if_neg hp]
    obtain ⟨hstop, hacts, -, -⟩ := State.stopRuns_stops htactive c
    refine ⟨State.clear_stopped hstop _, ?_⟩
    show (((if p = .service then t.roundOver c else t.stopRuns c).clear rowProveFail)).work.acts = _
    rw [if_neg hp, State.clear_work, hacts, htacts]
  · rw [hphase]
    have hheld : State.Tells t (t.forTenants (fun s i => s.hold .phase i)) :=
      State.Tells.forTenants (fun _ i ht => ht.hold _ i) (State.Tells.refl t)
    obtain ⟨x, hx, -⟩ := hheld
    show ((t.forTenants (fun s i => s.hold .phase i)).stopRuns c).runsStopped _ _ ∧ ((t.forTenants (fun s i => s.hold .phase i)).stopRuns c).work.acts = _
    rw [hx]
    have hxactive : (t.telling x).runActive r := htactive
    obtain ⟨hstop, hacts, -, -⟩ := State.stopRuns_stops hxactive c
    exact ⟨hstop, hacts.trans htacts⟩

/-! ### Raises that no tenant and no phase is told of -/

theorem State.raise_keeps_stays {s : State} {x : Raise} {q : Nat} (h : s.fmn.phaseStays q) : (s.raise x).fmn.phaseStays q := by
  have htable : (s.raise x).fmn.table = s.fmn.table := congrArg Prod.fst (State.raise_settings s x)
  rcases h with hactive | htable'
  · exact .inl ((congrArg Prod.fst (State.raise_seen s x (.inr hactive)) :).trans hactive)
  · refine .inr ?_
    rw [htable]
    exact htable'

theorem State.clear_keeps_stays {s : State} {r q : Nat} (hne : q ≠ r) (h : s.fmn.phaseStays q) : (s.clear r).fmn.phaseStays q := by
  have htable : (s.clear r).fmn.table = s.fmn.table := congrArg Prod.fst (State.clear_settings s r)
  rcases h with hactive | htable'
  · exact .inl ((congrArg Prod.fst (State.clear_seen s hne) :).trans hactive)
  · refine .inr ?_
    rw [htable]
    exact htable'

theorem State.raiseNow_acts {s : State} {r : Nat} (h : s.fmn.phaseStays r) (d : Nat) : (s.raiseNow r d).work.acts = s.work.acts := by
  obtain ⟨f, c, m, heq⟩ := State.raise_stays (s := s) (x := ⟨r, d, s.raisePhase⟩) h
  rw [State.raiseNow, heq]

theorem State.fmn_stays {s t : State} (h : t.fmn = s.fmn) {q : Nat} (hq : s.fmn.phaseStays q) : t.fmn.phaseStays q := by
  rw [h]
  exact hq

/-- A judgement of one tenant, where no answer to its HOLDOVER_LIMIT reaches the phase or a tenant. -/
theorem State.judgeFitness_stays {s : State} {i : Fin 4} (h : s.fmn.phaseStays (rowHoldover i)) (c : TenantCause) :
    (s.judgeFitness c i).work.acts = s.work.acts
      ∧ ∀ q, q ≠ rowHoldover i → s.fmn.phaseStays q → (s.judgeFitness c i).fmn.phaseStays q := by
  unfold State.judgeFitness
  dsimp only
  split
  · exact ⟨rfl, fun _ _ => id⟩
  · split
    · split
      · exact ⟨rfl, fun _ _ => id⟩
      · exact ⟨rfl, fun _ _ => id⟩
    · split
      · exact ⟨rfl, fun _ _ => id⟩
      · split
        · split
          · refine ⟨(State.raiseNow_acts (State.fmn_stays (s := s) (by simp) h) _).trans ?_, fun q _ hq => ?_⟩
            · rw [State.moveTenant_acts]
              rfl
            · exact State.raise_keeps_stays (State.fmn_stays (s := s) (by simp) hq)
          · refine ⟨?_, fun q _ hq => State.fmn_stays (s := s) (by simp) hq⟩
            rw [State.moveTenant_acts]
            rfl
        · exact ⟨rfl, fun _ _ => id⟩

theorem State.handQuality_stays {s : State} (h : ∀ i : Fin 4, s.fmn.phaseStays (rowHoldover i)) :
    s.handQuality.work.acts = s.work.acts := by
  have hlist (l : List (Fin 4)) (hl : l.Nodup) : ∀ t : State, (∀ i ∈ l, t.fmn.phaseStays (rowHoldover i)) →
      (l.foldl (fun s i => s.judgeFitness .fitness i) t).work.acts = t.work.acts := by
    induction l with
    | nil => exact fun t _ => rfl
    | cons i is ih =>
      intro t ht
      obtain ⟨hnot, hnodup⟩ := List.nodup_cons.1 hl
      obtain ⟨hacts, hkeeps⟩ := State.judgeFitness_stays (ht i (by simp)) .fitness
      refine (ih hnodup (t.judgeFitness .fitness i) fun j hj => ?_).trans hacts
      refine hkeeps _ (fun he => ?_) (ht j (by simp [hj]))
      have hij : j = i := by
        simp only [rowHoldover] at he
        omega
      exact hnot (hij ▸ hj)
  exact hlist tenants (by decide) s fun i _ => h i

theorem State.loopOnSelection_stays {s : State} (h : ∀ i : Fin 4, s.fmn.phaseStays (rowHoldover i)) (a b : Option Ref) :
    (s.loopOnSelection a b).work.acts = s.work.acts := by
  have hmove (st : LoopState) (c : TimeCause) : (s.moveLoop st c).work.acts = s.work.acts :=
    State.handQuality_stays (s := { s with dsu := { s.dsu.moveTo st with acq := 0, trk := 0, left := s.dsu.loop, cause := c, landing := none } }) h
  unfold State.loopOnSelection
  split
  · split
    · exact hmove _ _
    · rfl
  · split
    · exact hmove _ _
    · rfl
  · rfl

/-- A selection, where no answer to REF_LOSS or HOLDOVER_LIMIT reaches the phase or a tenant. -/
theorem State.select_stays {s : State} (hloss : s.fmn.phaseStays 7) (hhold : ∀ i : Fin 4, s.fmn.phaseStays (rowHoldover i))
    (n : Option Ref) : (s.select n).work.acts = s.work.acts := by
  have hne (i : Fin 4) : rowHoldover i ≠ 7 := by
    simp only [rowHoldover]
    omega
  unfold State.select
  dsimp only
  split
  · rfl
  · refine (State.loopOnSelection_stays (fun i => ?_) _ _).trans ?_
    · split
      · exact State.raise_keeps_stays (State.fmn_stays (s := s) (by simp) (hhold i))
      · exact State.clear_keeps_stays (hne i) (State.fmn_stays (s := s) (by simp) (hhold i))
      · exact hhold i
    · split
      · exact State.raiseNow_acts (State.fmn_stays (s := s) (by simp) hloss) _
      · exact congrArg Work.acts (State.clear_work _ _)
      · rfl

theorem State.refDown_stays {s : State} (hloss : s.fmn.phaseStays 7) (hhold : ∀ i : Fin 4, s.fmn.phaseStays (rowHoldover i))
    (r : Ref) : (s.refDown r).work.acts = s.work.acts := by
  have hfmn : (s.setRef r { mode := .down }).fmn = s.fmn := by simp
  have hset : (s.setRef r { mode := .down }).work.acts = s.work.acts := by simp
  have hdown : (s.setRef r { mode := .down }).updateSelection.work.acts = s.work.acts := by
    unfold State.updateSelection
    split
    · split
      · exact hset
      · exact (State.select_stays (by rw [hfmn]; exact hloss) (fun i => by rw [hfmn]; exact hhold i) _).trans hset
    · exact (State.select_stays (by rw [hfmn]; exact hloss) (fun i => by rw [hfmn]; exact hhold i) _).trans hset
  unfold State.refDown
  split
  · exact hdown
  · exact hdown
  all_goals rfl

end Sys2Proof.Machine
end

section
/-! PROOFS. The receive framer's DOWN settled (R25, R46, R142, R156). -/

namespace Sys2Proof.Machine

/-! ### A DOWN, part by part -/

/-- LINK_LOSS raised with the peer dropped. -/
def State.linkLost (s : State) : State := s.dropPeer.noteLink.raiseLinkLoss

/-- The peer, the wish and L lost, before the phase and the runs are told. -/
def State.peerLost (s : State) : State :=
  let a := s.linkLost.adaptDown
  let b := if s.lfr.rx.prof = 0 then a else a.noteProfile
  { b with rfm.sec.framerOk := false }.refDown .l

theorem State.rxDown_eq (s : State) :
    s.rxDown = { s.peerLost.phaseDown.testDown with lfr.rx.framer := .hunt }.noteLink := rfl

theorem State.linkLost_lfr (s : State) : s.linkLost.lfr = s.dropPeer.lfr := by
  unfold State.linkLost
  simp

theorem State.peerLost_lfr (s : State) : s.peerLost.lfr = s.dropPeer.lfr := by
  have hadapt : s.linkLost.adaptDown.lfr = s.dropPeer.lfr := by
    rw [← State.linkLost_lfr]
    simp
  have hlost : s.peerLost.lfr = s.linkLost.adaptDown.lfr := by
    unfold State.peerLost
    rw [(State.refDown_frame _ _).2.2.2.1]
    dsimp only
    split <;> rfl
  exact hlost.trans hadapt

theorem State.peerLost_kept (s : State) : s.peerLost.spc = s.spc ∧ s.peerLost.stu = s.stu ∧ s.peerLost.sha = s.sha
    ∧ s.peerLost.pins = s.pins := by
  have hbefore : s.linkLost.adaptDown.spc = s.spc ∧ s.linkLost.adaptDown.stu = s.stu ∧ s.linkLost.adaptDown.sha = s.sha
      ∧ s.linkLost.adaptDown.pins = s.pins := by
    unfold State.linkLost
    simp
  unfold State.peerLost
  dsimp only
  split
  · simpa using hbefore
  · simpa using hbefore

theorem State.Worked.peerLost {C : Cause → Prop} (hC : C .reseek) (s : State) : State.Worked C s.linkLost s.peerLost := by
  have hframer : s.linkLost.lfr.rx.framer = .down := by
    rw [State.linkLost_lfr]
    rfl
  have hdown := (State.Worked.refl (C := C) s.linkLost).then_ (.adaptDown _ hC (by rw [hframer]; simp))
  have hprof := State.Worked.ite (c := s.lfr.rx.prof = 0) (fun _ => hdown) (fun _ => hdown.noteProfile)
  exact hprof.then_ (.refDown _ hC)

/-- From the lost peer on, a DOWN leaves the receive side and the wish alone, but for the fall to HUNT. -/
theorem State.Worked.downTold (s : State) : State.Worked (· = .run) s.peerLost s.peerLost.phaseDown.testDown :=
  ((State.Worked.refl (C := (· = .run)) s.peerLost).phaseDown (.inl rfl)).testDown (.inl rfl)

theorem State.rxDown_rx (s : State) : s.rxDown.lfr.rx = { s.lfr.rx with
      framer := .hunt, run := 0, upDue := none, prof := 0, pend := none, map := {}, mpend := none, peer := none }
    ∧ s.rxDown.lfr.counts.down = s.lfr.counts.down + 1 ∧ s.rxDown.stu.chk.armed = false := by
  have hlfr : s.peerLost.phaseDown.testDown.lfr = s.peerLost.lfr := by simp
  have hchk (t : State) : t.testDown.stu.chk.armed = false := rfl
  rw [State.rxDown_eq]
  rw [State.peerLost_lfr] at hlfr
  generalize ht : s.peerLost.phaseDown.testDown = t at hlfr
  refine ⟨?_, ?_, ?_⟩
  · show { t.lfr.rx with framer := .hunt } = _
    rw [hlfr]
    rfl
  · show t.lfr.counts.down = _
    rw [hlfr]
    rfl
  · rw [← ht]
    exact hchk _

theorem State.adaptDown_work (s : State) : s.adaptDown.work = s.work := by simp

theorem State.adaptDown_lau (s : State) : s.adaptDown.lau = { s.lau with
    winOn := false, winSlots := 0, winSum := 0, upStreak := 0, floorStreak := 0, wish := 0 } := by
  unfold State.adaptDown
  obtain ⟨m, hm⟩ := State.setWish_eq (({ s with
    lau.winOn := false, lau.winSlots := 0, lau.winSum := 0, lau.upStreak := 0, lau.floorStreak := 0 } : State).clear rowProfileFloor) 0
  dsimp only
  rw [hm]
  simp

/-! ### The Link Adaptation Unit through a change of the selection -/

/-- The Link Adaptation Unit but for the ceiling. -/
def Lau.uncapped (l : Lau) : Lau := { l with ceiling := 0 }

theorem State.raiseNow_uncapped (s : State) (r d : Nat) : (s.raiseNow r d).lau.uncapped = s.lau.uncapped := by
  obtain ⟨f, c, m, as, heq, -⟩ := State.raise_eq s ⟨r, d, s.raisePhase⟩
  rw [State.raiseNow, heq]
  rfl

theorem State.handQuality_uncapped (s : State) : s.handQuality.lau.uncapped = s.lau.uncapped := by
  have hjudge (t : State) (i : Fin 4) : (t.judgeFitness .fitness i).lau.uncapped = t.lau.uncapped := by
    unfold State.judgeFitness
    dsimp only
    split
    · rfl
    · split
      · split <;> simp
      · split
        · rfl
        · split
          · split
            · rw [State.raiseNow_uncapped]
              simp
            · simp
          · simp
  simp [State.handQuality, State.forTenants, tenants, hjudge]

theorem State.select_uncapped (s : State) (n : Option Ref) : (s.select n).lau.uncapped = s.lau.uncapped := by
  have hloop (t : State) (a b : Option Ref) : (t.loopOnSelection a b).lau.uncapped = t.lau.uncapped := by
    have hmove (st : LoopState) (c : TimeCause) : (t.moveLoop st c).lau.uncapped = t.lau.uncapped := State.handQuality_uncapped _
    unfold State.loopOnSelection
    split
    · split
      · exact hmove _ _
      · rfl
    · split
      · exact hmove _ _
      · rfl
    · rfl
  unfold State.select
  dsimp only
  split
  · rfl
  · refine (hloop _ _ _).trans ?_
    split
    · exact State.raiseNow_uncapped _ _ _
    · simp
    · rfl

theorem State.updateSelection_uncapped (s : State) : s.updateSelection.lau.uncapped = s.lau.uncapped := by
  unfold State.updateSelection
  split
  · split
    · rfl
    · exact State.select_uncapped _ _
  · exact State.select_uncapped _ _

theorem State.refDown_uncapped (s : State) (r : Ref) : (s.refDown r).lau.uncapped = s.lau.uncapped := by
  have hdown : ((s.setRef r { mode := .down }).updateSelection).lau.uncapped = s.lau.uncapped :=
    (State.updateSelection_uncapped _).trans (by simp)
  unfold State.refDown
  split
  · exact hdown
  · exact hdown
  all_goals rfl

theorem State.peerLost_lau (s : State) : s.peerLost.lau.wish = 0 ∧ s.peerLost.lau.winOn = false := by
  have hlau := State.adaptDown_lau s.linkLost
  have hprof : (if s.lfr.rx.prof = 0 then s.linkLost.adaptDown else s.linkLost.adaptDown.noteProfile).lau = s.linkLost.adaptDown.lau := by
    split <;> rfl
  have hkept : s.peerLost.lau.uncapped = s.linkLost.adaptDown.lau.uncapped :=
    (State.refDown_uncapped _ _).trans (congrArg Lau.uncapped hprof)
  rw [hlau] at hkept
  exact ⟨(congrArg Lau.wish hkept :), (congrArg Lau.winOn hkept :)⟩

theorem State.rxDown_lau (s : State) : s.rxDown.lau.wish = 0 ∧ s.rxDown.lau.winOn = false := by
  have hkept := ((State.Worked.downTold s).unreseeked (by simp)).lau
  obtain ⟨hwish, hwin⟩ := State.peerLost_lau s
  rw [State.rxDown_eq]
  generalize s.peerLost.phaseDown.testDown = t at hkept
  exact ⟨(congrArg Lau.wish hkept :).trans hwish, (congrArg Lau.winOn hkept :).trans hwin⟩

/-! ### The end of an event with the framer in HUNT -/

/-- With the framer in HUNT there is nothing of the receive side for an event's end to drop. -/
structure State.Hunted (s t : State) : Prop where
  rx : t.lfr.rx = s.lfr.rx
  down : t.lfr.counts.down = s.lfr.counts.down
  lau : t.lau.uncapped = s.lau.uncapped
  chk : s.stu.chk.armed = false → t.stu.chk.armed = false

theorem State.Hunted.edit {C : Cause → Prop} {s t u : State} (hf : s.lfr.rx.framer = .hunt) (e : State.Edit C t u)
    (h : s.Hunted t) : s.Hunted u := by
  obtain ⟨hrx, hdown, hlau, hchk⟩ := h
  have hhunt : t.lfr.rx.framer = .hunt := by rw [hrx]; exact hf
  cases e with
  | dropPeer hC hne | adaptDown hC hne | hunt hC hne | unconfirm hC hne => exact absurd hhunt hne
  | refDown hC => exact ⟨by simpa using hrx, by simpa using hdown, (State.refDown_uncapped _ _).trans hlau, by simpa using hchk⟩
  | raise hm hr d => exact ⟨by simpa using hrx, by simpa using hdown, (State.raiseNow_uncapped _ _ _).trans hlau, by simpa using hchk⟩
  | clear | bar | hold | tryActive => exact ⟨by simpa using hrx, by simpa using hdown, by simpa using hlau, by simpa using hchk⟩
  | offer hC m =>
    unfold State.offer
    split
    · exact ⟨hrx, hdown, hlau, hchk⟩
    · exact ⟨hrx, hdown, hlau, hchk⟩
  | runs v hv =>
    refine ⟨hrx, hdown, hlau, fun h => ?_⟩
    rcases hv.chk with he | he
    · show v.chk.armed = false
      rw [he]
      exact hchk h
    · show v.chk.armed = false
      rw [he]
      rfl
  | port | work | site | stopRead | halted | alloc => exact ⟨hrx, hdown, hlau, hchk⟩

theorem State.Hunted.finishWork {s : State} (hf : s.lfr.rx.framer = .hunt) : s.Hunted s.finishWork :=
  (State.Worked.finishWork_any s).keeps (fun _ _ => State.Hunted.edit hf) ⟨rfl, rfl, rfl, id⟩

/-! ### What a DOWN tells the tenants, the phase and the fault table -/

theorem State.linkLost_stays {s : State} (h : s.fmn.phaseStays 1) : s.linkLost.work.acts = s.work.acts
    ∧ ∀ q, s.fmn.phaseStays q → s.linkLost.fmn.phaseStays q := by
  have hfmn : s.dropPeer.noteLink.fmn = s.fmn := by simp
  have hacts : s.dropPeer.noteLink.work.acts = s.work.acts := by simp
  unfold State.linkLost
  generalize s.dropPeer.noteLink = t at hfmn hacts
  unfold State.raiseLinkLoss
  split
  · exact ⟨(State.raiseNow_acts (State.fmn_stays hfmn h) _).trans hacts,
      fun q hq => State.raise_keeps_stays (State.fmn_stays hfmn hq)⟩
  · exact ⟨hacts, fun q hq => State.fmn_stays hfmn hq⟩

theorem State.adaptDown_stays {s : State} {q : Nat} (hne : q ≠ rowProfileFloor) (h : s.fmn.phaseStays q) :
    s.adaptDown.fmn.phaseStays q := by
  unfold State.adaptDown
  generalize hu : ({ s with
    lau.winOn := false, lau.winSlots := 0, lau.winSum := 0, lau.upStreak := 0, lau.floorStreak := 0 } : State) = u
  have hfmn : u.fmn = s.fmn := by rw [← hu]
  exact State.fmn_stays (s := u.clear rowProfileFloor) (by simp) (State.clear_keeps_stays hne (State.fmn_stays hfmn h))

/-- A DOWN with no answer of its raises that reaches the phase or a tenant leaves no action. -/
theorem State.peerLost_acts {s : State} (h : ∀ r ∈ [1, 7, 9, 10, 11, 12], s.fmn.phaseStays r) :
    s.peerLost.work.acts = s.work.acts := by
  obtain ⟨hacts, hkept⟩ := State.linkLost_stays (h 1 (by simp))
  have hloss : s.linkLost.adaptDown.fmn.phaseStays 7 := State.adaptDown_stays (by decide) (hkept 7 (h 7 (by simp)))
  have hhold (i : Fin 4) : s.linkLost.adaptDown.fmn.phaseStays (rowHoldover i) := by
    have hne : rowHoldover i ≠ rowProfileFloor := by
      simp only [rowHoldover, rowProfileFloor]
      omega
    refine State.adaptDown_stays hne (hkept _ (h _ ?_))
    match i with
    | 0 | 1 | 2 | 3 => simp [rowHoldover]
  have hadapt : s.linkLost.adaptDown.work.acts = s.work.acts := (congrArg Work.acts (State.adaptDown_work _)).trans hacts
  have hprof : ∃ m, (if s.lfr.rx.prof = 0 then s.linkLost.adaptDown else s.linkLost.adaptDown.noteProfile) =
      { s.linkLost.adaptDown with mp := m } := by
    split
    · exact ⟨_, rfl⟩
    · exact ⟨_, rfl⟩
  obtain ⟨m, hm⟩ := hprof
  unfold State.peerLost
  dsimp only
  rw [hm]
  generalize s.linkLost.adaptDown = t at hloss hhold hadapt
  exact (State.refDown_stays (s := { t with mp := m, rfm.sec.framerOk := false }) hloss hhold .l).trans hadapt

/-- A tenant as it stood, or ACTIVE and made UNFIT. -/
def Tenant.Unfitted (x y : Tenant) : Prop :=
  (y.state = x.state ∧ y.permit = x.permit) ∨ (x.state = .active ∧ y.state = .unfit)

theorem Tenant.judged_unfitted (x : Tenant) (c : TenantCause) (loop : LoopState) (u : Nat) : x.Unfitted (x.judged c loop u) := by
  unfold Tenant.judged
  split
  · exact .inl ⟨rfl, rfl⟩
  · split
    · split <;> exact .inl ⟨rfl, rfl⟩
    · split
      · exact .inl ⟨rfl, rfl⟩
      · dsimp only
        split
        · next h => exact .inr ⟨h, rfl⟩
        · exact .inl ⟨rfl, rfl⟩

/-- Held after that, a tenant is HELD where it was ACTIVE or UNFIT before, and stands as it did otherwise. -/
theorem Tenant.Unfitted.held {x y : Tenant} (h : x.Unfitted y) (c : TenantCause) :
    if x.state = .active ∨ x.state = .unfit then (y.held c).state = .held ∧ (y.held c).permit = false
    else (y.held c).state = x.state := by
  have hiff : (y.state = .active ∨ y.state = .unfit) ↔ (x.state = .active ∨ x.state = .unfit) := by
    rcases h with ⟨h, -⟩ | ⟨hx, hy⟩
    · rw [h]
    · simp [hx, hy]
  unfold Tenant.held
  split
  · next hx =>
    rw [if_pos (hiff.2 hx)]
    exact ⟨rfl, rfl⟩
  · next hx =>
    rw [if_neg (fun hy => hx (hiff.1 hy))]
    rcases h with ⟨h, -⟩ | ⟨ha, -⟩
    · exact h
    · exact absurd (.inl ha) hx

/-- The loss of the peer judges the tenants at most. -/
theorem State.peerLost_tenants (s : State) (i : Fin 4) : (s.tpt.get i).Unfitted (s.peerLost.tpt.get i) := by
  have hgap : (s.linkLost.adaptDown.tpt.get i).state = (s.tpt.get i).state
      ∧ (s.linkLost.adaptDown.tpt.get i).permit = (s.tpt.get i).permit := by
    have htpt : s.linkLost.adaptDown.tpt = s.dropPeer.tpt := by
      unfold State.linkLost
      simp
    rw [htpt]
    show ((Four.of (fun i => (s.tpt.get i).gap)).get i).state = _ ∧ ((Four.of (fun i => (s.tpt.get i).gap)).get i).permit = _
    rw [Four.get_of]
    unfold Tenant.gap
    split <;> exact ⟨rfl, rfl⟩
  have hfollows (t : State) : (t.tpt.get i).Unfitted ((t.refDown .l).tpt.get i) := by
    rcases State.refDown_follows t .l with ⟨-, htpt⟩ | ⟨st, hmoved⟩
    · exact .inl (by rw [htpt]; exact ⟨rfl, rfl⟩)
    · rw [hmoved.judged i]
      exact Tenant.judged_unfitted _ _ _ _
  have hprof : ∃ m, (if s.lfr.rx.prof = 0 then s.linkLost.adaptDown else s.linkLost.adaptDown.noteProfile) =
      { s.linkLost.adaptDown with mp := m } := by
    split
    · exact ⟨_, rfl⟩
    · exact ⟨_, rfl⟩
  obtain ⟨m, hm⟩ := hprof
  unfold State.peerLost
  dsimp only
  rw [hm]
  generalize s.linkLost.adaptDown = t at hgap
  have hlast := hfollows { t with mp := m, rfm.sec.framerOk := false }
  unfold Tenant.Unfitted at hlast ⊢
  rw [← hgap.1, ← hgap.2]
  exact hlast

/-- LINK_LOSS once raised stays to the end of the event (R25). -/
theorem State.rxDown_linkLoss {s : State} (hrows : s.fmn.rows.length = 21) (hinactive : (s.fmn.row 1).active = false)
    (hphase : s.spc.phase = .prove ∨ s.spc.phase = .service ∨ s.spc.phase = .recover) :
    s.rxDown.finishWork.fmn.seen 1 = (true, (s.lfr.counts.down + 1).toNat) := by
  have hraised : s.linkLost.fmn.seen 1 = (true, (s.lfr.counts.down + 1).toNat) := by
    have hmid : s.linkLost = (s.dropPeer.noteLink).raiseNow rowLinkLoss (s.lfr.counts.down + 1).toNat := if_pos hphase
    rw [hmid]
    exact State.raiseNow_seen (s := s.dropPeer.noteLink) (r := 1) hrows (by omega) hinactive _
  have hP := FaultsOnly.active (C := fun _ => True) (q := 1) (by simp [clearedRow]) (s.lfr.counts.down + 1).toNat
  have hlost : s.peerLost.fmn.seen 1 = (true, (s.lfr.counts.down + 1).toNat) :=
    (State.Worked.peerLost (C := fun _ => True) trivial s).keeps (fun _ _ e h => hP.edit e h) hraised
  have hP' := FaultsOnly.active (C := (· = .run)) (q := 1) (by simp [clearedRow]) (s.lfr.counts.down + 1).toNat
  have htold : s.peerLost.phaseDown.testDown.fmn.seen 1 = (true, (s.lfr.counts.down + 1).toNat) :=
    (State.Worked.downTold s).keeps (fun _ _ e h => hP'.edit e h) hlost
  refine hP.finishWork ?_
  rw [State.rxDown_eq]
  generalize s.peerLost.phaseDown.testDown = t at htold
  exact htold

/-- With no run in the queue the phase takes a DOWN by its move and what it tells the tenants. -/
theorem State.phaseDown_free {s : State} (hq : s.stu.queue = []) : s.phaseDown.work.acts = s.work.acts ∧ s.phaseDown.stu = s.stu := by
  have hmove (p : Phase) (c : PhaseCause) (v : ProveState) (n : Nat) :
      (s.movePhase p c v n).work.acts = s.work.acts ∧ (s.movePhase p c v n).stu = s.stu := by
    obtain ⟨x, hx, -⟩ := State.movePhase_tells hq p c v n
    rw [hx]
    exact ⟨rfl, rfl⟩
  unfold State.phaseDown
  split
  · exact hmove _ _ _ _
  · exact hmove _ _ _ _
  all_goals exact ⟨rfl, rfl⟩

/-- With no run in the queue the Self-Test Unit takes a DOWN by its checker alone, and a release that was left to follow. -/
theorem State.testDown_free {s : State} (hq : s.stu.queue = []) : ∃ a l, s.testDown = { s with
    work.alloc := a, stu := { s.stu with lateRelease := l, chk := s.stu.chk.idle } } := by
  have hsettle : ∃ a l, s.settleRelease = { s with work.alloc := a, stu.lateRelease := l } := by
    unfold State.settleRelease
    split
    · unfold State.wantAlloc
      split <;> exact ⟨_, _, rfl⟩
    · exact ⟨_, _, rfl⟩
  obtain ⟨a, l, hs⟩ := hsettle
  refine ⟨a, l, ?_⟩
  unfold State.testDown
  rw [hs]
  have hnone : ({ s.stu with lateRelease := l } : Stu).active = none := Stu.active_empty hq
  dsimp only
  rw [hnone]

/-- A DOWN with no run in the queue: what it told, and nothing but an allocation behind it (R119). -/
theorem State.rxDown_quiet {s : State} (hacts : s.work.acts = []) (hq : s.stu.queue = [])
    (h : ∀ r ∈ [1, 7, 9, 10, 11, 12], s.fmn.phaseStays r) :
    s.rxDown.finishWork.tpt = s.peerLost.phaseDown.tpt ∧ s.rxDown.finishWork.spc = s.peerLost.phaseDown.spc := by
  have hqueue : s.peerLost.stu.queue = [] := by rw [(State.peerLost_kept s).2.1]; exact hq
  obtain ⟨hphase, hstu⟩ := State.phaseDown_free hqueue
  have hacts' : s.peerLost.phaseDown.work.acts = [] := hphase.trans ((State.peerLost_acts h).trans hacts)
  have hqueue' : s.peerLost.phaseDown.stu.queue = [] := by rw [hstu]; exact hqueue
  obtain ⟨a, l, htest⟩ := State.testDown_free hqueue'
  have hrx := State.rxDown_eq s
  rw [htest] at hrx
  generalize s.peerLost.phaseDown = t at hrx hacts' hqueue'
  obtain ⟨b, hend⟩ := State.finishWork_quiet (s := s.rxDown) (by rw [hrx]; exact hacts') (by rw [hrx]; exact hqueue')
  rw [hend, hrx]
  exact ⟨rfl, rfl⟩

theorem exec_rxFramerDown {s : State} (hs : s.calm) (hf : s.lfr.rx.framer = .down) : ∃ m, exec .rxFramerDown s =
    .next { s.rxDown.finishWork with mp := m } := by
  have hdeliver : s.deliverDown = s.rxDown := if_pos hf
  exact exec_ends hs (congrArg (fun t => Host.Outcome.next (State.close t)) hdeliver)
    ((State.InnerOf.refl (Q := View.consistent) s).rxDown) rfl

/-- The runs after a DOWN in PROVE or SERVICE (R153, R156). -/
theorem State.rxDown_stops {s : State} {r : Run} (h : s.runActive r) (hphase : s.spc.phase = .prove ∨ s.spc.phase = .service) :
    s.rxDown.runsStopped r (phaseAbortCause r .linkDown) := by
  obtain ⟨hspc, hstu, -, -⟩ := State.peerLost_kept s
  have hactive : s.peerLost.runActive r := by
    unfold State.runActive
    rw [hstu]
    exact h
  have hstop : s.peerLost.phaseDown.runsStopped r (phaseAbortCause r .linkDown) := by
    unfold State.phaseDown
    rw [hspc]
    rcases hphase with hp | hp
    · rw [hp]
      exact (State.movePhase_stops hactive (.inl (by rw [hspc]; exact hp)) (by simp) _ _ _).1
    · rw [hp]
      exact (State.movePhase_stops hactive (.inr (by rw [hspc]; exact hp)) (by simp) _ _ _).1
  obtain ⟨a, l, htest⟩ := State.testDown_free hstop.1
  rw [State.rxDown_eq, htest]
  exact hstop.of_eq rfl rfl rfl

/-- Settles O40. -/
theorem downDropsPeer : Obligations.DownDropsPeer := by
  refine ⟨fun s hs hf hrows => ?_, fun s r hs hf hactive hkind hphase => ?_⟩
  · obtain ⟨m, hex⟩ := exec_rxFramerDown hs hf
    obtain ⟨hrx, hdown, harmed⟩ := State.rxDown_rx s
    obtain ⟨hwish, hwin⟩ := State.rxDown_lau s
    obtain ⟨hendrx, henddown, hendlau, hendchk⟩ := State.Hunted.finishWork (s := s.rxDown) (by rw [hrx])
    have hloss := fun hp hrow => State.rxDown_linkLoss hrows hrow hp
    have hquiet := fun hq h => State.rxDown_quiet (s := s) (congrArg Work.acts hs.1) hq h
    obtain ⟨hspc, -, -, -⟩ := State.peerLost_kept s
    rw [hrx] at hendrx
    generalize s.rxDown.finishWork = t at hex hendrx henddown hendlau hendchk hloss hquiet
    have hrxt (f : LfrRx → Prop) (h : f { s.lfr.rx with
        framer := .hunt, run := 0, upDue := none, prof := 0, pend := none, map := {}, mpend := none, peer := none }) :
        f t.lfr.rx := by rw [hendrx]; exact h
    refine ⟨_, hex, hrxt (fun x => x.framer = .hunt) rfl, hrxt (fun x => x.peer = none) rfl, hrxt (fun x => x.prof = 0) rfl,
      hrxt (fun x => x.pend = none) rfl, hrxt (fun x => x.map = {}) rfl, hrxt (fun x => x.mpend = none) rfl,
      henddown.trans hdown, (congrArg Lau.wish hendlau :).trans hwish, (congrArg Lau.winOn hendlau :).trans hwin,
      hendchk harmed, fun hp hrow => ?_, fun hq hstays => ?_⟩
    · have hseen := hloss hp hrow
      exact ⟨(congrArg Prod.fst hseen :), (congrArg Prod.snd hseen :)⟩
    · obtain ⟨htpt, hsp⟩ := hquiet hq hstays
      refine ⟨fun hp => ?_, fun hp => ?_, fun hp hp' => ?_⟩
      · have hgoes : s.peerLost.phaseDown = s.peerLost.enterRecover := by
          unfold State.phaseDown
          rw [hspc, hp]
        rw [hgoes] at htpt hsp
        have hmoved : s.peerLost.enterRecover.spc =
            { (s.peerLost.movePhase .recover .linkDown .idle 0).spc with recover := some Config.recoverFrames } := rfl
        rw [hmoved, State.movePhase_spc, hspc] at hsp
        have hheld : s.peerLost.enterRecover.tpt = (s.peerLost.movePhase .recover .linkDown .idle 0).tpt := rfl
        rw [hheld, State.movePhase_tpt, if_pos (by rw [hspc]; exact hp)] at htpt
        show t.spc.phase = _ ∧ t.spc.left = _ ∧ t.spc.cause = _ ∧ t.spc.recover = _ ∧ s.tenantsHeld t
        rw [hsp]
        refine ⟨rfl, hp, rfl, rfl, fun i => ?_⟩
        have hlast := (State.peerLost_tenants s i).held .phase
        rw [htpt, Four.get_of]
        exact hlast
      · have hgoes : s.peerLost.phaseDown = s.peerLost.movePhase .seek .linkDown .idle 0 := by
          unfold State.phaseDown
          rw [hspc, hp]
          rfl
        rw [hgoes, State.movePhase_spc, hspc] at hsp
        show t.spc.phase = _ ∧ t.spc.left = _ ∧ t.spc.cause = _ ∧ t.spc.prove = _ ∧ t.spc.roundNo = _ ∧ t.spc.retry = _
        rw [hsp]
        exact ⟨rfl, hp, rfl, rfl, rfl, rfl⟩
      · have hgoes : s.peerLost.phaseDown = s.peerLost := by
          unfold State.phaseDown
          rw [hspc]
          cases hphase : s.spc.phase with
          | prove => exact absurd hphase hp'
          | service => exact absurd hphase hp
          | load | align | seek | recover | halt => rfl
        exact hsp.trans (by rw [hgoes, hspc])
  · obtain ⟨m, hex⟩ := exec_rxFramerDown hs hf
    obtain ⟨hrx, -, -⟩ := State.rxDown_rx s
    obtain ⟨hendrx, -, -, -⟩ := State.Hunted.finishWork (s := s.rxDown) (by rw [hrx])
    have hstop := (State.rxDown_stops hactive hphase).finishWork
    have hcause : phaseAbortCause r .linkDown = .linkDown := if_pos ⟨rfl, hkind⟩
    rw [hcause] at hstop
    rw [hrx] at hendrx
    generalize s.rxDown.finishWork = t at hex hendrx hstop
    exact ⟨_, hex, by show t.lfr.rx.framer = .hunt; rw [hendrx], hstop.of_eq rfl rfl rfl⟩

end Sys2Proof.Machine
end

section
/-! PROOFS. The requests that move the phase (R5, R7, R8, R13, R16, R18). -/

namespace Sys2Proof.Machine

/-! ### The end of an event in SEEK with no run -/

/-- In SEEK a RESEEK that is due does nothing: with no run in the queue, and no action but it and those of causes that move no
phase, an event ends by the latter and its allocation. -/
theorem State.Worked.finishWork_seek {C : Cause → Prop} (hC : ¬ moves C) {s : State} (hq : s.stu.queue = [])
    (hphase : s.spc.phase = .seek) (hacts : ∀ a ∈ s.work.acts, a.cause = .reseek ∨ C a.cause) : s.Worked C s.finishWork := by
  have hkept {t u : State} (e : State.Edit C t u) (h : t.stu.queue = [] ∧ t.spc.phase = .seek
      ∧ ∀ a ∈ t.work.acts, a.cause = .reseek ∨ C a.cause) : u.stu.queue = [] ∧ u.spc.phase = .seek
      ∧ ∀ a ∈ u.work.acts, a.cause = .reseek ∨ C a.cause := by
    obtain ⟨htq, htphase, htacts⟩ := h
    refine ⟨(State.Runless.edit e (State.Runless.refl htq)).queue, ?_⟩
    cases e with
    | raise hm | clear hm | hold hm | tryActive hm | site hm => exact absurd hm hC
    | dropPeer h | adaptDown h | refDown h | hunt h | unconfirm h => exact absurd (.inr (.inl h)) hC
    | halted h | stopRead h => exact absurd (.inr (.inr h)) hC
    | offer h => exact absurd (.inl h) hC
    | work w hw => exact ⟨htphase, fun a ha => htacts a (hw a ha)⟩
    | bar hb i c =>
      refine ⟨by simpa using htphase, ?_⟩
      unfold State.bar
      split
      case h_1 | h_2 | h_3 =>
        rw [moveTenant_acts]
        exact htacts
      all_goals exact htacts
    | port | runs | alloc => exact ⟨htphase, htacts⟩
  have hstep {t : State} (htq : t.stu.queue = []) (htphase : t.spc.phase = .seek)
      (htacts : ∀ a ∈ t.work.acts, a.cause = .reseek ∨ C a.cause) : t.Worked C t.workStep := by
    have hrefl := State.Worked.refl (C := C) t
    unfold State.workStep
    refine State.Worked.ite (fun _ => ?_) (fun _ => ?_)
    · split
      · exact State.Worked.compute (hrefl.work { t.work with alloc := none } fun _ => id) (.inr htq) _
      · exact hrefl
    · unfold State.actStep
      split
      · next a as ha =>
        have hless := hrefl.work { t.work with acts := as } fun b hb => ha ▸ List.mem_cons_of_mem a hb
        rcases htacts a (ha ▸ List.mem_cons_self) with hreseek | hcause
        · have hidle : ({ t with work.acts := as } : State).act a = { t with work.acts := as } := by
            cases a with
            | reseek => exact if_neg (by show ¬ (t.spc.phase = .prove ∨ _ ∨ _); rw [htphase]; simp)
            | bar | halt => cases hreseek
          rw [hidle]
          exact hless
        · exact hless.act a hcause
      · exact State.Worked.ite
          (fun _ => State.Worked.startRun (hrefl.work { t.work with runDue := false } fun _ => id) (.inr htq)) (fun _ => hrefl)
  have hwork (n : Nat) : ∀ t : State, (t.stu.queue = [] ∧ t.spc.phase = .seek
      ∧ ∀ a ∈ t.work.acts, a.cause = .reseek ∨ C a.cause) → t.Worked C (State.doWork n t) := by
    induction n with
    | zero => exact fun t _ => State.Worked.refl t
    | succ n ih =>
      intro t ht
      have hone := hstep ht.1 ht.2.1 ht.2.2
      exact hone.trans (ih t.workStep (hone.keeps (fun _ _ e h => hkept e h) ht))
  have hall := hwork 48 s ⟨hq, hphase, hacts⟩
  rw [State.finishWork_endEvent]
  generalize State.doWork 48 s = w at hall
  exact (hall.runs { w.stu with removed := [] } ⟨rfl, fun he => ⟨he, rfl⟩, .inl rfl, rfl, rfl, rfl⟩).work
    { w.work with phase := none } fun _ => id

/-- What causes that move no phase leave alone. -/
theorem State.Worked.unmoved_site {C : Cause → Prop} (hC : ¬ moves C) {s t : State} (h : s.Worked C t) :
    t.spc = s.spc ∧ t.lfr.rx = s.lfr.rx ∧ t.lfr.counts.down = s.lfr.counts.down ∧ (¬ C .bar → t.tpt = s.tpt) := by
  refine h.keeps (P := fun t => t.spc = s.spc ∧ t.lfr.rx = s.lfr.rx ∧ t.lfr.counts.down = s.lfr.counts.down
    ∧ (¬ C .bar → t.tpt = s.tpt)) (fun t u e ht => ?_) ⟨rfl, rfl, rfl, fun _ => rfl⟩
  obtain ⟨hspc, hrx, hdown, htpt⟩ := ht
  cases e with
  | raise hm | clear hm | hold hm | tryActive hm | site hm => exact absurd hm hC
  | dropPeer h | adaptDown h | refDown h | hunt h | unconfirm h => exact absurd (.inr (.inl h)) hC
  | halted h | stopRead h => exact absurd (.inr (.inr h)) hC
  | offer h => exact absurd (.inl h) hC
  | bar hb i c => exact ⟨by simpa using hspc, by simpa using hrx, by simpa using hdown, fun hn => absurd hb hn⟩
  | port | runs | alloc | work => exact ⟨hspc, hrx, hdown, htpt⟩

/-! ### The receive framer restarted in SEEK -/

/-- What a restart of the receive framer in SEEK leaves and does (R7, R24, R25). -/
structure State.Restarted (s t : State) : Prop where
  spc : t.spc = s.spc
  queue : t.stu.queue = []
  log : t.stu.log = s.stu.log
  sha : t.sha = s.sha
  framer : t.lfr.rx.framer = .hunt
  peer : s.lfr.rx.framer ≠ .hunt → t.lfr.rx.run = 0 ∧ t.lfr.rx.peer = none
  undropped : s.lfr.rx.framer = .hunt ∨ s.lfr.rx.framer = .confirm → t.lfr.counts.down = s.lfr.counts.down
  dropped : s.lfr.rx.framer = .up ∨ s.lfr.rx.framer = .flywheel →
    t.lfr.counts.down = s.lfr.counts.down + 1 ∧ t.lfr.rx.prof = 0 ∧ t.lfr.rx.map = {}
  tenants : ∀ i, (s.tpt.get i).Unfitted (t.tpt.get i)
  idle : s.lfr.rx.framer = .hunt → t = s

theorem State.rxDown_seek {s : State} (hq : s.stu.queue = []) (hphase : s.spc.phase = .seek) : s.rxDown.spc = s.spc
    ∧ s.rxDown.stu.queue = [] ∧ s.rxDown.stu.log = s.stu.log ∧ s.rxDown.sha = s.sha ∧ s.rxDown.tpt = s.peerLost.tpt := by
  obtain ⟨hspc, hstu, hsha, -⟩ := State.peerLost_kept s
  have hstays : s.peerLost.phaseDown = s.peerLost := by
    unfold State.phaseDown
    rw [hspc, hphase]
  have hqueue : s.peerLost.stu.queue = [] := by rw [hstu]; exact hq
  obtain ⟨a, l, htest⟩ := State.testDown_free hqueue
  rw [State.rxDown_eq, hstays, htest]
  exact ⟨hspc, hqueue, (congrArg Stu.log hstu :), hsha, rfl⟩

theorem State.restartRx_seek {s : State} (hq : s.stu.queue = []) (hphase : s.spc.phase = .seek) (hoff : s.lfr.rx.framer ≠ .off) :
    s.Restarted s.restartRx := by
  have hsame (i : Fin 4) : (s.tpt.get i).Unfitted (s.tpt.get i) := .inl ⟨rfl, rfl⟩
  have hdown (hh : s.lfr.rx.framer ≠ .hunt) (hc : s.lfr.rx.framer ≠ .confirm) : s.Restarted s.rxDown := by
    obtain ⟨hspc, hqueue, hlog, hsha, htpt⟩ := State.rxDown_seek hq hphase
    obtain ⟨hrx, hcount, -⟩ := State.rxDown_rx s
    refine ⟨hspc, hqueue, hlog, hsha, by rw [hrx], fun _ => by rw [hrx]; exact ⟨rfl, rfl⟩, fun h => (h.elim hh hc).elim,
      fun _ => ⟨hcount, by rw [hrx], by rw [hrx]⟩, fun i => ?_, fun h => absurd h hh⟩
    rw [htpt]
    exact State.peerLost_tenants s i
  unfold State.restartRx
  cases hf : s.lfr.rx.framer with
  | up | flywheel | down => exact hdown (by simp [hf]) (by simp [hf])
  | confirm =>
    exact ⟨rfl, hq, rfl, rfl, rfl, fun _ => ⟨rfl, rfl⟩, fun _ => rfl, fun h => by simp [hf] at h, hsame, fun h => by simp [hf] at h⟩
  | hunt =>
    exact ⟨rfl, hq, rfl, rfl, hf, fun h => absurd hf h, fun _ => rfl, fun h => by simp [hf] at h, hsame, fun _ => rfl⟩
  | off => exact absurd hf hoff

/-- What the end of an event that went back to SEEK with no run left agrees with of the restart it made. -/
structure State.Reseeked (s t w : State) : Prop where
  spc : w.spc = t.spc
  queue : w.stu.queue = []
  log : w.stu.log = t.stu.log
  share : t.sha.tReq = 0 → t.sha.grant = none → w.sha.tReq = 0 ∧ w.sha.grant = none
  framer : w.lfr.rx.framer = .hunt
  peer : s.lfr.rx.framer ≠ .hunt → w.lfr.rx.run = 0 ∧ w.lfr.rx.peer = none
  undropped : s.lfr.rx.framer = .hunt ∨ s.lfr.rx.framer = .confirm → w.lfr.counts.down = s.lfr.counts.down
  dropped : s.lfr.rx.framer = .up ∨ s.lfr.rx.framer = .flywheel →
    w.lfr.counts.down = s.lfr.counts.down + 1 ∧ w.lfr.rx.prof = 0 ∧ w.lfr.rx.map = {}
  tenants : s.fmn.answersNever .bar → ∀ i, (t.tpt.get i).Unfitted (w.tpt.get i)

/-- A return to SEEK with no run left in the queue (R7). -/
theorem State.reseek_ends {s : State} {c : PhaseCause} (hacts : s.work.acts = []) (hq : (s.enterSeek c).stu.queue = [])
    (hseek : (s.enterSeek c).work.acts = []) (hoff : s.lfr.rx.framer ≠ .off)
    (hhalt : s.lfr.rx.framer = .hunt ∨ s.fmn.answersNever .halt) :
    s.Reseeked (s.enterSeek c) (s.reseek c).finishWork := by
  have hphase : (s.enterSeek c).spc.phase = .seek := congrArg Spc.phase (State.movePhase_spc s .seek c .idle 0)
  have hlfr : (s.enterSeek c).lfr = s.lfr := by simp
  have hrestart := State.restartRx_seek (s := { s.enterSeek c with work.phase := none }) hq hphase (by
    show (s.enterSeek c).lfr.rx.framer ≠ .off
    rw [hlfr]
    exact hoff)
  have hnever (k : Cause) (hk : s.fmn.answersNever k.response) : ∀ a ∈ (s.reseek c).work.acts, a.cause ≠ k :=
    (((State.Worked.refl (C := fun _ => True) s).reseek trivial c).keeps
      (fun _ _ e h => (FaultsOnly.never k).edit e h) ⟨hk, by simp [hacts]⟩).2
  have heq : ∃ p, s.reseek c = { ({ s.enterSeek c with work.phase := none } : State).restartRx with work.phase := p } := ⟨_, rfl⟩
  obtain ⟨p, hp⟩ := heq
  have hidle : s.lfr.rx.framer = .hunt → (s.reseek c).work.acts = [] := by
    intro h
    rw [hp, hrestart.idle (by show (s.enterSeek c).lfr.rx.framer = .hunt; rw [hlfr]; exact h)]
    exact hseek
  have hbars : ∀ a ∈ (s.reseek c).work.acts, a.cause = .reseek ∨ a.cause = .bar := by
    intro a ha
    rcases hhalt with h | h
    · rw [hidle h] at ha
      cases ha
    · have hne := hnever .halt h a ha
      cases a with
      | bar i => exact .inr rfl
      | reseek => exact .inl rfl
      | halt => exact absurd rfl hne
  have hnone (hbar : s.fmn.answersNever .bar) : ∀ a ∈ (s.reseek c).work.acts, a.cause = .reseek ∨ False := by
    intro a ha
    rcases hbars a ha with h | h
    · exact .inl h
    · exact absurd h (hnever .bar hbar a ha)
  have hspc : (s.reseek c).spc = (s.enterSeek c).spc := by rw [hp]; exact hrestart.spc
  have hqueue : (s.reseek c).stu.queue = [] := by rw [hp]; exact hrestart.queue
  have hworked := State.Worked.finishWork_seek (C := (· = .bar)) (by simp [moves]) hqueue (by rw [hspc]; exact hphase) hbars
  obtain ⟨hwspc, hwrx, hwdown, -⟩ := hworked.unmoved_site (by simp [moves])
  have hrunless := State.Runless.finishWork hqueue
  have htpt (hbar : s.fmn.answersNever .bar) : (s.reseek c).finishWork.tpt = (s.reseek c).tpt :=
    ((State.Worked.finishWork_seek (C := fun _ => False) (by simp [moves]) hqueue (by rw [hspc]; exact hphase)
      (hnone hbar)).unmoved_site (by simp [moves])).2.2.2 id
  generalize (s.reseek c).finishWork = w at hwspc hwrx hwdown hrunless htpt
  have hrx : w.lfr.rx = ({ s.enterSeek c with work.phase := none } : State).restartRx.lfr.rx := hwrx.trans (by rw [hp])
  have hdown : w.lfr.counts.down = ({ s.enterSeek c with work.phase := none } : State).restartRx.lfr.counts.down :=
    hwdown.trans (by rw [hp])
  have hlog : (s.reseek c).stu.log = (s.enterSeek c).stu.log := by rw [hp]; exact hrestart.log
  have hsha : (s.reseek c).sha = (s.enterSeek c).sha := by rw [hp]; exact hrestart.sha
  have hreseek (i : Fin 4) : ((s.enterSeek c).tpt.get i).Unfitted ((s.reseek c).tpt.get i) := by rw [hp]; exact hrestart.tenants i
  have hshare := hrunless.share
  rw [hsha] at hshare
  obtain ⟨-, -, -, -, hframer, hpeer, hundropped, hdropped, -, -⟩ := hrestart
  have hlfr' : ({ s.enterSeek c with work.phase := none } : State).lfr = s.lfr := hlfr
  rw [hlfr'] at hpeer hundropped hdropped
  refine ⟨hwspc.trans hspc, hrunless.queue, hrunless.log.trans hlog, hshare, by rw [hrx, hframer],
    fun h => by rw [hrx]; exact hpeer h, fun h => hdown.trans (hundropped h), fun h => ?_, fun h i => ?_⟩
  · obtain ⟨h1, h2, h3⟩ := hdropped h
    exact ⟨hdown.trans h1, by rw [hrx]; exact h2, by rw [hrx]; exact h3⟩
  · rw [htpt h]
    exact hreseek i

/-- The tenants held as SERVICE is left, and unfitted at most behind it. -/
theorem State.tenantsHeld_of_unfitted {s t w : State} (hheld : t.tpt = Four.of (fun i => (s.tpt.get i).held .phase))
    (h : ∀ i, (t.tpt.get i).Unfitted (w.tpt.get i)) : s.tenantsHeld w := by
  intro i
  have hi := h i
  have hlast := Tenant.Unfitted.held (x := s.tpt.get i) (y := s.tpt.get i) (.inl ⟨rfl, rfl⟩) .phase
  have hnot := (Tenant.held_not_carrying (s.tpt.get i) .phase).1
  rw [hheld, Four.get_of] at hi
  rcases hi with ⟨hstate, hpermit⟩ | ⟨hactive, -⟩
  · dsimp only at hlast ⊢
    rw [hstate, hpermit]
    exact hlast
  · exact absurd hactive hnot

end Sys2Proof.Machine
end

section
/-! PROOFS. The requests that move the phase, settled. -/

namespace Sys2Proof.Machine

/-! ### HALT -/

/-- HALT entered, as the move of the phase and what the transmit side and the image take of it (R8, R21). -/
theorem State.enterHalt_eq (s : State) (c : PhaseCause) : ∃ x i m, s.enterHalt c =
    { s.movePhase .halt c .idle 0 with lfr.tx := x, il.state := i, mp := m }
      ∧ (s.spc.phase ≠ .load → x.framer = .halted) ∧ (s.spc.phase = .load → x = s.lfr.tx) := by
  have htx : (s.movePhase .halt c .idle 0).lfr.tx = s.lfr.tx := by simp
  unfold State.enterHalt
  dsimp only
  split
  · next h =>
    unfold State.stopRead
    split
    · exact ⟨_, _, _, rfl, fun hn => absurd h hn, fun _ => htx⟩
    · exact ⟨_, _, _, rfl, fun hn => absurd h hn, fun _ => htx⟩
  · next h => exact ⟨_, _, _, rfl, fun _ => rfl, fun hl => absurd hl h⟩

/-- The end of an event that enters HALT and leaves no run and no action (R8, R105). -/
structure State.Stopped (s w : State) (c : PhaseCause) : Prop where
  spc : w.spc = (s.movePhase .halt c .idle 0).spc
  tpt : w.tpt = (s.movePhase .halt c .idle 0).tpt
  halted : s.spc.phase ≠ .load → w.lfr.tx.framer = .halted
  inLoad : s.spc.phase = .load → w.lfr.tx.framer = s.lfr.tx.framer
  runs : ∀ r k, (s.movePhase .halt c .idle 0).runsStopped r k → w.runsStopped r k

theorem State.enterHalt_ends {s : State} {c : PhaseCause} (hq : (s.movePhase .halt c .idle 0).stu.queue = [])
    (hacts : (s.movePhase .halt c .idle 0).work.acts = []) : s.Stopped (s.enterHalt c).finishWork c := by
  obtain ⟨x, i, m, heq, hhalted, hload⟩ := State.enterHalt_eq s c
  have hrunless := State.Runless.finishWork (s := s.enterHalt c) (by rw [heq]; exact hq)
  obtain ⟨a, ha⟩ := State.finishWork_quiet (s := s.enterHalt c) (by rw [heq]; exact hacts) (by rw [heq]; exact hq)
  have hspc : (s.enterHalt c).finishWork.spc = (s.enterHalt c).spc := by rw [ha]; rfl
  have htpt : (s.enterHalt c).finishWork.tpt = (s.enterHalt c).tpt := by rw [ha]; rfl
  have htx : (s.enterHalt c).finishWork.lfr.tx.framer = (s.enterHalt c).lfr.tx.framer := by rw [ha]; rfl
  have hruns (r : Run) (k : RunCause) (h : (s.enterHalt c).runsStopped r k) : (s.enterHalt c).finishWork.runsStopped r k :=
    h.finishWork
  generalize (s.enterHalt c).finishWork = w at hspc htpt htx hruns
  rw [heq] at hspc htpt htx hruns
  refine ⟨hspc, htpt, fun h => htx.trans (hhalted h), fun h => htx.trans ?_, fun r k h => hruns r k (h.of_eq rfl rfl rfl)⟩
  show x.framer = _
  rw [hload h]

/-- With no run in the queue a move of the phase leaves no work but an allocation. -/
theorem State.movePhase_free {s : State} (hq : s.stu.queue = []) (p : Phase) (c : PhaseCause) (v : ProveState) (n : Nat) :
    (s.movePhase p c v n).stu.queue = [] ∧ (s.movePhase p c v n).work.acts = s.work.acts := by
  obtain ⟨x, hx, -⟩ := State.movePhase_tells hq p c v n
  rw [hx]
  exact ⟨hq, rfl⟩

theorem State.received_acts {s : State} (hs : s.ready) : s.received.work.acts = [] := congrArg Work.acts hs.1.1.1

/-! ### ALIGN_END -/

/-- ALIGN left for SEEK, and the request answered (R13). -/
theorem State.leaveAlign_eq {s : State} (hphase : s.spc.phase = .align) (c : PhaseCause) : ∃ m, s.leaveAlign c =
    if s.lfr.rx.framer = .up then ({ s.movedTo .seek c with mp := m } : State).enterProve c
    else { s.movedTo .seek c with mp := m } := by
  obtain ⟨m, hseek⟩ := State.movePhase_plain (s := s) (by simp [hphase]) (by simp [hphase]) .seek c .idle 0
  refine ⟨m, ?_⟩
  unfold State.leaveAlign State.enterSeek
  rw [hseek]
  rfl

/-- ALIGN_END with no run in the queue, by what it leads to (R13, R16). -/
theorem exec_alignEnd {s : State} (hs : s.ready) (tag : Byte) (hq : s.stu.queue = []) (hphase : s.spc.phase = .align) :
    (s.lfr.rx.framer ≠ .up →
      ∃ t, exec (.alignEnd tag) s = .next t ∧ t.spc.phase = .seek ∧ t.spc.cause = .alignEnd ∧ t.spc.led = false
        ∧ t.spc.record = s.spc.record ∧ t.replies 0x03 tag .ok [])
    ∧ (s.lfr.rx.framer = .up → s.stu.entriesOf .bringup = [] →
      ∃ t, exec (.alignEnd tag) s = .next t ∧ t.spc.phase = .service ∧ t.spc.left = .prove ∧ t.spc.cause = .proveEmpty
        ∧ t.spc.led = false ∧ t.spc.record = s.spc.record ∧ t.replies 0x03 tag .ok [])
    ∧ (s.lfr.rx.framer = .up → s.stu.entriesOf .bringup ≠ [] → s.runsStay →
      ∃ t, exec (.alignEnd tag) s = .next t ∧ t.spc.phase = .prove ∧ t.spc.left = .seek ∧ t.spc.cause = .alignEnd
        ∧ t.spc.led = false ∧ t.spc.record = s.spc.record ∧ t.spc.prove = .round ∧ t.spc.roundNo = 1 ∧ t.roundQueued
        ∧ t.replies 0x03 tag .ok []) := by
  obtain ⟨m, hleave⟩ := State.leaveAlign_eq (s := s.received) hphase .alignEnd
  have hserve : s.received.serve .alignEnd = ⟨s.received.leaveAlign .alignEnd, .ok, fun _ => []⟩ := if_pos hphase
  have hreceived := State.received_acts hs
  have hacts : ({ s.received.movedTo .seek .alignEnd with mp := m } : State).work.acts = [] := hreceived
  obtain ⟨w, p, hw, hex, hslot⟩ := exec_answered hs (c := .alignEnd tag) rfl hserve rfl
  rw [hleave] at hw
  refine ⟨fun hup => ?_, fun hup hentries => ?_, fun hup hentries hstay => ?_⟩
  · have hnot : ¬ s.received.lfr.rx.framer = .up := hup
    rw [if_neg hnot] at hw
    obtain ⟨a, ha⟩ := State.finishWork_quiet (s := { s.received.movedTo .seek .alignEnd with mp := m }) hacts hq
    rw [ha] at hw
    subst hw
    exact ⟨_, hex, rfl, rfl, rfl, rfl, hslot⟩
  · have hgo : s.received.lfr.rx.framer = .up := hup
    rw [if_pos hgo] at hw
    obtain ⟨x, a, ha⟩ := State.finishWork_enterProve_service (s := { s.received.movedTo .seek .alignEnd with mp := m })
      hq hacts hentries .alignEnd
    rw [ha] at hw
    subst hw
    exact ⟨_, hex, rfl, rfl, rfl, rfl, rfl, hslot⟩
  · have hgo : s.received.lfr.rx.framer = .up := hup
    rw [if_pos hgo] at hw
    obtain ⟨y, x, id, hx, -, hidx, hruns⟩ := State.finishWork_enterProve
      (s := { s.received.movedTo .seek .alignEnd with mp := m }) hq hacts hentries hstay .alignEnd
    rw [hx] at hw
    subst hw
    exact ⟨_, hex, rfl, rfl, rfl, rfl, rfl, rfl, rfl, ⟨hidx, hruns⟩, hslot⟩

/-! ### SITE_STOP and SITE_RESEEK -/

theorem exec_siteStop {s : State} (hs : s.ready) (tag : Byte) (hphase : s.spc.phase ≠ .halt)
    (hq : (s.received.movePhase .halt .stopRequest .idle 0).stu.queue = [])
    (hacts : (s.received.movePhase .halt .stopRequest .idle 0).work.acts = []) :
    ∃ w p, exec (.siteStop tag) s = .next { w with mp := p } ∧ s.received.Stopped w .stopRequest
      ∧ p.slot = some ⟨0x07 + 0x80, tag, e1 Status.ok.code ++ [], false⟩ := by
  have hserve : s.received.serve .siteStop = ⟨s.received.enterHalt .stopRequest, .ok, fun _ => []⟩ := if_neg hphase
  obtain ⟨w, p, hw, hex, hslot⟩ := exec_answered hs (c := .siteStop tag) rfl hserve rfl
  have hstopped := State.enterHalt_ends hq hacts
  rw [hw] at hstopped
  exact ⟨w, p, hex, hstopped, hslot⟩

theorem exec_siteReseek {s : State} (hs : s.ready) (tag : Byte)
    (hphase : s.spc.phase = .prove ∨ s.spc.phase = .service ∨ s.spc.phase = .recover)
    (hq : (s.received.enterSeek .reseekRequest).stu.queue = []) (hacts : (s.received.enterSeek .reseekRequest).work.acts = [])
    (hoff : s.lfr.rx.framer ≠ .off) (hhalt : s.lfr.rx.framer = .hunt ∨ s.fmn.answersNever .halt) :
    ∃ w p, exec (.siteReseek tag) s = .next { w with mp := p }
      ∧ s.received.Reseeked (s.received.enterSeek .reseekRequest) w
      ∧ p.slot = some ⟨0x06 + 0x80, tag, e1 Status.ok.code ++ [], false⟩ := by
  have hserve : s.received.serve .siteReseek = ⟨s.received.reseek .reseekRequest, .ok, fun _ => []⟩ := if_pos hphase
  obtain ⟨w, p, hw, hex, hslot⟩ := exec_answered hs (c := .siteReseek tag) rfl hserve rfl
  have hends := State.reseek_ends (s := s.received) (State.received_acts hs) hq hacts hoff hhalt
  rw [hw] at hends
  exact ⟨w, p, hex, hends, hslot⟩

/-- The tenants as SERVICE is left by a request. -/
theorem State.received_held {s : State} (h : s.spc.phase = .service) (p : Phase) (c : PhaseCause) (v : ProveState) (n : Nat) :
    (s.received.movePhase p c v n).tpt = Four.of (fun i => (s.tpt.get i).held .phase) :=
  (State.movePhase_tpt _ _ _ _ _).trans (if_pos h)

/-- Settles O15. -/
theorem phaseRequestsMovePhase : Obligations.PhaseRequestsMovePhase := by
  refine ⟨fun s tag hs hq => ?_, fun s tag r hs hactive hphase => ?_⟩
  · have halign := fun h => exec_alignEnd hs tag hq h
    refine ⟨fun h => (halign h).1, fun h => (halign h).2.1, fun h => (halign h).2.2, fun hphase hoff hhalt => ?_,
      fun hphase => ?_, fun hphase => ?_⟩
    · obtain ⟨hq', hacts'⟩ := State.movePhase_free (s := s.received) hq .seek .reseekRequest .idle 0
      obtain ⟨w, p, hex, hends, hslot⟩ := exec_siteReseek hs tag hphase hq' (hacts'.trans (State.received_acts hs)) hoff hhalt
      have hspc := hends.spc.trans (State.movePhase_spc s.received .seek .reseekRequest .idle 0)
      refine ⟨_, hex, (congrArg Spc.phase hspc :), (congrArg Spc.cause hspc :), (congrArg Spc.recover hspc :),
        (congrArg Spc.retry hspc :), (congrArg Spc.prove hspc :), hends.framer, hends.peer, hends.undropped, hends.dropped,
        fun hservice hbar => ?_, hslot⟩
      have hheld := State.received_held hservice .seek .reseekRequest .idle 0
      exact State.tenantsHeld_of_unfitted hheld (hends.tenants hbar)
    · have hserve : s.received.serve .proveForce = okOnly (s.received.enterService .proveForce .idle 0) := if_pos hphase
      have htells := State.enterService_tells (s := s.received) hq .proveForce .idle 0
      have hsettled : (s.received.movedTo .service .proveForce).settled := State.received_settled hs
      obtain ⟨x, a, p, -, hex, hslot⟩ := exec_told hs (c := .proveForce tag) rfl hserve (by rfl) hsettled hq htells
      exact ⟨_, hex, rfl, rfl, rfl, rfl, rfl, hslot⟩
    · obtain ⟨hq', hacts'⟩ := State.movePhase_free (s := s.received) hq .halt .stopRequest .idle 0
      obtain ⟨w, p, hex, hends, hslot⟩ := exec_siteStop hs tag hphase hq' (hacts'.trans (State.received_acts hs))
      have hspc := hends.spc.trans (State.movePhase_spc s.received .halt .stopRequest .idle 0)
      refine ⟨_, hex, (congrArg Spc.phase hspc :), (congrArg Spc.left hspc :), (congrArg Spc.cause hspc :),
        (congrArg Spc.recover hspc :), (congrArg Spc.retry hspc :), (congrArg Spc.prove hspc :), hends.halted, hends.inLoad,
        fun hservice => ?_, hslot⟩
      have hheld := hends.tpt.trans (State.received_held hservice .halt .stopRequest .idle 0)
      exact State.tenantsHeld_of_unfitted hheld fun i => .inl ⟨rfl, rfl⟩
  · have hcause (c : PhaseCause) (hc : c ≠ .linkDown) : phaseAbortCause r c = .phase := if_neg fun h => hc h.1
    have hactive' : s.received.runActive r := hactive
    refine ⟨?_, fun hoff hhalt => ?_⟩
    · obtain ⟨hstops, hacts⟩ := State.movePhase_stops hactive' hphase (p := .halt) (by simp) .stopRequest .idle 0
      have hhalt : s.spc.phase ≠ .halt := by rcases hphase with h | h <;> simp [h]
      obtain ⟨w, p, hex, hends, hslot⟩ := exec_siteStop hs tag hhalt hstops.1 (hacts.trans (State.received_acts hs))
      have hspc := hends.spc.trans (State.movePhase_spc s.received .halt .stopRequest .idle 0)
      have hruns := hends.runs _ _ hstops
      rw [hcause _ (by simp)] at hruns
      refine ⟨_, hex, (congrArg Spc.phase hspc :), (congrArg Spc.left hspc :), (congrArg Spc.cause hspc :),
        (congrArg Spc.recover hspc :), (congrArg Spc.retry hspc :), (congrArg Spc.prove hspc :),
        (congrArg Spc.roundNo hspc :), hruns.of_eq rfl rfl rfl, fun hservice => ?_, hslot⟩
      have hheld := hends.tpt.trans (State.received_held hservice .halt .stopRequest .idle 0)
      exact State.tenantsHeld_of_unfitted hheld fun i => .inl ⟨rfl, rfl⟩
    · obtain ⟨hstops, hacts⟩ := State.movePhase_stops hactive' hphase (p := .seek) (by simp) .reseekRequest .idle 0
      have hphases : s.spc.phase = .prove ∨ s.spc.phase = .service ∨ s.spc.phase = .recover :=
        hphase.elim .inl fun h => .inr (.inl h)
      obtain ⟨w, p, hex, hends, hslot⟩ := exec_siteReseek hs tag hphases hstops.1 (hacts.trans (State.received_acts hs)) hoff hhalt
      have hspc := hends.spc.trans (State.movePhase_spc s.received .seek .reseekRequest .idle 0)
      rw [hcause _ (by simp)] at hstops
      obtain ⟨-, hlog, hgiven⟩ := hstops
      have hruns : w.runsStopped r .phase :=
        ⟨hends.queue, by rw [hends.log]; exact hlog, fun hk hd => hends.share (hgiven hk hd).1 (hgiven hk hd).2⟩
      refine ⟨_, hex, (congrArg Spc.phase hspc :), (congrArg Spc.left hspc :), (congrArg Spc.cause hspc :),
        (congrArg Spc.recover hspc :), (congrArg Spc.retry hspc :), (congrArg Spc.prove hspc :),
        (congrArg Spc.roundNo hspc :), hends.framer, hruns.of_eq rfl rfl rfl, fun hservice hbar => ?_, hslot⟩
      have hheld := State.received_held hservice .seek .reseekRequest .idle 0
      exact State.tenantsHeld_of_unfitted hheld (hends.tenants hbar)

end Sys2Proof.Machine
end

section
/-! PROOFS. What a slot's header makes of the receive framer and its records (R23 to R28, R140 to R142). -/

namespace Sys2Proof.Machine

/-! ### The records of a slot -/

/-- What MAP_SLIP is answered by. -/
def Fmn.slip (f : Fmn) : Bool × List ResponsePair := ((f.row 4).active, f.table)

/-- The receive side becomes `x`; beside it only the counts of malformed headers and of maps, the margin windows, the fault
table but for MAP_SLIP, and notices change. -/
def State.Records (s t : State) (x : LfrRx) : Prop := ∃ k n c a f m,
  t = { s with lfr := { s.lfr with rx := x, mapCause := c, counts := { s.lfr.counts with malformedHeader := n }, mcounts := k },
               lau := a, fmn := f, mp := m } ∧ f.slip = s.fmn.slip

namespace State.Records

variable {s t u : State} {x y : LfrRx}

theorem refl (s : State) : s.Records s s.lfr.rx :=
  ⟨s.lfr.mcounts, s.lfr.counts.malformedHeader, s.lfr.mapCause, s.lau, s.fmn, s.mp, rfl, rfl⟩

theorem rx (h : s.Records t x) : t.lfr.rx = x := by
  obtain ⟨k, n, c, a, f, m, rfl, -⟩ := h
  rfl

theorem put (h : s.Records t x) (y : LfrRx) : s.Records { t with lfr.rx := y } y := by
  obtain ⟨k, n, c, a, f, m, rfl, hf⟩ := h
  exact ⟨k, n, c, a, f, m, rfl, hf⟩

theorem port (h : s.Records t x) (m : Mp) : s.Records { t with mp := m } x := by
  obtain ⟨k, n, c, a, f, m', rfl, hf⟩ := h
  exact ⟨k, n, c, a, f, m, rfl, hf⟩

theorem noteMap (h : s.Records t x) (c : MapCause) : s.Records (t.noteMap c) x := by
  obtain ⟨k, n, c', a, f, m, rfl, hf⟩ := h
  exact ⟨k, n, c, a, f, _, rfl, hf⟩

theorem malformed (h : s.Records t x) (n : Count) : s.Records { t with lfr.counts.malformedHeader := n } x := by
  obtain ⟨k, n', c, a, f, m, rfl, hf⟩ := h
  exact ⟨k, n, c, a, f, m, rfl, hf⟩

theorem maps (h : s.Records t x) (k : MapStats) : s.Records { t with lfr.mcounts := k } x := by
  obtain ⟨k', n, c, a, f, m, rfl, hf⟩ := h
  exact ⟨k, n, c, a, f, m, rfl, hf⟩

theorem ite {c : Prop} [Decidable c] (ht : s.Records t x) (hu : s.Records u x) : s.Records (if c then t else u) x := by
  split
  · exact ht
  · exact hu

theorem rxProfileChanged (h : s.Records t x) (p : Nat) : s.Records (t.rxProfileChanged p) x := by
  obtain ⟨k, n, c, a, f, m, rfl, hf⟩ := h
  unfold State.rxProfileChanged
  dsimp only
  split
  · generalize hv : ({ s with
      lfr := { s.lfr with rx := x, mapCause := c, counts := { s.lfr.counts with malformedHeader := n }, mcounts := k }
      lau := { a with winSlots := 0, winSum := 0, upStreak := 0, floorStreak := 0 }, fmn := f, mp := m } : State) = v
    obtain ⟨f', m', hclear⟩ := State.clear_eq v rowProfileFloor
    have hslip : f'.slip = v.fmn.slip := by
      have hrow := congrArg Prod.fst (State.clear_seen v (r := rowProfileFloor) (q := 4) (by decide))
      have htable := congrArg Prod.fst (State.clear_settings v rowProfileFloor)
      rw [hclear] at hrow htable
      exact Prod.ext hrow htable
    rw [hclear]
    rw [← hv] at hslip ⊢
    exact ⟨k, n, c, _, f', _, rfl, hslip.trans hf⟩
  · exact ⟨k, n, c, _, f, _, rfl, hf⟩

theorem setRxProf (h : s.Records t x) (p : Nat) : s.Records (t.setRxProf p) { x with prof := p } := by
  have hx := h.rx
  unfold State.setRxProf
  dsimp only
  split
  · next hp =>
    have hsame : ({ x with prof := p } : LfrRx) = x := by rw [hp, hx]
    rw [hsame]
    exact h
  · refine rxProfileChanged ?_ _
    have hput := h.put { x with prof := p }
    rw [← hx] at hput ⊢
    exact hput

theorem setRxMap (h : s.Records t x) (m : RxMap) (c : MapCause) : s.Records (t.setRxMap m c) { x with map := m } := by
  have hx := h.rx
  unfold State.setRxMap
  split
  · next hm =>
    have hsame : ({ x with map := m } : LfrRx) = x := by rw [hm, hx]
    rw [hsame]
    exact h
  · refine noteMap ?_ _
    have hput := (h.put { x with map := m }).maps { t.lfr.mcounts with rxTaken := t.lfr.mcounts.rxTaken + 1 }
    rw [← hx] at hput ⊢
    exact hput

end State.Records

/-! ### The records counted down -/

/-- The profile record counted down (R28). -/
def LfrRx.profCounted (x : LfrRx) : LfrRx :=
  match x.pend with
  | none => x
  | some p =>
    if p.count = 1 then { x with pend := none, prof := p.target } else { x with pend := some { p with count := p.count - 1 } }

/-- The map record counted down (R141). -/
def LfrRx.mapCounted (x : LfrRx) : LfrRx :=
  match x.mpend with
  | none => x
  | some p =>
    if p.count = 1 then { x with mpend := none, map := ⟨p.ver, p.counts⟩ }
    else { x with mpend := some { p with count := p.count - 1 } }

theorem LfrRx.profCounted_eq (x : LfrRx) : ∃ p v, x.profCounted = { x with pend := p, prof := v } := by
  unfold LfrRx.profCounted
  split
  · exact ⟨_, _, rfl⟩
  · split <;> exact ⟨_, _, rfl⟩

theorem LfrRx.mapCounted_eq (x : LfrRx) : ∃ p v, x.mapCounted = { x with mpend := p, map := v } := by
  unfold LfrRx.mapCounted
  split
  · exact ⟨_, _, rfl⟩
  · split <;> exact ⟨_, _, rfl⟩

/-- The records as a frame without their header leaves them. -/
theorem LfrRx.counted_countedDown (x : LfrRx) : x.countedDown x.profCounted.mapCounted := by
  obtain ⟨p, v, hprof⟩ := LfrRx.profCounted_eq x
  obtain ⟨q, w, hmap⟩ := LfrRx.mapCounted_eq x.profCounted
  have hpend : x.profCounted.mapCounted.pend = x.profCounted.pend ∧ x.profCounted.mapCounted.prof = x.profCounted.prof := by
    rw [hmap]
    exact ⟨rfl, rfl⟩
  have hmpend : x.profCounted.mpend = x.mpend ∧ x.profCounted.map = x.map := by
    rw [hprof]
    exact ⟨rfl, rfl⟩
  unfold LfrRx.countedDown
  rw [hpend.1, hpend.2]
  refine ⟨fun h => ?_, fun r h h1 => ?_, fun r h h1 => ?_, fun h => ?_, fun r h h1 => ?_, fun r h h1 => ?_⟩
  · simp [LfrRx.profCounted, h]
  · simp [LfrRx.profCounted, h, h1]
  · simp [LfrRx.profCounted, h, show r.count ≠ 1 by omega]
  · unfold LfrRx.mapCounted
    rw [hmpend.1, h]
    exact ⟨hmpend.1.trans h, hmpend.2⟩
  · unfold LfrRx.mapCounted
    rw [hmpend.1, h]
    simp [h1]
  · unfold LfrRx.mapCounted
    rw [hmpend.1, h]
    simp [show r.count ≠ 1 by omega, hmpend.2]

theorem State.Records.countRecords {s t : State} {x : LfrRx} (h : s.Records t x) :
    s.Records t.countRecords x.profCounted.mapCounted := by
  have hprof : s.Records t.countProfile x.profCounted := by
    have hx := h.rx
    unfold State.countProfile LfrRx.profCounted
    rw [hx]
    cases x.pend with
    | none => exact h
    | some p =>
      dsimp only
      split
      · have hput := (h.put { x with pend := none }).setRxProf p.target
        rw [← hx] at hput ⊢
        exact hput
      · have hput := h.put { x with pend := some { p with count := p.count - 1 } }
        rw [← hx] at hput ⊢
        exact hput
  rw [countRecords_eq]
  have hx := hprof.rx
  generalize t.countProfile = v at hprof hx
  generalize x.profCounted = y at hprof hx
  unfold State.countMap LfrRx.mapCounted
  rw [hx]
  cases y.mpend with
  | none => exact hprof
  | some p =>
    dsimp only
    split
    · have hput := (hprof.put { y with mpend := none }).setRxMap ⟨p.ver, p.counts⟩ .rxInForce
      rw [← hx] at hput ⊢
      exact hput
    · have hput := hprof.put { y with mpend := some { p with count := p.count - 1 } }
      rw [← hx] at hput ⊢
      exact hput

/-! ### The records brought into line with a good header -/

/-- The records as a good header leaves them, where its fields pass (R28, R140). -/
def LfrRx.aligned (x : LfrRx) (h : Header) : LfrRx :=
  { x with
    pend := if h.count = 0 then none else some ⟨h.next, h.count⟩, prof := h.prof
    mpend := if h.mapCount = 0 then none else some ⟨h.pendVer, h.pend, h.mapCount⟩, map := ⟨h.ver, h.cur⟩ }

theorem State.Records.alignRecords {s t : State} {x : LfrRx} (hr : s.Records t x) (h : Header) :
    s.Records (t.alignRecords h) (x.aligned h) := by
  have hx := hr.rx
  have hprof : s.Records (({ t with lfr.rx.pend := if h.count = 0 then none else some ⟨h.next, h.count⟩ } : State).setRxProf h.prof)
      { x with pend := if h.count = 0 then none else some ⟨h.next, h.count⟩, prof := h.prof } := by
    have hput := (hr.put { x with pend := if h.count = 0 then none else some ⟨h.next, h.count⟩ }).setRxProf h.prof
    rw [← hx] at hput ⊢
    exact hput
  unfold State.alignRecords
  dsimp only
  generalize ({ t with lfr.rx.pend := if h.count = 0 then none else some ⟨h.next, h.count⟩ } : State).setRxProf h.prof
    = v at hprof
  have hcorrect (b : Bool) : s.Records (if b then { v with lfr.mcounts.corrections := v.lfr.mcounts.corrections + 1 } else v)
      { x with pend := if h.count = 0 then none else some ⟨h.next, h.count⟩, prof := h.prof } := by
    split
    · exact hprof.maps { v.lfr.mcounts with corrections := v.lfr.mcounts.corrections + 1 }
    · exact hprof
  have hmap (b : Bool) (c : MapCause) : s.Records (({ (if b then
      ({ v with lfr.mcounts.corrections := v.lfr.mcounts.corrections + 1 } : State) else v) with
      lfr.rx.mpend := if h.mapCount = 0 then none else some ⟨h.pendVer, h.pend, h.mapCount⟩ } : State).setRxMap
      ⟨h.ver, h.cur⟩ c) (x.aligned h) := by
    have hb := hcorrect b
    generalize (if b then ({ v with lfr.mcounts.corrections := v.lfr.mcounts.corrections + 1 } : State) else v) = u at hb
    have hu := hb.rx
    have hput := (hb.put { u.lfr.rx with mpend := if h.mapCount = 0 then none else some ⟨h.pendVer, h.pend, h.mapCount⟩ }).setRxMap
      ⟨h.ver, h.cur⟩ c
    rw [hu] at hput
    have hsame : ({ u with lfr.rx.mpend := if h.mapCount = 0 then none else some ⟨h.pendVer, h.pend, h.mapCount⟩ } : State) =
        { u with lfr.rx := { ({ x with pend := if h.count = 0 then none else some ⟨h.next, h.count⟩, prof := h.prof } : LfrRx) with
          mpend := if h.mapCount = 0 then none else some ⟨h.pendVer, h.pend, h.mapCount⟩ } } := by
      rw [← hu]
    rw [hsame]
    exact hput
  generalize decide ((⟨h.ver, h.cur⟩ : RxMap) ≠ t.lfr.rx.predicted) = corrected
  cases corrected with
  | true => exact ite ((hmap true _).noteMap _) (hmap true _)
  | false => exact ite ((hmap false _).noteMap _) (hmap false _)

/-! ### The framer moved and the header taken -/

/-- The receive framer moved by a slot (R24), and the peer record that goes with a fall to HUNT (R29). -/
def LfrRx.moved (x : LfrRx) (good : Bool) : LfrRx :=
  { x with
    framer := (x.step good).1, run := (x.step good).2.1
    upDue := if (x.step good).2.2.isSome then (x.step good).2.2 else x.upDue
    peer := if (x.step good).1 = .hunt then none else x.peer }

theorem State.moveFramer_records (s : State) (good : Bool) : s.Records (s.moveFramer good) (s.lfr.rx.moved good) := by
  have hput := (State.Records.refl s).put (s.lfr.rx.moved good)
  unfold State.moveFramer
  exact State.Records.ite hput (hput.port _)

theorem State.Records.takePeer {s t : State} {x : LfrRx} (hr : s.Records t x) (h : Header) : ∃ w,
    s.Records (t.takePeer h) { x with peer := some ⟨h.state, h.halted, h.hold, w⟩ } := by
  have hx := hr.rx
  have hput (p : PeerRecord) : s.Records { t with lfr.rx.peer := some p } { x with peer := some p } := by
    have hp := hr.put { x with peer := some p }
    rw [← hx] at hp ⊢
    exact hp
  unfold State.takePeer
  exact ⟨_, State.Records.ite (hput _) ((hput _).port _)⟩

/-- The records as a good header leaves them. -/
theorem State.Records.takeGood {s t : State} {x : LfrRx} (hr : s.Records t x) (h : Header) : ∃ w,
    s.Records (t.takeHeader (.good h)) (if h.fieldsOk = true
      then ({ x with peer := some ⟨h.state, h.halted, h.hold, w⟩ } : LfrRx).aligned h
      else ({ x with peer := some ⟨h.state, h.halted, h.hold, w⟩ } : LfrRx).profCounted.mapCounted) := by
  obtain ⟨w, hp⟩ := hr.takePeer h
  refine ⟨w, ?_⟩
  have hcounted := State.Records.ite (c := (h.fieldsOk && decide (h.wish ≤ 7)) = true) hp
    (hp.malformed ((t.takePeer h).lfr.counts.malformedHeader + 1))
  unfold State.takeHeader
  dsimp only
  by_cases hok : h.fieldsOk = true
  · rw [if_pos hok, if_pos hok]
    exact hcounted.alignRecords h
  · rw [if_neg hok, if_neg hok]
    exact hcounted.countRecords

/-- The records as a slot without a good header leaves them. -/
theorem State.Records.takeLost {s t : State} {x : LfrRx} (hr : s.Records t x) {h : SlotHeader} (hh : h.isGood = false) :
    s.Records (t.takeHeader h) (if x.framer.carries = true then x.profCounted.mapCounted else x) := by
  have hx := hr.rx
  have hbad : s.Records (if t.lfr.rx.framer.carries then t.countRecords else t)
      (if x.framer.carries = true then x.profCounted.mapCounted else x) := by
    rw [hx]
    split
    · exact hr.countRecords
    · exact hr
  cases h with
  | good y => cases hh
  | bad | missing => exact hbad

/-- With nothing of the receive side due, a slot finds it settled. -/
theorem State.settleRx_quiet {s : State} (hs : s.calm) (hq : s.rxQuiet) (hdown : s.lfr.rx.framer ≠ .down) : s.settleRx = s := by
  obtain ⟨hup, hmargin, halign, hchk⟩ := hq
  have hidle : s.finishWork = s := State.finishWork_idle hs.1 hs.2.1
  have h1 : s.deliverDown = s := if_neg hdown
  have h2 : s.deliverUp = s := by
    unfold State.deliverUp
    rw [hup]
  have h3 : s.marginWindow = s := by
    unfold State.marginWindow
    rw [hmargin]
    rfl
  have h4 : s.alignWindow = s := by
    unfold State.alignWindow
    rw [halign]
    rfl
  have h5 : s.checkerWindow = s := by
    unfold State.checkerWindow
    dsimp only
    rw [if_neg (by simp [hchk])]
  unfold State.settleRx
  dsimp only
  rw [h1, hidle, h2, hidle, h3, hidle, h4, hidle, h5, hidle]

end Sys2Proof.Machine
end

section
/-! PROOFS. The carriage blocks of a slot, and the end of its event (R33 to R37). -/

namespace Sys2Proof.Machine

/-! ### What blocks change -/

/-- What the carriage blocks of a slot may write. -/
structure CarriedParts where
  mismatches : Nat
  blocksRead : Count
  uncorrectable : Count
  mismatch : Count
  malformedLabel : Count
  tpt : Four Tenant
  chk : Checker
  fmn : Fmn
  ceiling : Nat
  mp : Mp
  acts : List Action

/-- The state with that written. -/
def State.carrying (s : State) (x : CarriedParts) : State :=
  { s with
    lfr := { s.lfr with
      rx := { s.lfr.rx with secMismatch := x.mismatches }
      counts := { s.lfr.counts with
        blocksRead := x.blocksRead, uncorrectable := x.uncorrectable, mismatch := x.mismatch, malformedLabel := x.malformedLabel } }
    tpt := x.tpt, stu.chk := x.chk, fmn := x.fmn, lau.ceiling := x.ceiling, mp := x.mp, work.acts := x.acts }

/-- Nothing has been written. -/
def State.uncarried (s : State) : CarriedParts :=
  ⟨s.lfr.rx.secMismatch, s.lfr.counts.blocksRead, s.lfr.counts.uncorrectable, s.lfr.counts.mismatch, s.lfr.counts.malformedLabel,
    s.tpt, s.stu.chk, s.fmn, s.lau.ceiling, s.mp, s.work.acts⟩

/-- MAP_SLIP is answered with nothing that moves the framer or a tenant, and what is due is HALT at most, outside HALT. -/
structure State.HaltsOnly (s : State) : Prop where
  stays : s.fmn.slipStays
  acts : ∀ a ∈ s.work.acts, a = .halt
  halted : s.raisePhase = .halt → s.work.acts = []

theorem Fmn.slipStays_of_slip {f g : Fmn} (h : f.slip = g.slip) (hg : g.slipStays) : f.slipStays := by
  have hrow : (f.row 4).active = (g.row 4).active := congrArg Prod.fst h
  have htable : f.table = g.table := congrArg Prod.snd h
  unfold Fmn.slipStays
  rw [hrow, htable]
  exact hg

/-- A raise of MAP_SLIP where no answer to it moves the framer or a tenant. -/
theorem State.raiseNow_halts {s : State} (h : s.HaltsOnly) (d : Nat) : (s.raiseNow rowMapSlip d).HaltsOnly := by
  obtain ⟨hstays, hacts, hhalted⟩ := h
  obtain ⟨f, c, m, as, heq, has⟩ := State.raise_eq s ⟨rowMapSlip, d, s.raisePhase⟩
  have hslip : (s.raiseNow rowMapSlip d).fmn.slipStays := by
    have htable : (s.raiseNow rowMapSlip d).fmn.table = s.fmn.table := congrArg Prod.fst (State.raise_settings s _)
    rcases hstays with hactive | htab
    · exact .inl ((congrArg Prod.fst (State.raise_seen s ⟨rowMapSlip, d, s.raisePhase⟩ (.inr hactive)) :).trans hactive)
    · refine .inr ?_
      rw [htable]
      exact htab
  have hnew : (∀ a ∈ as, a = .halt) ∧ (s.raisePhase = .halt → as = []) := by
    rcases has with rfl | ⟨hinactive, resp, hresp, rfl⟩
    · exact ⟨by simp, fun _ => rfl⟩
    · refine ⟨fun a ha => ?_, fun hp => ?_⟩
      · have hcause := Response.action_cause ha
        obtain ⟨pair, hpair, hmem⟩ := Fmn.response_mem hresp
        have htab : pair.bringup ≠ .reseek ∧ pair.service ≠ .reseek ∧ pair.bringup ≠ .bar ∧ pair.service ≠ .bar := by
          rcases hstays with hactive | htab
          · have hrow : (s.fmn.row 4).active = false := hinactive
            rw [hrow] at hactive
            cases hactive
          · exact htab pair hpair
        have hne : resp ≠ .reseek ∧ resp ≠ .bar := by
          rcases List.mem_cons.1 hmem with h | h
          · rw [h]
            exact ⟨htab.1, htab.2.2.1⟩
          · rw [List.mem_singleton.1 h]
            exact ⟨htab.2.1, htab.2.2.2⟩
        cases a with
        | halt => rfl
        | reseek => exact absurd hcause.symm hne.1
        | bar i => exact absurd hcause.symm hne.2
      · have hphase : (⟨rowMapSlip, d, s.raisePhase⟩ : Raise).phase = .halt := hp
        rw [hphase, Fmn.response_halt] at hresp
        cases hresp
  refine ⟨hslip, ?_, fun hp => ?_⟩
  · rw [State.raiseNow, heq]
    intro a ha
    rcases List.mem_append.1 ha with ha | ha
    · exact hacts a ha
    · exact hnew.1 a ha
  · rw [State.raiseNow, heq] at hp ⊢
    have hp' : s.raisePhase = .halt := hp
    show s.work.acts ++ as = []
    rw [hhalted hp', hnew.2 hp']
    rfl

/-- What a slot's blocks make of a state: those parts, the actions due among them. -/
structure State.Carries (s t : State) : Prop where
  eq : ∃ x, t = s.carrying x
  halts : s.HaltsOnly → t.HaltsOnly

theorem State.Carries.refl (s : State) : s.Carries s := ⟨⟨s.uncarried, rfl⟩, id⟩

theorem State.Carries.trans {s t u : State} (h : s.Carries t) (g : t.Carries u) : s.Carries u := by
  obtain ⟨⟨x, rfl⟩, hs⟩ := h
  obtain ⟨⟨y, rfl⟩, ht⟩ := g
  exact ⟨⟨y, rfl⟩, ht ∘ hs⟩

/-- Parts written that raise nothing. -/
theorem State.Carries.write {s t : State} (h : s.Carries t) (x : CarriedParts) (hf : x.fmn = t.fmn) (ha : x.acts = t.work.acts) :
    s.Carries (t.carrying x) := by
  refine h.trans ⟨⟨x, rfl⟩, fun ⟨hstays, hacts, hhalted⟩ => ⟨?_, ?_, ?_⟩⟩
  · show x.fmn.slipStays
    rw [hf]
    exact hstays
  · show ∀ a ∈ x.acts, a = .halt
    rw [ha]
    exact hacts
  · show t.raisePhase = .halt → x.acts = []
    rw [ha]
    exact hhalted

theorem State.Carries.gapAt {s t : State} (h : s.Carries t) (o : Owner) : s.Carries (t.gapAt o) := by
  cases o with
  | tenant i => exact h.write { t.uncarried with tpt := t.tpt.set i (t.tpt.get i).gap } rfl rfl
  | test | idle => exact h

theorem State.Carries.countMismatch {s t : State} (h : s.Carries t) : s.Carries t.countMismatch := by
  have hcount := h.write { t.uncarried with
    mismatches := t.lfr.rx.secMismatch + 1, mismatch := t.lfr.counts.mismatch + 1 } rfl rfl
  unfold State.countMismatch
  dsimp only
  split
  · refine hcount.trans ⟨?_, fun hh => State.raiseNow_halts hh 0⟩
    obtain ⟨f, c, m, as, heq, -⟩ := State.raise_eq (t.carrying { t.uncarried with
      mismatches := t.lfr.rx.secMismatch + 1, mismatch := t.lfr.counts.mismatch + 1 }) ⟨rowMapSlip, 0, t.raisePhase⟩
    exact ⟨{ t.uncarried with
      mismatches := t.lfr.rx.secMismatch + 1, mismatch := t.lfr.counts.mismatch + 1
      fmn := f, ceiling := c, mp := m, acts := t.work.acts ++ as }, heq⟩
  · exact hcount

theorem State.Carries.takeBlock {s t : State} (h : s.Carries t) (bb q : Nat) (b : RxBlock) : s.Carries (t.takeBlock bb q b) := by
  have hread := h.write { t.uncarried with blocksRead := t.lfr.counts.blocksRead + 1 } rfl rfl
  unfold State.takeBlock
  dsimp only
  split
  · have hcount := h.write { t.uncarried with
      blocksRead := t.lfr.counts.blocksRead + 1, uncorrectable := t.lfr.counts.uncorrectable + 1 } rfl rfl
    split
    · exact h.write { t.uncarried with
        blocksRead := t.lfr.counts.blocksRead + 1, uncorrectable := t.lfr.counts.uncorrectable + 1
        chk := t.stu.chk.take bb t.lfr.rx.frameNo.toNat q none } rfl rfl
    · exact hcount.gapAt _
    · exact hcount.gapAt _
  · exact hread.countMismatch.gapAt _
  · exact (h.write { t.uncarried with
      blocksRead := t.lfr.counts.blocksRead + 1, malformedLabel := t.lfr.counts.malformedLabel + 1 } rfl rfl).gapAt _
  · next l _ =>
    split
    · next i _ =>
      exact h.write { t.uncarried with
        blocksRead := t.lfr.counts.blocksRead + 1
        tpt := t.tpt.set i ((t.tpt.get i).block (b.data.take l.fill) (if l.start then some l.offset else none)) } rfl rfl
    · exact h.write { t.uncarried with
        blocksRead := t.lfr.counts.blocksRead + 1
        chk := t.stu.chk.take bb t.lfr.rx.frameNo.toNat q (some (l.fill, b.data)) } rfl rfl
    · exact hread

theorem State.Carries.takeBlocks {s t : State} (h : s.Carries t) (bb : Nat) (l : List (RxBlock × Nat)) :
    s.Carries (l.foldl (fun s x => s.takeBlock bb x.2 x.1) t) := by
  induction l generalizing t with
  | nil => exact h
  | cons x xs ih => exact ih (h.takeBlock bb x.2 x.1)

theorem State.gapAll_carrying (s : State) : ∃ p, s.gapAll = s.carrying { s.uncarried with tpt := p } := by
  have hlist (l : List (Fin 4)) : ∀ t : State, ∃ p, l.foldl (fun s i => if s.lfr.rx.map.counts.ten.get i = 0 then s
      else s.modTenant i Tenant.gap) t = t.carrying { t.uncarried with tpt := p } := by
    induction l with
    | nil => exact fun t => ⟨t.tpt, rfl⟩
    | cons i is ih =>
      intro t
      rw [List.foldl_cons]
      split
      · exact ih t
      · obtain ⟨p, hp⟩ := ih (t.modTenant i Tenant.gap)
        exact ⟨p, hp⟩
  exact hlist tenants s

/-- The blocks of a frame read in their order (R35). -/
def State.readBlocks (s : State) (blocks : List RxBlock) : State :=
  (blocks.zip positions).foldl (fun t x => t.takeBlock (blockBytes s.lfr.rx.prof) x.2 x.1) s

theorem State.takeCarriage_good (s : State) (x : Header) (blocks : List RxBlock) : s.takeCarriage (.good x) blocks =
    if s.lfr.rx.framer.carries && !x.hold then s.readBlocks blocks else s := rfl

theorem State.takeCarriage_bad (s : State) (blocks : List RxBlock) : s.takeCarriage .bad blocks =
    if s.lfr.rx.framer.carries && !(s.lfr.rx.peer.map (·.hold)).getD false then s.readBlocks blocks else s := rfl

theorem State.takeCarriage_missing (s : State) (blocks : List RxBlock) : s.takeCarriage .missing blocks =
    if s.lfr.rx.framer.carries && !(s.lfr.rx.peer.map (·.hold)).getD false then s.gapAll else s := rfl

theorem State.Carries.ite {s t u : State} {c : Prop} [Decidable c] (ht : s.Carries t) (hu : s.Carries u) :
    s.Carries (if c then t else u) := by
  split
  · exact ht
  · exact hu

/-- The blocks of a slot (R33, R35). -/
theorem State.takeCarriage_carries (s : State) (h : SlotHeader) (blocks : List RxBlock) : s.Carries (s.takeCarriage h blocks) := by
  have hrefl := State.Carries.refl s
  have hread : s.Carries (s.readBlocks blocks) := hrefl.takeBlocks _ _
  cases h with
  | good x =>
    rw [State.takeCarriage_good]
    exact State.Carries.ite hread hrefl
  | bad =>
    rw [State.takeCarriage_bad]
    exact State.Carries.ite hread hrefl
  | missing =>
    obtain ⟨p, hp⟩ := State.gapAll_carrying s
    rw [State.takeCarriage_missing, hp]
    exact State.Carries.ite (hrefl.write { s.uncarried with tpt := p } rfl rfl) hrefl

/-- A slot without a frame leaves nothing to be done. -/
theorem State.takeCarriage_missing_work (s : State) (blocks : List RxBlock) : (s.takeCarriage .missing blocks).work = s.work := by
  obtain ⟨p, hp⟩ := State.gapAll_carrying s
  rw [State.takeCarriage_missing, hp]
  split <;> rfl

/-- Blocks are read where the framer carries and the peer does not hold, and each counts (R33, R35). -/
theorem State.takeBlock_read (s : State) (bb q : Nat) (b : RxBlock) :
    (s.takeBlock bb q b).lfr.counts.blocksRead = s.lfr.counts.blocksRead + 1 := by
  have hgap (t : State) (o : Owner) : (t.gapAt o).lfr = t.lfr := by cases o <;> rfl
  have hmis (t : State) : t.countMismatch.lfr.counts.blocksRead = t.lfr.counts.blocksRead := by
    unfold State.countMismatch
    dsimp only
    split <;> simp
  unfold State.takeBlock
  dsimp only
  split
  · split
    · rfl
    · rw [hgap]
    · rw [hgap]
  · rw [hgap, hmis]
  · rw [hgap]
  · split <;> rfl

theorem State.readBlocks_read (s : State) {blocks : List RxBlock} (h : blocks.length = 62) :
    (s.readBlocks blocks).lfr.counts.blocksRead = s.lfr.counts.blocksRead + 62 := by
  have hlist (bb : Nat) (l : List (RxBlock × Nat)) : ∀ t : State, (l.foldl (fun t x => t.takeBlock bb x.2 x.1) t).lfr.counts.blocksRead =
      t.lfr.counts.blocksRead + BitVec.ofNat 32 l.length := by
    induction l with
    | nil => exact fun t => by simp
    | cons x xs ih =>
      intro t
      rw [List.foldl_cons, ih, State.takeBlock_read, List.length_cons, BitVec.ofNat_add]
      ac_rfl
  have hlen : (blocks.zip positions).length = 62 := by simp [h, positions]
  exact (hlist _ _ s).trans (by rw [hlen]; rfl)

/-! ### The end of an event in HALT -/

theorem State.endRun_spc {s : State} (h : s.spc.prove ≠ .round) (r : Run) (o : RunOutcome) (c : RunCause) :
    (s.endRun r o c).spc = s.spc := by
  have hpassed (t : State) (ht : t.spc = s.spc) : t.roundPassed.spc = s.spc := by
    unfold State.roundPassed
    rw [if_neg (by rw [ht]; exact h)]
    exact ht
  have hfailed (t : State) (ht : t.spc = s.spc) (i : Nat) : (t.roundFailed i).spc = s.spc := by
    unfold State.roundFailed
    rw [if_neg (by rw [ht]; exact h)]
    exact ht
  unfold State.endRun
  dsimp only
  split
  · split
    · split
      · simp
      · exact hpassed _ (by simp)
    · exact hfailed _ (by simp) _
  · simp

theorem State.abortRun_spc {s : State} (h : s.spc.prove ≠ .round) (r : Run) (c : RunCause) : (s.abortRun r c).spc = s.spc := by
  unfold State.abortRun
  rw [State.endRun_spc (by simpa using h)]
  simp

theorem State.startRun_spc {s : State} (h : s.spc.prove ≠ .round) : s.startRun.spc = s.spc := by
  unfold State.startRun
  split
  · rfl
  · split
    · split
      · simp
      · simp
      · exact (State.endRun_spc (by simpa using h) _ _ _).trans (by simp)
    · rfl

theorem State.compute_spc {s : State} (h : s.spc.prove ≠ .round) (a : Trigger) : (s.compute a).spc = s.spc := by
  have hshare : (s.computeShare a (share s.shareIn)).spc = s.spc := by simp
  unfold State.compute
  dsimp only
  generalize s.computeShare a (share s.shareIn) = t at hshare
  split
  · simpa using hshare
  · split
    · split
      · unfold State.revokeRun
        exact (State.abortRun_spc (s := { t with stu.lateRelease := _ }) (by rw [← hshare] at h; exact h) _ _).trans hshare
      · exact hshare
    · exact hshare

/-- HALT is entered, and no round stands. -/
def State.inHalt (s : State) : Prop := s.spc.phase = .halt ∧ s.spc.prove ≠ .round

/-- In HALT a piece of the work left restarts no framer and moves no phase. -/
theorem State.workStep_halted {s : State} (h : s.inHalt) : State.Worked (· ≠ .reseek) s s.workStep ∧ s.workStep.spc = s.spc := by
  obtain ⟨hphase, hprove⟩ := h
  have hrefl := State.Worked.refl (C := (· ≠ .reseek)) s
  have hact (a : Action) (as : List Action) (hless : State.Worked (· ≠ .reseek) s { s with work.acts := as }) :
      State.Worked (· ≠ .reseek) s (({ s with work.acts := as } : State).act a)
        ∧ (({ s with work.acts := as } : State).act a).spc = s.spc := by
    cases a with
    | bar i => exact ⟨hless.act (.bar i) (by simp [Action.cause]), (State.bar_frame _ _ _).2.2.1⟩
    | reseek =>
      have hidle : (({ s with work.acts := as } : State).act .reseek) = { s with work.acts := as } :=
        if_neg (by show ¬ (s.spc.phase = .prove ∨ _ ∨ _); rw [hphase]; simp)
      rw [hidle]
      exact ⟨hless, rfl⟩
    | halt =>
      have hidle : (({ s with work.acts := as } : State).act .halt) = { s with work.acts := as } := if_pos hphase
      rw [hidle]
      exact ⟨hless, rfl⟩
  unfold State.workStep
  split
  · split
    · exact ⟨State.Worked.compute (hrefl.work { s.work with alloc := none } fun _ => id) (.inl (by simp)) _,
        State.compute_spc (s := { s with work.alloc := none }) hprove _⟩
    · exact ⟨hrefl, rfl⟩
  · unfold State.actStep
    split
    · next a as ha => exact hact a as (hrefl.work { s.work with acts := as } fun b hb => ha ▸ List.mem_cons_of_mem a hb)
    · split
      · exact ⟨State.Worked.startRun (hrefl.work { s.work with runDue := false } fun _ => id) (.inl (by simp)),
          State.startRun_spc (s := { s with work.runDue := false }) hprove⟩
      · exact ⟨hrefl, rfl⟩

theorem State.doWork_halted (n : Nat) : ∀ s : State, s.inHalt → State.Worked (· ≠ .reseek) s (State.doWork n s) := by
  induction n with
  | zero => exact fun s _ => State.Worked.refl s
  | succ n ih =>
    intro s h
    obtain ⟨hstep, hspc⟩ := State.workStep_halted h
    refine hstep.trans (ih s.workStep ?_)
    unfold State.inHalt
    rw [hspc]
    exact h

/-- An event that leaves HALT at most to be done restarts no framer. -/
theorem State.HaltsOnly.finishWork {s : State} (h : s.HaltsOnly) (hdue : s.work.runDue = false) (halloc : s.work.alloc = none)
    (hphase : s.work.phase = none) : State.Worked (· ≠ .reseek) s s.finishWork := by
  have hwork : State.Worked (· ≠ .reseek) s (State.doWork 48 s) := by
    cases hacts : s.work.acts with
    | nil =>
      rw [State.doWork_done ⟨hacts, hdue⟩ halloc]
      exact State.Worked.refl s
    | cons a as =>
      have ha : a = .halt := h.acts a (by rw [hacts]; simp)
      have hnot : s.spc.phase ≠ .halt := by
        intro hp
        have hraise : s.raisePhase = .halt := by
          unfold State.raisePhase
          rw [hphase]
          exact hp
        rw [h.halted hraise] at hacts
        cases hacts
      have hstep : s.workStep = ({ s with work.acts := as } : State).enterHalt .haltResponse := by
        unfold State.workStep
        rw [if_neg (by simp [hacts])]
        unfold State.actStep
        rw [hacts, ha]
        exact if_neg hnot
      have hless := (State.Worked.refl (C := (· ≠ .reseek)) s).work { s.work with acts := as }
        fun b hb => hacts ▸ List.mem_cons_of_mem a hb
      have hhalt := hless.enterHalt (by simp) .haltResponse
      rw [State.doWork, hstep]
      refine hhalt.trans (State.doWork_halted 47 _ ?_)
      obtain ⟨x, i, m, heq, -, -⟩ := State.enterHalt_eq { s with work.acts := as } .haltResponse
      unfold State.inHalt
      rw [heq]
      show (State.movePhase { s with work.acts := as } .halt .haltResponse .idle 0).spc.phase = _ ∧
        (State.movePhase { s with work.acts := as } .halt .haltResponse .idle 0).spc.prove ≠ _
      rw [State.movePhase_spc]
      exact ⟨rfl, by simp⟩
  rw [State.finishWork_endEvent]
  generalize State.doWork 48 s = w at hwork
  exact (hwork.runs { w.stu with removed := [] } ⟨rfl, fun he => ⟨he, rfl⟩, .inl rfl, rfl, rfl, rfl⟩).work
    { w.work with phase := none } fun _ => id

/-! ### What the end of any event keeps of a slot -/

/-- The frame number, the latest good header, and every count of the link but that of DOWNs. -/
def Lfr.slotted (l : Lfr) : BitVec 16 × Option GoodHeader × LinkCounts := (l.rx.frameNo, l.rx.lastGood, { l.counts with down := 0 })

theorem State.Edit.slotted {C : Cause → Prop} {s t : State} (e : State.Edit C s t) : t.lfr.slotted = s.lfr.slotted := by
  cases e with
  | offer hC m =>
    unfold State.offer
    split <;> rfl
  | raise | clear | bar | hold | tryActive | adaptDown | refDown => simp
  | port | work | dropPeer | hunt | unconfirm | site | stopRead | halted | alloc | runs => rfl

theorem State.finishWork_slotted (s : State) : s.finishWork.lfr.slotted = s.lfr.slotted :=
  (State.Worked.finishWork_any s).keeps (P := fun t => t.lfr.slotted = s.lfr.slotted) (fun _ _ e h => e.slotted.trans h) rfl

end Sys2Proof.Machine
end

section
/-! PROOFS. A receive slot whole, and the slot without a good header (R23 to R28, R141). -/

namespace Sys2Proof.Machine

/-! ### The stages of a slot -/

/-- The state once the slot's header is counted and taken, and its measures are. -/
def State.headed (s : State) (h : SlotHeader) (f : Option RxFrame) : State :=
  let t := (({ s with lfr := s.lfr.countSlot h } : State).moveFramer h.isGood).takeHeader h
  { t with
    lau := if t.lfr.rx.framer.carries then
        t.lau.slot ((f.map (fun x => (clampInt 0 400 x.margin).toNat)).getD 0) else t.lau
    spc := t.spc.slot ((f.map (fun x => clampInt (-900) (-200) x.level)).getD (-900)) }

/-- The state once the slot's carriage blocks are taken too, and the checker counts the slot. -/
def State.carried (s : State) (h : SlotHeader) (f : Option RxFrame) : State :=
  let t := (s.headed h f).takeCarriage h ((f.map (·.blocks)).getD [])
  if t.lfr.rx.framer.carries then { t with stu.chk := t.stu.chk.slot } else t

theorem State.slot_lost {s : State} (hs : s.settleRx = s) {h : SlotHeader} (hh : h.isGood = false) (f : Option RxFrame) :
    s.slot h f = s.carried h f := by
  unfold State.slot
  rw [hs]
  cases h with
  | good x => cases hh
  | bad | missing => rfl

theorem State.slot_good {s : State} (hs : s.settleRx = s) (x : Header) (f : RxFrame) :
    s.slot (.good x) (some f) = { ((s.carried (.good x) (some f)).takeService (readService f.serviceBad f.service)).markHeader x f.arrival
      with lfr.rx.lastGood := some ⟨x.sent, f.arrival⟩ } := by
  unfold State.slot
  rw [hs]
  rfl

/-- What a header taken makes of a state: the receive side becomes `y`. -/
def State.Headed (s t : State) (h : SlotHeader) (y : LfrRx) : Prop := ∃ k n c a f m p,
  t = { s with
    lfr := { s.lfr with
      rx := y, mapCause := c, counts := { (s.lfr.countSlot h).counts with malformedHeader := n }, mcounts := k }
    lau := a, fmn := f, mp := m, spc := p } ∧ f.slip = s.fmn.slip

/-- The measures of a slot leave the records as they are. -/
theorem State.Headed.measured {s t : State} {h : SlotHeader} {y : LfrRx}
    (hr : State.Records { s with lfr := s.lfr.countSlot h } t y) (a : Lau) (p : Spc) :
    s.Headed { t with lau := a, spc := p } h y := by
  obtain ⟨k, n, c, a', f, m, rfl, hslip⟩ := hr
  refine ⟨k, n, c, a, f, m, p, ?_, hslip⟩
  cases h <;> rfl

/-- What the blocks of a slot make of it. -/
structure State.Carried (s t : State) (h : SlotHeader) (y : LfrRx) : Prop where
  rx : ∃ n, t.lfr.rx = { y with secMismatch := n }
  good : t.lfr.counts.good = (s.lfr.countSlot h).counts.good
  bad : t.lfr.counts.bad = (s.lfr.countSlot h).counts.bad
  missing : t.lfr.counts.missing = (s.lfr.countSlot h).counts.missing
  work : ∃ as, t.work = { s.work with acts := as }
  halts : s.work.acts = [] → s.fmn.slipStays → t.HaltsOnly
  stu : t.stu.removed = s.stu.removed

theorem State.Headed.carried {s t : State} {h : SlotHeader} {y : LfrRx} (hh : s.Headed t h y) (blocks : List RxBlock) :
    s.Carried (if (t.takeCarriage h blocks).lfr.rx.framer.carries
      then { t.takeCarriage h blocks with stu.chk := (t.takeCarriage h blocks).stu.chk.slot } else t.takeCarriage h blocks) h y := by
  obtain ⟨⟨x, heq⟩, hhalts⟩ := State.takeCarriage_carries t h blocks
  have hcarry : s.Carried (t.takeCarriage h blocks) h y := by
    obtain ⟨k, n, c, a, f, m, p, rfl, hslip⟩ := hh
    rw [heq] at hhalts ⊢
    exact ⟨⟨_, rfl⟩, rfl, rfl, rfl, ⟨_, rfl⟩,
      fun ha hstays => hhalts ⟨Fmn.slipStays_of_slip hslip hstays, fun a h => absurd (ha ▸ h) (by simp), fun _ => ha⟩, rfl⟩
  generalize t.takeCarriage h blocks = u at hcarry
  obtain ⟨hrx, hgood, hbad, hmissing, hwork, hhalts, hstu⟩ := hcarry
  split
  · exact ⟨hrx, hgood, hbad, hmissing, hwork,
      fun ha hstays => let ⟨h1, h2, h3⟩ := hhalts ha hstays; ⟨h1, h2, h3⟩, hstu⟩
  · exact ⟨hrx, hgood, hbad, hmissing, hwork, hhalts, hstu⟩

/-! ### A slot without a good header -/

/-- The receive side as a slot without a good header leaves it. -/
def LfrRx.lost (x : LfrRx) : LfrRx :=
  if (x.moved false).framer.carries = true then (x.moved false).profCounted.mapCounted else x.moved false

theorem LfrRx.counted_eq (x : LfrRx) : ∃ p v q w, x.profCounted.mapCounted = { x with pend := p, prof := v, mpend := q, map := w } := by
  obtain ⟨p, v, hprof⟩ := LfrRx.profCounted_eq x
  obtain ⟨q, w, hmap⟩ := LfrRx.mapCounted_eq x.profCounted
  rw [hprof] at hmap ⊢
  exact ⟨p, v, q, w, hmap⟩

theorem LfrRx.lost_eq (x : LfrRx) : ∃ p v q w, x.lost = { x.moved false with pend := p, prof := v, mpend := q, map := w } := by
  unfold LfrRx.lost
  split
  · exact LfrRx.counted_eq _
  · exact ⟨_, _, _, _, rfl⟩

theorem LfrRx.headerLost_lost (x : LfrRx) : x.headerLost x.lost := by
  obtain ⟨p, v, q, w, hlost⟩ := LfrRx.lost_eq x
  rw [hlost]
  unfold LfrRx.headerLost LfrRx.moved LfrRx.step
  refine ⟨fun h => ?_, fun h => ?_, fun h => ?_, fun h hrun => ?_, fun h hrun => ?_⟩
  · simp [h]
  · simp [h]
  · simp [h]
  · simp [h, show x.run ≠ 7 by omega]
  · simp [h, show x.run = 7 by omega]

theorem LfrRx.countedDown_lost {x : LfrRx} (h : x.framer = .up ∨ (x.framer = .flywheel ∧ x.run + 1 < 8)) :
    x.countedDown x.lost := by
  have hcarries : (x.moved false).framer.carries = true := by
    unfold LfrRx.moved LfrRx.step
    rcases h with h | ⟨h, hrun⟩
    · simp [h, RxFramer.carries]
    · simp [h, RxFramer.carries, show x.run ≠ 7 by omega]
  rw [LfrRx.lost, if_pos hcarries]
  exact LfrRx.counted_countedDown (x.moved false)

/-- A framer that does not carry after a slot without a good header reads no block. -/
theorem LfrRx.lost_idle {x : LfrRx} (h : x.framer = .hunt ∨ x.framer = .confirm) : x.lost.framer.carries = false := by
  obtain ⟨p, v, q, w, hlost⟩ := LfrRx.lost_eq x
  rw [hlost]
  unfold LfrRx.moved LfrRx.step
  rcases h with h | h <;> simp [h, RxFramer.carries]

theorem State.takeCarriage_idle {s : State} (h : s.lfr.rx.framer.carries = false) (x : SlotHeader) (blocks : List RxBlock) :
    s.takeCarriage x blocks = s := by
  unfold State.takeCarriage
  simp [h]

/-- The records as a slot without a good header leaves them. -/
theorem State.headed_lost (s : State) {h : SlotHeader} (hh : h.isGood = false) (f : Option RxFrame) :
    s.Headed (s.headed h f) h (s.lfr.countSlot h).rx.lost := by
  have hrecords : State.Records { s with lfr := s.lfr.countSlot h }
      ((({ s with lfr := s.lfr.countSlot h } : State).moveFramer h.isGood).takeHeader h) (s.lfr.countSlot h).rx.lost := by
    rw [hh]
    exact (State.moveFramer_records { s with lfr := s.lfr.countSlot h } false).takeLost hh
  exact State.Headed.measured hrecords _ _

theorem State.carried_lost (s : State) {h : SlotHeader} (hh : h.isGood = false) (f : Option RxFrame) :
    s.Carried (s.carried h f) h (s.lfr.countSlot h).rx.lost :=
  State.Headed.carried (State.headed_lost s hh f) _

/-- A slot without a frame, or whose framer does not carry, leaves nothing to be done. -/
theorem State.carried_lost_work (s : State) {h : SlotHeader} (hh : h.isGood = false) (f : Option RxFrame)
    (hfree : h = .missing ∨ s.lfr.rx.framer = .hunt ∨ s.lfr.rx.framer = .confirm) : (s.carried h f).work = s.work := by
  obtain ⟨k, n, c, a, g, m, p, hheaded, -⟩ := State.headed_lost s hh f
  have hwork : ((s.headed h f).takeCarriage h ((f.map (·.blocks)).getD [])).work = s.work := by
    rcases hfree with rfl | hframer
    · rw [State.takeCarriage_missing_work, hheaded]
    · have hcount : (s.lfr.countSlot h).rx.framer = s.lfr.rx.framer := by cases h <;> rfl
      rw [State.takeCarriage_idle, hheaded]
      rw [hheaded]
      exact LfrRx.lost_idle (hcount ▸ hframer)
  unfold State.carried
  dsimp only
  split
  · exact hwork
  · exact hwork

/-- The slot without a good header, to the end of its event. -/
theorem State.slot_lost_ends {s : State} (hs : s.calm) (hq : s.rxQuiet) (hdown : s.lfr.rx.framer ≠ .down) {h : SlotHeader}
    (hh : h.isGood = false) (f : Option RxFrame)
    (hfree : h = .missing ∨ s.lfr.rx.framer = .hunt ∨ s.lfr.rx.framer = .confirm ∨ s.fmn.slipStays) :
    (∃ n, (s.slot h f).finishWork.lfr.rx = { (s.lfr.countSlot h).rx.lost with secMismatch := n })
      ∧ (s.slot h f).finishWork.lfr.counts.good = (s.lfr.countSlot h).counts.good
      ∧ (s.slot h f).finishWork.lfr.counts.bad = (s.lfr.countSlot h).counts.bad
      ∧ (s.slot h f).finishWork.lfr.counts.missing = (s.lfr.countSlot h).counts.missing := by
  obtain ⟨⟨n, hrx⟩, hgood, hbad, hmissing, ⟨as, hwork⟩, hhalts, hstu⟩ := State.carried_lost s hh f
  have hslotted := State.finishWork_slotted (s.carried h f)
  rw [State.slot_lost (State.settleRx_quiet hs hq hdown) hh]
  have hcounts : { (s.carried h f).finishWork.lfr.counts with down := 0 } = { (s.carried h f).lfr.counts with down := 0 } :=
    congrArg (·.2.2) hslotted
  have hkept : (s.carried h f).finishWork.lfr.rx = (s.carried h f).lfr.rx := by
    have hidle : (s.carried h f).work = s.work → (s.carried h f).finishWork = s.carried h f :=
      fun hw => State.finishWork_idle (hw.trans hs.1) (hstu.trans hs.2.1)
    rcases hfree with hm | hm | hm | hstays
    · rw [hidle (State.carried_lost_work s hh f (.inl hm))]
    · rw [hidle (State.carried_lost_work s hh f (.inr (.inl hm)))]
    · rw [hidle (State.carried_lost_work s hh f (.inr (.inr hm)))]
    · have hs1 := hs.1
      have hends := State.HaltsOnly.finishWork (hhalts (by rw [hs1]) hstays) (by rw [hwork, hs1]) (by rw [hwork, hs1])
        (by rw [hwork, hs1])
      exact (State.Worked.unreseeked (by simp) hends).rx
  generalize (s.carried h f).finishWork = w at hcounts hkept ⊢
  generalize s.carried h f = v at hrx hgood hbad hmissing hcounts hkept
  exact ⟨⟨n, hkept.trans hrx⟩, (congrArg LinkCounts.good hcounts :).trans hgood,
    (congrArg LinkCounts.bad hcounts :).trans hbad, (congrArg LinkCounts.missing hcounts :).trans hmissing⟩

/-- The records counted down do not look at the frame number. -/
theorem LfrRx.lost_frameNo (x : LfrRx) (n : BitVec 16) (k : Nat) :
    ({ ({ x with frameNo := n } : LfrRx).lost with secMismatch := k } : LfrRx).frameNo = n
      ∧ x.headerLost { ({ x with frameNo := n } : LfrRx).lost with secMismatch := k }
      ∧ (x.framer = .up ∨ (x.framer = .flywheel ∧ x.run + 1 < 8) →
        x.countedDown { ({ x with frameNo := n } : LfrRx).lost with secMismatch := k }) := by
  refine ⟨?_, LfrRx.headerLost_lost { x with frameNo := n }, fun h => LfrRx.countedDown_lost (x := { x with frameNo := n }) h⟩
  obtain ⟨p, v, q, w, hlost⟩ := LfrRx.lost_eq { x with frameNo := n }
  rw [hlost]
  rfl

/-- Settles O37: the records of a slot, its blocks, and the end of its event, each by what it leaves of the receive side. -/
theorem lostHeaderMovesFramer : Obligations.LostHeaderMovesFramer := by
  unfold Obligations.LostHeaderMovesFramer
  refine ⟨fun s f hs hq hwf hoff hdown hbad hfree => ?_, fun s hs hq hoff hdown => ?_⟩
  · have hclass : s.classify f = .bad := by
      unfold State.classify
      rcases hbad with hcrc | ⟨l, hl, hid⟩
      · cases s.il.link with
        | none => rfl
        | some l => simp [hcrc]
      · simp [hl, hid]
    have hex : exec (.rxFrameReceived f) s = .next (s.slot .bad (some f)).close := by
      show execRxFrameReceived f s = _
      unfold execRxFrameReceived
      rw [if_neg (by simp [hwf]), if_neg hoff, hclass]
    obtain ⟨⟨n, hrx⟩, hgood, hbad, -⟩ := State.slot_lost_ends hs hq hdown (h := .bad) rfl (some f) (.inr hfree)
    obtain ⟨m, hend⟩ := exec_ends hs hex ((State.InnerOf.refl (Q := View.consistent) s).slot .bad (some f)) rfl
    obtain ⟨hno, hlost, hcount⟩ := LfrRx.lost_frameNo s.lfr.rx (s.lfr.rx.frameNo + 1) n
    generalize (s.slot .bad (some f)).finishWork = t at hrx hgood hbad hend
    refine ⟨_, hend, hbad, ?_, hgood, ?_, fun h => ?_⟩
    · exact (congrArg LfrRx.frameNo hrx).trans hno
    · show s.lfr.rx.headerLost t.lfr.rx
      rw [hrx]
      exact hlost
    · show s.lfr.rx.countedDown t.lfr.rx
      rw [hrx]
      exact hcount h
  · have hex : exec .rxHeaderMissing s = .next (s.slot .missing none).close := if_neg hoff
    obtain ⟨⟨n, hrx⟩, hgood, -, hmissing⟩ := State.slot_lost_ends hs hq hdown (h := .missing) rfl none (.inl rfl)
    obtain ⟨m, hend⟩ := exec_ends hs hex ((State.InnerOf.refl (Q := View.consistent) s).slot .missing none) rfl
    obtain ⟨hno, hlost, hcount⟩ := LfrRx.lost_frameNo s.lfr.rx (s.lfr.rx.frameNo + 1) n
    generalize (s.slot .missing none).finishWork = t at hrx hgood hmissing hend
    refine ⟨_, hend, hmissing, ?_, hgood, ?_, fun h => ?_⟩
    · exact (congrArg LfrRx.frameNo hrx).trans hno
    · show s.lfr.rx.headerLost t.lfr.rx
      rw [hrx]
      exact hlost
    · show s.lfr.rx.countedDown t.lfr.rx
      rw [hrx]
      exact hcount h

end Sys2Proof.Machine
end

section
/-! PROOFS. The slot with a good header, its service block, and each of its carriage blocks (R22 to R26, R33 to R41). -/

namespace Sys2Proof.Machine

/-! ### A carriage block -/

theorem State.gapAt_lfr (s : State) (o : Owner) : (s.gapAt o).lfr = s.lfr ∧ (s.gapAt o).fmn = s.fmn ∧ (s.gapAt o).stu = s.stu := by
  cases o <;> exact ⟨rfl, rfl, rfl⟩

/-- The gap a block leaves in the stream of the tenant that owns its position (R36). -/
theorem State.gapAt_tpt (s : State) (o : Owner) :
    (∀ i, o = .tenant i → (s.gapAt o).tpt = s.tpt.set i (s.tpt.get i).gap) ∧ ((∀ i, o ≠ .tenant i) → (s.gapAt o).tpt = s.tpt) := by
  cases o with
  | tenant i => exact ⟨fun j h => by cases h; rfl, fun h => absurd rfl (h i)⟩
  | test | idle => exact ⟨by simp, fun _ => rfl⟩

theorem State.countMismatch_counted (s : State) : s.countMismatch.lfr.counts.mismatch = s.lfr.counts.mismatch + 1
    ∧ s.countMismatch.lfr.rx.secMismatch = s.lfr.rx.secMismatch + 1 ∧ s.countMismatch.tpt = s.tpt ∧ s.countMismatch.stu = s.stu := by
  unfold State.countMismatch
  dsimp only
  split <;> simp

/-- The sixteenth mismatch of the second raises MAP_SLIP, and no other does (R37). -/
theorem State.countMismatch_slip (s : State) :
    (s.lfr.rx.secMismatch + 1 = 16 → s.fmn.rows.length = 21 → s.countMismatch.rowActive 4)
    ∧ (s.lfr.rx.secMismatch + 1 ≠ 16 → s.countMismatch.fmn = s.fmn) := by
  unfold State.countMismatch
  refine ⟨fun h16 hrows => ?_, fun h16 => ?_⟩
  · rw [if_pos h16]
    refine State.raiseNow_active (s := { s with
      lfr.rx.secMismatch := s.lfr.rx.secMismatch + 1, lfr.counts.mismatch := s.lfr.counts.mismatch + 1 }) ?_ (r := 4) (by decide) 0
    exact hrows
  · rw [if_neg h16]

/-- An uncorrectable block is a gap at a tenant's position, and a bad block to the checker (R35, R157). -/
theorem State.takeBlock_uncorrectable {s : State} {b : RxBlock} (h : b.uncorrectable = true) (bb q : Nat) :
    (s.takeBlock bb q b).lfr.counts.uncorrectable = s.lfr.counts.uncorrectable + 1
    ∧ (s.takeBlock bb q b).tpt = (s.gapAt (s.lfr.rx.map.counts.owner q)).tpt
    ∧ (s.takeBlock bb q b).stu.chk = (if s.lfr.rx.map.counts.owner q = .test
        then s.stu.chk.take bb s.lfr.rx.frameNo.toNat q none else s.stu.chk) := by
  have hh : handling (s.lfr.rx.map.counts.owner q) bb b = .uncorrectable := if_pos h
  unfold State.takeBlock
  dsimp only
  rw [hh]
  cases s.lfr.rx.map.counts.owner q <;> exact ⟨rfl, rfl, rfl⟩

theorem State.takeBlock_mismatch {s : State} {b : RxBlock} (h : b.uncorrectable = false) {bb q : Nat}
    (ho : (readLabel b.label).owner ≠ (s.lfr.rx.map.counts.owner q).code) : s.takeBlock bb q b =
    ({ s with lfr.counts.blocksRead := s.lfr.counts.blocksRead + 1 } : State).countMismatch.gapAt
      (s.lfr.rx.map.counts.owner q) := by
  have hh : handling (s.lfr.rx.map.counts.owner q) bb b = .mismatch := by simp [handling, h, ho]
  unfold State.takeBlock
  dsimp only
  rw [hh]

theorem State.takeBlock_malformed {s : State} {b : RxBlock} (h : b.uncorrectable = false) {bb q : Nat}
    (ho : (readLabel b.label).owner = (s.lfr.rx.map.counts.owner q).code)
    (hl : bb < (readLabel b.label).fill ∨ ((readLabel b.label).start = true ∧ (readLabel b.label).fill ≤ (readLabel b.label).offset)) :
    s.takeBlock bb q b = ({ s with
      lfr.counts.blocksRead := s.lfr.counts.blocksRead + 1
      lfr.counts.malformedLabel := s.lfr.counts.malformedLabel + 1 } : State).gapAt (s.lfr.rx.map.counts.owner q) := by
  have hh : handling (s.lfr.rx.map.counts.owner q) bb b = .malformed := by
    unfold handling
    dsimp only
    rw [if_neg (by simp [h]), if_neg (by simp [ho]), if_pos hl]
  unfold State.takeBlock
  dsimp only
  rw [hh]

theorem State.takeBlock_deliver {s : State} {b : RxBlock} (h : b.uncorrectable = false) {bb q : Nat}
    (ho : (readLabel b.label).owner = (s.lfr.rx.map.counts.owner q).code) (hf : (readLabel b.label).fill ≤ bb)
    (hl : (readLabel b.label).start = false ∨ (readLabel b.label).offset < (readLabel b.label).fill) :
    s.takeBlock bb q b =
    match s.lfr.rx.map.counts.owner q with
    | .tenant i => { s with
        lfr.counts.blocksRead := s.lfr.counts.blocksRead + 1
        tpt := s.tpt.set i ((s.tpt.get i).block (b.data.take (readLabel b.label).fill)
          (if (readLabel b.label).start = true then some (readLabel b.label).offset else none)) }
    | .test => { s with
        lfr.counts.blocksRead := s.lfr.counts.blocksRead + 1
        stu.chk := s.stu.chk.take bb s.lfr.rx.frameNo.toNat q (some ((readLabel b.label).fill, b.data)) }
    | .idle => { s with lfr.counts.blocksRead := s.lfr.counts.blocksRead + 1 } := by
  have hh : handling (s.lfr.rx.map.counts.owner q) bb b = .deliver (readLabel b.label) := by
    unfold handling
    dsimp only
    rw [if_neg (by simp [h]), if_neg (by simp [ho]), if_neg]
    rintro (hlt | ⟨hstart, hle⟩)
    · omega
    · rcases hl with hl | hl
      · rw [hl] at hstart
        cases hstart
      · omega
  unfold State.takeBlock
  dsimp only
  rw [hh]
  cases s.lfr.rx.map.counts.owner q <;> rfl

/-! ### The service block -/

/-- What a service block brings (R40, R41): the relay buffer, a count, the self-test unit, and notices. -/
theorem State.takeService_eq (s : State) (v : Service) : ∃ relay lost d u m, s.takeService v = { s with
    lfr := { s.lfr with
      rx := { s.lfr.rx with relay := relay, relayLost := lost }, counts := { s.lfr.counts with discardedService := d } }
    stu := u, mp := m } ∧ u.removed = s.stu.removed := by
  cases v with
  | idle => exact ⟨_, _, _, _, _, rfl, rfl⟩
  | start id mask blocks => exact ⟨_, _, _, _, _, rfl, rfl⟩
  | discard => exact ⟨_, _, _, _, _, rfl, rfl⟩
  | note b =>
    show ∃ relay lost d u m, s.takeNote b = _ ∧ _
    unfold State.takeNote
    dsimp only
    split <;> exact ⟨_, _, _, _, _, rfl, rfl⟩
  | report id checked bad w =>
    show ∃ relay lost d u m, s.takeReport id checked bad = _ ∧ _
    unfold State.takeReport
    split
    · split
      · exact ⟨_, _, _, _, _, rfl, rfl⟩
      · exact ⟨_, _, _, _, _, rfl, rfl⟩
    · exact ⟨_, _, _, _, _, rfl, rfl⟩

theorem State.markHeader_eq (s : State) (h : Header) (a : SiteTime) : ∃ r, s.markHeader h a = { s with rfm := r } := by
  unfold State.markHeader
  split
  · exact ⟨_, rfl⟩
  · split <;> exact ⟨_, rfl⟩

theorem readService_discard {bad : Bool} {b : Bytes}
    (h : ¬ (bad = false ∧ crcOk b = true) ∨ 3 < field b 0 1 ∨ (field b 0 1 = 0 ∧ field b 1 1 ≠ 0) ∨ (field b 0 1 = 1 ∧ field b 1 1 ≠ 18)
      ∨ (field b 0 1 = 2 ∧ field b 1 1 ≠ 7) ∨ (field b 0 1 = 3 ∧ (field b 1 1 = 0 ∨ 32 < field b 1 1))) :
    readService bad b = .discard := by
  unfold readService
  dsimp only
  split
  · rfl
  · next hwhole =>
    have hgood : bad = false ∧ crcOk b = true := by
      cases bad <;> simp_all
    generalize field b 0 1 = kind at *
    generalize field b 1 1 = len at *
    rcases h with h | h | ⟨rfl, h⟩ | ⟨rfl, h⟩ | ⟨rfl, h⟩ | ⟨rfl, h⟩
    · exact absurd hgood h
    · match kind, h with
      | k + 4, _ => rfl
    · exact if_neg h
    · exact if_neg h
    · exact if_neg h
    · exact if_neg (by omega)

section
variable {bad : Bool} {b : Bytes} (h : bad = false ∧ crcOk b = true)
include h

theorem readService_idle (hk : field b 0 1 = 0) (hl : field b 1 1 = 0) : readService bad b = .idle := by
  simp [readService, h, hk, hl]

theorem readService_start (hk : field b 0 1 = 1) (hl : field b 1 1 = 18) :
    readService bad b = .start (field b 2 1) (slice b 3 16) (field b 19 1) := by
  simp [readService, h, hk, hl]

theorem readService_report (hk : field b 0 1 = 2) (hl : field b 1 1 = 7) :
    readService bad b = .report (field b 2 1) (field b 3 2) (field b 5 2) (field b 7 2) := by
  simp [readService, h, hk, hl]

theorem readService_note (hk : field b 0 1 = 3) (hl : 1 ≤ field b 1 1 ∧ field b 1 1 ≤ 32) :
    readService bad b = .note (slice b 2 (field b 1 1)) := by
  simp [readService, h, hk, hl]

end

/-! ### A slot with a good header -/

/-- The receive side as a good header leaves it, the peer's wish taken as `w`. -/
def LfrRx.gained (x : LfrRx) (h : Header) (w : Option Nat) : LfrRx :=
  if h.fieldsOk = true then ({ x.moved true with peer := some ⟨h.state, h.halted, h.hold, w⟩ } : LfrRx).aligned h
  else ({ x.moved true with peer := some ⟨h.state, h.halted, h.hold, w⟩ } : LfrRx).profCounted.mapCounted

theorem LfrRx.gained_eq (x : LfrRx) (h : Header) (w : Option Nat) : ∃ p v q m,
    x.gained h w = { x.moved true with
      peer := some ⟨h.state, h.halted, h.hold, w⟩, pend := p, prof := v, mpend := q, map := m }
    ∧ (h.fieldsOk = true → v = h.prof ∧ m = ⟨h.ver, h.cur⟩) := by
  unfold LfrRx.gained
  split
  · exact ⟨_, _, _, _, rfl, fun _ => ⟨rfl, rfl⟩⟩
  · next hok =>
    obtain ⟨p, v, q, m, heq⟩ := LfrRx.counted_eq { x.moved true with peer := some ⟨h.state, h.halted, h.hold, w⟩ }
    exact ⟨p, v, q, m, heq, fun h => absurd h hok⟩

theorem State.headed_gained (s : State) (h : Header) (f : Option RxFrame) :
    ∃ w, s.Headed (s.headed (.good h) f) (.good h) ((s.lfr.countSlot (.good h)).rx.gained h w) := by
  obtain ⟨w, hrecords⟩ :=
    (State.moveFramer_records { s with lfr := s.lfr.countSlot (.good h) } true).takeGood h
  exact ⟨w, State.Headed.measured hrecords _ _⟩

/-- What a slot with a good header makes of the state as its blocks leave it: the service block, the marks, the stamps. -/
theorem State.slot_good_eq {s : State} (hs : s.settleRx = s) (h : Header) (f : RxFrame) :
    ∃ relay lost d u m r, s.slot (.good h) (some f) = { s.carried (.good h) (some f) with
      lfr := { (s.carried (.good h) (some f)).lfr with
        rx := { (s.carried (.good h) (some f)).lfr.rx with relay := relay, relayLost := lost, lastGood := some ⟨h.sent, f.arrival⟩ }
        counts := { (s.carried (.good h) (some f)).lfr.counts with discardedService := d } }
      stu := u, mp := m, rfm := r } ∧ u.removed = (s.carried (.good h) (some f)).stu.removed := by
  rw [State.slot_good hs]
  obtain ⟨relay, lost, d, u, m, heq, hrem⟩ := State.takeService_eq (s.carried (.good h) (some f)) (readService f.serviceBad f.service)
  obtain ⟨r, hmark⟩ := State.markHeader_eq
    ((s.carried (.good h) (some f)).takeService (readService f.serviceBad f.service)) h f.arrival
  rw [hmark, heq]
  exact ⟨relay, lost, d, u, m, r, rfl, hrem⟩

end Sys2Proof.Machine
end

section
/-! PROOFS. What a good header moves (R24, R33 to R41). -/

namespace Sys2Proof.Machine

/-- The framer in CONFIRM after a good header (R24). -/
theorem LfrRx.moved_confirm {x : LfrRx} (h : x.framer = .hunt ∨ (x.framer = .confirm ∧ x.run + 1 < 16)) :
    (x.moved true).framer = .confirm ∧ (x.moved true).run = if x.framer = .hunt then 1 else x.run + 1 := by
  unfold LfrRx.moved LfrRx.step
  rcases h with h | ⟨h, hrun⟩
  · simp [h]
  · simp [h, show x.run ≠ 15 by omega]

/-- The framer in UP after a good header (R24). -/
theorem LfrRx.moved_up {x : LfrRx} (hdue : x.upDue = none)
    (h : (x.framer = .confirm ∧ x.run + 1 = 16) ∨ x.framer = .up ∨ x.framer = .flywheel) :
    (x.moved true).framer = .up ∧ (x.moved true).run = (if x.framer = .up then x.run else 0)
      ∧ (x.moved true).upDue = (if x.framer = .up then none else some (decide (x.framer = .confirm))) := by
  unfold LfrRx.moved LfrRx.step
  rcases h with ⟨h, hrun⟩ | h | h
  · simp [h, show x.run = 15 by omega]
  · simp [h, hdue]
  · simp [h]

theorem State.classify_off {s : State} {f : RxFrame} (hwf : f.wellFormed = true) (hoff : s.lfr.rx.framer ≠ .off) {x : SlotHeader}
    (h : s.classify f = x) : exec (.rxFrameReceived f) s = .next (s.slot x (some f)).close := by
  show execRxFrameReceived f s = _
  unfold execRxFrameReceived
  rw [if_neg (by simp [hwf]), if_neg hoff, h]

/-- A slot with a good header that leaves the framer in CONFIRM, to the end of its event: the service block is all it brings
beside the records. -/
theorem State.slot_confirm_ends {s : State} (hs : s.calm) (hq : s.rxQuiet) {f : RxFrame} (hwf : f.wellFormed = true) {h : Header}
    (hclass : s.classify f = .good h) (hframer : s.lfr.rx.framer = .hunt ∨ (s.lfr.rx.framer = .confirm ∧ s.lfr.rx.run + 1 < 16)) :
    ∃ w u r m, s.Headed u (.good h) ((s.lfr.countSlot (.good h)).rx.gained h w)
      ∧ exec (.rxFrameReceived f) s = .next { u.takeService (readService f.serviceBad f.service) with
        lfr.rx.lastGood := some ⟨h.sent, f.arrival⟩, rfm := r, mp := m } := by
  have hsettle : s.settleRx = s := State.settleRx_quiet hs hq (by rcases hframer with h | ⟨h, -⟩ <;> simp [h])
  obtain ⟨w, hheaded⟩ := s.headed_gained h (some f)
  have hidle : (s.headed (.good h) (some f)).lfr.rx.framer.carries = false := by
    obtain ⟨p, v, q, m, hgained, -⟩ := LfrRx.gained_eq (s.lfr.countSlot (.good h)).rx h w
    obtain ⟨k, n, c, a, g, o, z, hu, -⟩ := hheaded
    have hconfirm := (LfrRx.moved_confirm (x := (s.lfr.countSlot (.good h)).rx) hframer).1
    rw [hu, hgained]
    show ((s.lfr.countSlot (.good h)).rx.moved true).framer.carries = false
    rw [hconfirm]
    rfl
  have hcarried : s.carried (.good h) (some f) = s.headed (.good h) (some f) := by
    unfold State.carried
    rw [State.takeCarriage_idle hidle]
    exact if_neg (by simp [hidle])
  have hslot := State.slot_good hsettle h f
  rw [hcarried] at hslot
  obtain ⟨relay, lost, d, v, m, hservice, hrem⟩ :=
    State.takeService_eq (s.headed (.good h) (some f)) (readService f.serviceBad f.service)
  obtain ⟨r, hmark⟩ := State.markHeader_eq
    ((s.headed (.good h) (some f)).takeService (readService f.serviceBad f.service)) h f.arrival
  rw [hmark] at hslot
  have hwork : (s.slot (.good h) (some f)).work = {} ∧ (s.slot (.good h) (some f)).stu.removed = [] := by
    obtain ⟨k, n, c, a, g, o, z, hu, -⟩ := hheaded
    rw [hslot, hservice]
    exact ⟨(congrArg State.work hu).trans hs.1, hrem.trans ((congrArg (fun t => t.stu.removed) hu).trans hs.2.1)⟩
  obtain ⟨m', hend⟩ := exec_ends hs
    (State.classify_off hwf (by rcases hframer with h | ⟨h, -⟩ <;> simp [h]) hclass)
    ((State.InnerOf.refl (Q := View.consistent) s).slot (.good h) (some f)) (State.finishWork_idle hwork.1 hwork.2)
  refine ⟨w, _, r, m', hheaded, ?_⟩
  rw [hend, hslot]

/-- The slot's event, whatever is due with it. -/
theorem State.slot_good_ends {s : State} (hs : s.calm) (hq : s.rxQuiet) (hdown : s.lfr.rx.framer ≠ .down) (h : Header) (f : RxFrame)
    {y : LfrRx} (hc : s.Carried (s.carried (.good h) (some f)) (.good h) y) :
    (s.slot (.good h) (some f)).finishWork.lfr.slotted = (s.slot (.good h) (some f)).lfr.slotted
      ∧ ((s.carried (.good h) (some f)).work = s.work →
        (s.slot (.good h) (some f)).finishWork = s.slot (.good h) (some f))
      ∧ (s.fmn.slipStays → (s.slot (.good h) (some f)).finishWork.lfr.rx = (s.slot (.good h) (some f)).lfr.rx) := by
  obtain ⟨relay, lost, d, u, m, r, hslot, hrem⟩ := State.slot_good_eq (State.settleRx_quiet hs hq hdown) h f
  obtain ⟨-, -, -, -, ⟨as, hwork⟩, hhalts, hstu⟩ := hc
  refine ⟨State.finishWork_slotted _, fun hidle => ?_, fun hstays => ?_⟩
  · refine State.finishWork_idle ?_ ?_
    · rw [hslot]
      exact hidle.trans hs.1
    · rw [hslot]
      exact (hrem.trans hstu).trans hs.2.1
  · have hs1 := hs.1
    obtain ⟨h1, h2, h3⟩ := hhalts (by rw [hs1]) hstays
    generalize s.carried (.good h) (some f) = v at hslot hwork h1 h2 h3
    have hends : State.Worked (· ≠ .reseek) (s.slot (.good h) (some f)) (s.slot (.good h) (some f)).finishWork := by
      rw [hslot]
      exact State.HaltsOnly.finishWork ⟨h1, h2, h3⟩ (by rw [hwork, hs1]) (by rw [hwork, hs1]) (by rw [hwork, hs1])
    exact (State.Worked.unreseeked (by simp) hends).rx

/-- A frame under the peer's hold reads no block (R33). -/
theorem State.carried_held {s : State} {h : Header} (hhold : h.hold = true) (f : Option RxFrame) :
    ∃ c, s.carried (.good h) f = { s.headed (.good h) f with stu.chk := c } := by
  have hidle : (s.headed (.good h) f).takeCarriage (.good h) ((f.map (·.blocks)).getD []) = s.headed (.good h) f := by
    rw [State.takeCarriage_good, if_neg (by simp [hhold])]
  unfold State.carried
  rw [hidle]
  dsimp only
  split
  · exact ⟨_, rfl⟩
  · exact ⟨_, rfl⟩

/-- The blocks of any other frame with a good header are read in UP (R33). -/
theorem State.carried_read {s : State} {h : Header} (hhold : h.hold = false) {f : RxFrame} (hf : f.blocks.length = 62)
    (hup : (s.headed (.good h) (some f)).lfr.rx.framer = .up) :
    (s.carried (.good h) (some f)).lfr.counts.blocksRead = (s.headed (.good h) (some f)).lfr.counts.blocksRead + 62 := by
  have hread : (s.headed (.good h) (some f)).takeCarriage (.good h) (((some f).map (·.blocks)).getD []) =
      (s.headed (.good h) (some f)).readBlocks f.blocks := by
    rw [State.takeCarriage_good, if_pos (by simp [hhold, hup, RxFramer.carries])]
    rfl
  unfold State.carried
  rw [hread]
  dsimp only
  split
  · exact State.readBlocks_read _ hf
  · exact State.readBlocks_read _ hf

/-- A slot with a good header that leaves the framer in UP (R24, R33). -/
theorem goodHeader_up {s : State} {f : RxFrame} {h : Header} (hs : s.calm) (hq : s.rxQuiet) (hwf : f.wellFormed = true)
    (hclass : s.classify f = .good h)
    (hframer : (s.lfr.rx.framer = .confirm ∧ s.lfr.rx.run + 1 = 16) ∨ s.lfr.rx.framer = .up ∨ s.lfr.rx.framer = .flywheel) :
    ∃ t, exec (.rxFrameReceived f) s = .next t
      ∧ t.lfr.counts.good = s.lfr.counts.good + 1 ∧ t.lfr.rx.lastGood = some ⟨h.sent, f.arrival⟩
      ∧ t.lfr.rx.frameNo = BitVec.ofNat 16 h.frameNo
      ∧ t.lfr.counts.blocksRead = (if h.hold = true then s.lfr.counts.blocksRead else s.lfr.counts.blocksRead + 62)
      ∧ (h.hold = true → t.tpt = s.tpt ∧ t.lfr.counts.mismatch = s.lfr.counts.mismatch
        ∧ t.lfr.counts.uncorrectable = s.lfr.counts.uncorrectable
        ∧ t.lfr.counts.malformedLabel = s.lfr.counts.malformedLabel)
      ∧ (h.hold = true ∨ s.fmn.slipStays →
        t.lfr.rx.framer = .up ∧ t.lfr.rx.run = (if s.lfr.rx.framer = .up then s.lfr.rx.run else 0)
        ∧ t.lfr.rx.upDue = (if s.lfr.rx.framer = .up then none else some (decide (s.lfr.rx.framer = .confirm)))
        ∧ (∃ p, t.lfr.rx.peer = some p ∧ p.state = h.state ∧ p.halted = h.halted ∧ p.hold = h.hold)
        ∧ (h.fieldsOk = true → t.lfr.rx.prof = h.prof ∧ t.lfr.rx.map = ⟨h.ver, h.cur⟩)) := by
  have hdown : s.lfr.rx.framer ≠ .down := by rcases hframer with ⟨h, -⟩ | h | h <;> simp [h]
  have hoff : s.lfr.rx.framer ≠ .off := by rcases hframer with ⟨h, -⟩ | h | h <;> simp [h]
  have hlen : f.blocks.length = 62 := by
    simp only [RxFrame.wellFormed, Bool.and_eq_true, decide_eq_true_eq] at hwf
    exact hwf.1.1.2
  obtain ⟨w, hheaded⟩ := s.headed_gained h (some f)
  obtain ⟨p, v, q, mp, hgained, hfields⟩ := LfrRx.gained_eq (s.lfr.countSlot (.good h)).rx h w
  obtain ⟨hup, hrun, hdue⟩ := LfrRx.moved_up (x := (s.lfr.countSlot (.good h)).rx) hq.1 hframer
  have hcarried : s.Carried (s.carried (.good h) (some f)) (.good h) _ := State.Headed.carried hheaded _
  obtain ⟨hslotted, hidle, hstays⟩ := State.slot_good_ends hs hq hdown h f hcarried
  obtain ⟨relay, lost, d, u, m, r, hslot, -⟩ := State.slot_good_eq (State.settleRx_quiet hs hq hdown) h f
  obtain ⟨m', hend⟩ := exec_ends hs (State.classify_off hwf hoff hclass)
    ((State.InnerOf.refl (Q := View.consistent) s).slot (.good h) (some f)) rfl
  have hheadup : (s.headed (.good h) (some f)).lfr.rx.framer = .up := by
    obtain ⟨k, n, c, a, g, o, z, hu, -⟩ := hheaded
    rw [hu, hgained]
    exact hup
  have hheadread : (s.headed (.good h) (some f)).lfr.counts.blocksRead = s.lfr.counts.blocksRead := by
    obtain ⟨k, n, c, a, g, o, z, hu, -⟩ := hheaded
    rw [hu]
    rfl
  have hread : (s.carried (.good h) (some f)).lfr.counts.blocksRead =
      if h.hold = true then s.lfr.counts.blocksRead else s.lfr.counts.blocksRead + 62 := by
    split
    · next hhold =>
      obtain ⟨c, hc⟩ := State.carried_held (s := s) hhold (some f)
      rw [hc]
      exact hheadread
    · next hhold =>
      rw [State.carried_read (by simpa using hhold) hlen hheadup, hheadread]
  obtain ⟨⟨n, hrx⟩, hgood, -, -, -, -, -⟩ := hcarried
  rw [hgained] at hrx
  have hno : (s.carried (.good h) (some f)).lfr.rx.frameNo = BitVec.ofNat 16 h.frameNo := by
    rw [hrx]
    rfl
  have hfin : (s.slot (.good h) (some f)).finishWork.lfr.slotted =
      (BitVec.ofNat 16 h.frameNo, some ⟨h.sent, f.arrival⟩,
        { (s.carried (.good h) (some f)).lfr.counts with discardedService := d, down := 0 }) := by
    rw [hslotted, hslot, ← hno]
    rfl
  have hheld : h.hold = true → (s.carried (.good h) (some f)).work = s.work ∧ (s.carried (.good h) (some f)).tpt = s.tpt
      ∧ (s.carried (.good h) (some f)).lfr.counts.mismatch = s.lfr.counts.mismatch
      ∧ (s.carried (.good h) (some f)).lfr.counts.uncorrectable = s.lfr.counts.uncorrectable
      ∧ (s.carried (.good h) (some f)).lfr.counts.malformedLabel = s.lfr.counts.malformedLabel := by
    intro hhold
    obtain ⟨c, hc⟩ := State.carried_held (s := s) hhold (some f)
    obtain ⟨k, n, c', a, g, o, z, hu, -⟩ := hheaded
    rw [hc, hu]
    exact ⟨rfl, rfl, rfl, rfl, rfl⟩
  have hkept : h.hold = true ∨ s.fmn.slipStays →
      (s.slot (.good h) (some f)).finishWork.lfr.rx = (s.slot (.good h) (some f)).lfr.rx := by
    rintro (hhold | hslip)
    · rw [hidle (hheld hhold).1]
    · exact hstays hslip
  have htpt : h.hold = true → (s.slot (.good h) (some f)).finishWork.tpt = s.tpt := by
    intro hhold
    rw [hidle (hheld hhold).1, hslot]
    exact (hheld hhold).2.1
  clear hidle hstays hslotted
  generalize (s.slot (.good h) (some f)).finishWork = t at hend hfin hkept htpt
  have hcounts := (congrArg (fun x => x.2.2) hfin :)
  dsimp only [Lfr.slotted] at hcounts
  refine ⟨_, hend, (congrArg LinkCounts.good hcounts).trans hgood, (congrArg (fun x => x.2.1) hfin :),
    (congrArg (fun x => x.1) hfin :), (congrArg LinkCounts.blocksRead hcounts).trans hread, fun hhold => ?_, fun hfree => ?_⟩
  · obtain ⟨-, -, hmis, hunc, hmal⟩ := hheld hhold
    exact ⟨htpt hhold, (congrArg LinkCounts.mismatch hcounts).trans hmis, (congrArg LinkCounts.uncorrectable hcounts).trans hunc,
      (congrArg LinkCounts.malformedLabel hcounts).trans hmal⟩
  · have hx := hkept hfree
    rw [hslot] at hx
    dsimp only at hx
    rw [hrx] at hx
    show t.lfr.rx.framer = _ ∧ _
    dsimp only
    rw [hx]
    exact ⟨hup, hrun, hdue, ⟨_, rfl, rfl, rfl, rfl⟩, hfields⟩

end Sys2Proof.Machine
end

section
/-! PROOFS. A frame with a good header (R22 to R26, R33 to R41). -/

namespace Sys2Proof.Machine

/-! ### Each service message -/

section
variable {s : State} {bad : Bool} {b : Bytes} (h : bad = false ∧ crcOk b = true)
include h

/-- A TEST_START arms the checker (R156). -/
theorem State.takeService_start (hk : field b 0 1 = 1) (hl : field b 1 1 = 18) : (s.takeService (readService bad b)).stu.chk =
    { s.stu.chk with
      armed := true, id := field b 2 1, mask := slice b 3 16, blocks := field b 19 1, window := 0, slots := 0, checked := 0
      bad := 0, seen := false, empty := 0, starts := s.stu.chk.starts + 1 } := by
  rw [readService_start h hk hl]
  rfl

/-- A TEST_REPORT with no run in the queue is stale (R152). -/
theorem State.takeService_stale (hk : field b 0 1 = 2) (hl : field b 1 1 = 7) (hq : s.stu.queue = []) :
    (s.takeService (readService bad b)).stu.stale = s.stu.stale + 1 := by
  rw [readService_report h hk hl]
  show (s.takeReport _ _ _).stu.stale = _
  unfold State.takeReport
  rw [Stu.active_empty hq]

/-- A TEST_REPORT of the RUNNING run counts into it (R152). -/
theorem State.takeService_report (hk : field b 0 1 = 2) (hl : field b 1 1 = 7) {r : Run} {rs : List Run}
    (hq : s.stu.queue = r :: rs) (hkind : r.entry.kind = .linkPattern) (hid : r.id = field b 2 1) (hr : r.state = .running) :
    (s.takeService (readService bad b)).stu = { s.stu with queue := { r with
      fig.checked := r.fig.checked + field b 3 2, fig.bad := r.fig.bad + field b 5 2, fig.reports := r.fig.reports + 1 } :: rs } := by
  rw [readService_report h hk hl]
  show (s.takeReport _ _ _).stu = _
  unfold State.takeReport
  rw [Stu.active_cons hq (by simp [hr])]
  dsimp only
  rw [if_pos ⟨hkind, hid, .inr (.inl hr)⟩]
  unfold State.setActive
  rw [hq]
  rfl

/-- A NOTE goes to the relay buffer while that has room, and is counted as lost otherwise (R41). -/
theorem State.takeService_note (hk : field b 0 1 = 3) (hl : 1 ≤ field b 1 1 ∧ field b 1 1 ≤ 32) :
    (s.lfr.rx.relay.length < 4 →
      (s.takeService (readService bad b)).lfr.rx.relay = s.lfr.rx.relay ++ [⟨slice b 2 (field b 1 1), s.dsu.time⟩]
      ∧ (s.takeService (readService bad b)).lfr.rx.relayLost = s.lfr.rx.relayLost)
    ∧ (4 ≤ s.lfr.rx.relay.length → (s.takeService (readService bad b)).lfr.rx.relay = s.lfr.rx.relay
      ∧ (s.takeService (readService bad b)).lfr.rx.relayLost = min 255 (s.lfr.rx.relayLost + 1)) := by
  rw [readService_note h hk hl]
  show (_ → (s.takeNote _).lfr.rx.relay = _ ∧ (s.takeNote _).lfr.rx.relayLost = _)
    ∧ (_ → (s.takeNote _).lfr.rx.relay = _ ∧ (s.takeNote _).lfr.rx.relayLost = _)
  unfold State.takeNote
  refine ⟨fun hroom => ?_, fun hfull => ?_⟩
  · rw [if_pos hroom]
    exact ⟨rfl, rfl⟩
  · rw [if_neg (by omega)]
    exact ⟨rfl, rfl⟩

end

/-- Settles O38: the slot's stages for the framer in CONFIRM and in UP, and the handling of one block by its branches. -/
theorem goodHeaderMovesFramer : Obligations.GoodHeaderMovesFramer := by
  unfold Obligations.GoodHeaderMovesFramer
  refine ⟨fun s f h hs hq hwf hclass hframer => ?_, fun s f h hs hq hwf hclass hframer => goodHeader_up hs hq hwf hclass hframer,
    fun s bb q b => ?_⟩
  · intro kind len whole
    obtain ⟨w, u, r, m, ⟨k, n, c, a, g, o, z, hu, -⟩, hend⟩ := State.slot_confirm_ends hs hq hwf hclass hframer
    obtain ⟨p, v, mp, mm, hgained, hfields⟩ := LfrRx.gained_eq (s.lfr.countSlot (.good h)).rx h w
    obtain ⟨hconfirm, hrun⟩ := LfrRx.moved_confirm (x := (s.lfr.countSlot (.good h)).rx) hframer
    rw [hgained] at hu
    obtain ⟨relay, lost, d, x, m', hservice, -⟩ := State.takeService_eq u (readService f.serviceBad f.service)
    have hstu : u.stu = s.stu := by rw [hu]
    have hrelay : u.lfr.rx.relay = s.lfr.rx.relay := by rw [hu]; rfl
    have hlost : u.lfr.rx.relayLost = s.lfr.rx.relayLost := by rw [hu]; rfl
    have hdisc : u.lfr.counts.discardedService = s.lfr.counts.discardedService := by rw [hu]; rfl
    have htime : u.dsu = s.dsu := by rw [hu]
    refine ⟨_, hend, ?_, ?_, ?_, ?_, rfl, ?_, ?_, ?_, ?_, ?_, ?_, ?_, ?_, ?_⟩
    · rw [hservice, hu]
      exact hconfirm
    · rw [hservice, hu]
      exact hrun
    · rw [hservice, hu]
      rfl
    · rw [hservice, hu]
      rfl
    · rw [hservice, hu]
      exact ⟨_, rfl, rfl, rfl, rfl⟩
    · rw [hservice, hu]
      exact hfields
    · rw [hservice, hu]
    · rw [hservice, hu]
      rfl
    · intro hbad
      rw [readService_discard hbad]
      exact ⟨congrArg (· + 1) hdisc, hrelay, hstu⟩
    · intro hwhole hk hl
      rw [readService_idle hwhole hk hl]
      exact ⟨hdisc, hrelay, hstu⟩
    · intro hwhole hk hl
      have hchk := State.takeService_start (s := u) hwhole hk hl
      rw [hstu] at hchk
      dsimp only
      rw [hchk]
      exact ⟨rfl, rfl, rfl, rfl, rfl, rfl, rfl, rfl, rfl, rfl, rfl⟩
    · intro hwhole hk hl
      refine ⟨fun hempty => ?_, fun r rs hqueue hkind hid hr => ?_⟩
      · exact (State.takeService_stale hwhole hk hl (hstu ▸ hempty)).trans (by rw [hstu])
      · have hreport := State.takeService_report (s := u) hwhole hk hl (hstu ▸ hqueue) hkind hid hr
        rw [hstu] at hreport
        dsimp only
        rw [hreport]
        exact ⟨rfl, rfl⟩
    · intro hwhole hk h1 h32
      have hnote := State.takeService_note (s := u) hwhole hk ⟨h1, h32⟩
      rw [hrelay, hlost, htime] at hnote
      exact hnote
  · intro o n l t gap
    have hgap (u : State) (hu : u.tpt = s.tpt) (ht : t.tpt = (u.gapAt o).tpt) : gap := by
      have htpt := u.gapAt_tpt o
      rw [hu] at htpt
      exact ⟨fun i hi => ht.trans (htpt.1 i hi), fun hi => ht.trans (htpt.2 hi)⟩
    refine ⟨State.takeBlock_read s bb q b, fun hunc => ?_, fun hgood hne => ?_, fun hgood heq hl => ?_, fun hgood heq hf hl => ?_⟩
    · obtain ⟨hcount, htpt, hchk⟩ := State.takeBlock_uncorrectable (s := s) hunc bb q
      exact ⟨hcount, hgap s rfl htpt, hchk⟩
    · have ht : t = _ := State.takeBlock_mismatch hgood hne
      obtain ⟨hmis, hsec, htpt, hstu⟩ :=
        State.countMismatch_counted { s with lfr.counts.blocksRead := s.lfr.counts.blocksRead + 1 }
      obtain ⟨hslip, hother⟩ :=
        State.countMismatch_slip { s with lfr.counts.blocksRead := s.lfr.counts.blocksRead + 1 }
      obtain ⟨hlfr, hfmn, hstu'⟩ :=
        State.gapAt_lfr ({ s with lfr.counts.blocksRead := s.lfr.counts.blocksRead + 1 } : State).countMismatch o
      rw [← ht] at hlfr hfmn hstu'
      refine ⟨?_, ?_, hgap _ htpt (congrArg State.tpt ht), ?_, fun h16 hrows => ?_, fun h16 => ?_⟩
      · rw [hlfr]
        exact hmis
      · rw [hlfr]
        exact hsec
      · rw [hstu', hstu]
      · show (t.fmn.row 4).active = true
        rw [hfmn]
        exact hslip h16 hrows
      · exact hfmn.trans (hother h16)
    · have ht : t = _ := State.takeBlock_malformed hgood heq hl
      obtain ⟨hlfr, -, hstu⟩ := State.gapAt_lfr ({ s with
        lfr.counts.blocksRead := s.lfr.counts.blocksRead + 1
        lfr.counts.malformedLabel := s.lfr.counts.malformedLabel + 1 } : State) o
      rw [← ht] at hlfr hstu
      refine ⟨?_, hgap { s with
        lfr.counts.blocksRead := s.lfr.counts.blocksRead + 1
        lfr.counts.malformedLabel := s.lfr.counts.malformedLabel + 1 } rfl (congrArg State.tpt ht), ?_⟩
      · rw [hlfr]
      · rw [hstu]
    · have ht : t = _ := State.takeBlock_deliver hgood heq hf hl
      refine ⟨fun i hi => ?_, fun hi => ?_, fun hi => ?_⟩
      all_goals
        rw [show s.lfr.rx.map.counts.owner q = _ from hi] at ht
        rw [ht]
      · exact ⟨rfl, rfl⟩

end Sys2Proof.Machine
end

section
/-! PROOFS. The work of an event ends (log 5): what is due at a state bounds the pieces of work that are left. -/

namespace Sys2Proof.Machine

/-! ### What is due -/

/-- What is due of actions and runs: each action, the start of the run at the head, and for each run its start, or its end
and the raise of PROVE_FAIL that may come with it. -/
def State.due (s : State) : Nat := s.work.acts.length + s.work.runDue.toNat + 3 * s.stu.queue.length

/-- An action is due at most for each response. -/
theorem Response.action_length (a : Response) (row : Nat) : (a.action row).length ≤ 1 := by
  cases a <;> simp [Response.action]

theorem State.raise_due (s : State) (x : Raise) : (s.raise x).due ≤ s.due + 1 := by
  obtain ⟨f, c, m, as, heq, has⟩ := State.raise_eq s x
  have hlen : as.length ≤ 1 := by
    rcases has with rfl | ⟨-, resp, -, rfl⟩
    · simp
    · exact Response.action_length _ _
  rw [heq]
  simp only [State.due, List.length_append]
  omega

theorem State.raiseNow_due (s : State) (r d : Nat) : (s.raiseNow r d).due ≤ s.due + 1 := State.raise_due s _

theorem State.clear_due (s : State) (r : Nat) : (s.clear r).due = s.due := by
  obtain ⟨f, m, heq⟩ := State.clear_eq s r
  rw [heq]
  rfl

theorem State.Tells.due {s t : State} (h : s.Tells t) : t.due = s.due := by
  obtain ⟨x, rfl, -⟩ := h
  rfl

theorem State.wantAlloc_due (s : State) (t : Trigger) : (s.wantAlloc t).due = s.due := ((State.Tells.refl s).wantAlloc t).due

theorem State.bar_due (s : State) (i : Fin 4) (c : TenantCause) : (s.bar i c).due = s.due := by
  unfold State.bar
  split
  case h_1 | h_2 | h_3 => exact (((State.Tells.refl s).modTenant i _).moveTenant i _ c).due
  all_goals rfl

/-- A list of pieces of which each adds at most one. -/
theorem State.fold_due {α : Type} {f : State → α → State} (hf : ∀ t a, (f t a).due ≤ t.due + 1) (l : List α) :
    ∀ s : State, (l.foldl f s).due ≤ s.due + l.length := by
  induction l with
  | nil => exact fun s => le_rfl
  | cons a as ih =>
    intro s
    have hstep := hf s a
    have hrest := ih (f s a)
    simp only [List.foldl_cons, List.length_cons]
    omega

/-! ### The loss of a reference -/

theorem State.judgeFitness_due (s : State) (c : TenantCause) (i : Fin 4) : (s.judgeFitness c i).due ≤ s.due + 1 := by
  have htells (t : State) (f : Tenant → Tenant) : ((t.modTenant i f).tellTenant i c).due = t.due :=
    (((State.Tells.refl t).modTenant i f).tellTenant i c).due
  have hmove (t : State) (st : TenantState) : (t.moveTenant i st c).due = t.due := ((State.Tells.refl t).moveTenant i st c).due
  unfold State.judgeFitness
  dsimp only
  split
  · exact Nat.le_succ _
  · split
    · split
      · exact (htells s _).le.trans (Nat.le_succ _)
      · exact Nat.le_succ _
    · split
      · exact Nat.le_succ _
      · split
        · split
          · refine (State.raiseNow_due _ _ _).trans ?_
            rw [hmove, htells]
          · rw [hmove, htells]
            exact Nat.le_succ _
        · exact (htells s _).le.trans (Nat.le_succ _)

theorem State.handQuality_due (s : State) : s.handQuality.due ≤ s.due + 4 :=
  State.fold_due (f := fun s i => s.judgeFitness .fitness i) (fun t i => State.judgeFitness_due t _ i) tenants s

theorem State.moveLoop_due (s : State) (l : LoopState) (c : TimeCause) : (s.moveLoop l c).due ≤ s.due + 4 :=
  State.handQuality_due _

theorem State.loopOnSelection_due (s : State) (a b : Option Ref) : (s.loopOnSelection a b).due ≤ s.due + 4 := by
  unfold State.loopOnSelection
  split
  · split
    · exact State.moveLoop_due s _ _
    · exact Nat.le_add_right _ _
  · split
    · exact State.moveLoop_due s _ _
    · exact Nat.le_add_right _ _
  · exact Nat.le_add_right _ _

theorem State.select_due (s : State) (r : Option Ref) : (s.select r).due ≤ s.due + 5 := by
  have hloop (t : State) (a b : Option Ref) (ht : t.due ≤ s.due + 1) :
      (((t.noteRef .g).noteRef .l).loopOnSelection a b).due ≤ s.due + 5 :=
    (State.loopOnSelection_due _ a b).trans (Nat.add_le_add_right ht 4)
  unfold State.select
  dsimp only
  split
  · exact Nat.le_add_right _ _
  · refine hloop _ _ _ ?_
    split
    · exact State.raiseNow_due _ _ _
    · exact (State.clear_due _ _).le.trans (Nat.le_succ _)
    · exact Nat.le_succ _

theorem State.refDown_due (s : State) (r : Ref) : (s.refDown r).due ≤ s.due + 5 := by
  have hupdate (t : State) (ht : t.due = s.due) : t.updateSelection.due ≤ s.due + 5 := by
    unfold State.updateSelection
    split
    · split
      · exact ht.le.trans (Nat.le_add_right _ _)
      · exact (State.select_due t _).trans (by rw [ht])
    · exact (State.select_due t _).trans (by rw [ht])
  unfold State.refDown
  split
  · exact hupdate _ (by simp [State.due])
  · exact hupdate _ (by simp [State.due])
  · exact Nat.le_add_right _ _
  · exact Nat.le_add_right _ _

/-! ### The end of a run -/

theorem State.giveBack_due (s : State) (r : Run) (c : RunCause) : (s.giveBack r c).due = s.due := by
  obtain ⟨k, a, h⟩ := State.giveBack_eq s r c
  rw [h]
  rfl

theorem State.removeRuns_due (s : State) (w : Run → Bool) : (s.removeRuns w).due ≤ s.due := by
  obtain ⟨g, m, h⟩ := State.removeRuns_eq s w
  have hlen := List.length_filter_le (fun r => !(decide (r.state = .queued) && w r)) s.stu.queue
  rw [h]
  simp only [State.due]
  omega

/-- A run's end takes it from what is due, but for the next run's start and a raise of TEST_FAIL. -/
theorem State.finishRun_due {s : State} (hq : s.stu.queue ≠ []) (r : Run) (o : RunOutcome) (c : RunCause) :
    (s.finishRun r o c).due + 2 ≤ s.due + (if o = .fail then 1 else 0) := by
  have hlen : s.stu.queue.tail.length + 1 = s.stu.queue.length := by
    have := List.length_pos_iff.2 hq
    simp only [List.length_tail]
    omega
  have hraise : ((s.logRun r o c).settleOutcome r o).due ≤ s.due + (if o = .fail then 1 else 0) := by
    cases o with
    | aborted => exact le_rfl
    | fail =>
      unfold State.settleOutcome
      dsimp only
      split
      · exact State.raiseNow_due _ _ _
      · exact Nat.le_succ _
    | pass =>
      unfold State.settleOutcome
      dsimp only
      split
      · exact (State.clear_due _ _).le
      · exact le_rfl
  have hqueue : ((s.logRun r o c).settleOutcome r o).stu.queue = s.stu.queue := by
    obtain ⟨d, x, heq, -⟩ := State.settleOutcome_eq (s.logRun r o c) r o
    rw [heq]
    rfl
  have hfin : (s.finishRun r o c).due = ((s.logRun r o c).settleOutcome r o).work.acts.length
      + (!s.stu.queue.tail.isEmpty).toNat + 3 * s.stu.queue.tail.length := by
    rw [← hqueue]
    rfl
  have hbool := Bool.toNat_le (!s.stu.queue.tail.isEmpty)
  rw [hfin]
  unfold State.due at hraise ⊢
  rw [hqueue] at hraise
  omega

theorem State.abortQuietly_due (s : State) (c : PhaseCause) (w : Run → Bool) : (s.abortQuietly c w).due ≤ s.due := by
  unfold State.abortQuietly
  split
  · next r hr =>
    split
    · have hq : (s.giveBack r (phaseAbortCause r c)).stu.queue ≠ [] := by
        rw [State.giveBack_queue, Stu.active_queue hr]
        simp
      have hfin := State.finishRun_due hq r .aborted (phaseAbortCause r c)
      rw [State.giveBack_due, if_neg (by simp)] at hfin
      exact Nat.le_of_add_right_le hfin
    · exact le_rfl
  · exact le_rfl

theorem State.stopRuns_due (s : State) (c : PhaseCause) : (s.stopRuns c).due ≤ s.due :=
  (State.removeRuns_due _ _).trans (State.abortQuietly_due s c _)

theorem State.roundOver_due (s : State) (c : PhaseCause) : (s.roundOver c).due ≤ s.due :=
  (State.removeRuns_due _ _).trans (State.abortQuietly_due s c _)

/-! ### The moves between phases -/

theorem State.forTenants_tells {f : State → Fin 4 → State} (hf : ∀ t i, State.Tells t (f t i)) (s : State) :
    s.Tells (s.forTenants f) := by
  have hlist (l : List (Fin 4)) : ∀ t : State, t.Tells (l.foldl f t) := by
    induction l with
    | nil => exact State.Tells.refl
    | cons i is ih => exact fun t => (hf t i).trans (ih _)
  exact hlist tenants s

theorem State.leaveEffects_due (s : State) (old p : Phase) (c : PhaseCause) : (s.leaveEffects old p c).due ≤ s.due := by
  cases old with
  | prove =>
    show (State.clear (if p = .service then s.roundOver c else s.stopRuns c) rowProveFail).due ≤ _
    rw [State.clear_due]
    split
    · exact State.roundOver_due s c
    · exact State.stopRuns_due s c
  | service =>
    have hheld := (State.forTenants_tells (fun t i => (State.Tells.refl t).hold .phase i) s).due
    exact (State.stopRuns_due _ c).trans hheld.le
  | load | align | seek | recover | halt => exact le_rfl

theorem State.movePhase_due (s : State) (p : Phase) (c : PhaseCause) (v : ProveState) (n : Nat) :
    (s.movePhase p c v n).due ≤ s.due := by
  unfold State.movePhase
  dsimp only
  refine (State.leaveEffects_due _ _ p c).trans ?_
  by_cases h : s.spc.phase = .align
  · rw [if_pos h]
    exact le_rfl
  · rw [if_neg h]
    exact le_rfl

theorem State.enterService_due (s : State) (c : PhaseCause) (v : ProveState) (n : Nat) :
    (s.enterService c v n).due ≤ s.due :=
  (State.forTenants_tells (fun t i => (State.Tells.refl t).tryActive .phase i) _).due.le.trans (State.movePhase_due s _ c v n)

theorem State.enterHalt_due (s : State) (c : PhaseCause) : (s.enterHalt c).due ≤ s.due := by
  obtain ⟨x, i, m, heq, -, -⟩ := State.enterHalt_eq s c
  have hmove := State.movePhase_due s .halt c .idle 0
  rw [heq]
  exact hmove

/-! ### Rounds, and the runs that end -/

theorem State.roundPassed_due (s : State) : s.roundPassed.due ≤ s.due := by
  unfold State.roundPassed
  split
  · exact State.enterService_due s _ _ _
  · exact le_rfl

theorem State.roundFailed_due (s : State) (i : Nat) : (s.roundFailed i).due ≤ s.due + 1 := by
  unfold State.roundFailed
  split
  · split
    · exact Nat.le_succ _
    · exact State.raiseNow_due _ _ _
  · exact Nat.le_succ _

/-- A run's end leaves no more due than there was. -/
theorem State.endRun_due {s : State} (hq : s.stu.queue ≠ []) (r : Run) (o : RunOutcome) (c : RunCause) :
    (s.endRun r o c).due + 1 ≤ s.due + (if o = .fail then 1 else 0) := by
  have hfin := State.finishRun_due hq r o c
  unfold State.endRun
  dsimp only
  generalize s.finishRun r o c = t at hfin
  split
  · split
    · split
      · omega
      · have := State.roundPassed_due t.noteTest
        have hnote : t.noteTest.due = t.due := rfl
        omega
    · have hfail := State.roundFailed_due (t.removeRuns (·.round)).noteTest r.idx
      have hremove := State.removeRuns_due t (·.round)
      have hnote : (t.removeRuns (·.round)).noteTest.due = (t.removeRuns (·.round)).due := rfl
      omega
  · omega

theorem State.abortRun_due {s : State} (hq : s.stu.queue ≠ []) (r : Run) (c : RunCause) : (s.abortRun r c).due + 1 ≤ s.due := by
  have hend := State.endRun_due (s := s.giveBack r c) (by rw [State.giveBack_queue]; exact hq) r .aborted c
  rw [State.giveBack_due, if_neg (by simp)] at hend
  exact hend

theorem State.settleRelease_due (s : State) : s.settleRelease.due = s.due := by
  unfold State.settleRelease
  split
  · exact State.wantAlloc_due _ _
  · rfl

theorem State.active_queue {s : State} {r : Run} (h : s.stu.active = some r) : s.stu.queue ≠ [] := by
  rw [Stu.active_queue h]
  simp

theorem State.abortGranted_due (s : State) (c : RunCause) : (s.abortGranted c).due ≤ s.due := by
  have hrelease := State.settleRelease_due s
  unfold State.abortGranted
  dsimp only
  split
  · next r hr =>
    split
    · have := State.abortRun_due (State.active_queue hr) r c
      omega
    · exact hrelease.le
  · exact hrelease.le

theorem State.testDown_due (s : State) : s.testDown.due ≤ s.due := by
  have hrelease := State.settleRelease_due s
  unfold State.testDown
  dsimp only
  split
  · next r hr =>
    split
    · have := State.abortRun_due (State.active_queue hr) r .linkDown
      exact (Nat.le_of_succ_le this).trans hrelease.le
    · exact hrelease.le
  · exact hrelease.le

end Sys2Proof.Machine
end

section
/-! PROOFS. An event of a state with few runs is done with its work (log 5). -/

namespace Sys2Proof.Machine

/-- A receive framer that a RESEEK restarts through DOWN. -/
def RxFramer.falls (x : RxFramer) : Bool := decide (x = .up) || decide (x = .flywheel) || decide (x = .down)

/-- What is due, and the raises that a RESEEK may still bring: REF_LOSS and a HOLDOVER_LIMIT of each tenant. -/
def State.load (s : State) : Nat := s.due + 5 * s.lfr.rx.framer.falls.toNat

/-! ### A RESEEK -/

theorem State.adaptDown_due (s : State) : s.adaptDown.due = s.due := by
  have hwish (t : State) : (t.setWish 0).due = t.due := by
    unfold State.setWish
    split <;> rfl
  unfold State.adaptDown
  dsimp only
  rw [hwish, State.clear_due]
  rfl

/-- The peer's loss in a phase that raises no LINK_LOSS. -/
theorem State.linkLost_due {s : State} (h : s.spc.phase = .seek) : s.linkLost.due = s.due := by
  have hphase : s.dropPeer.noteLink.spc.phase = .seek := by simpa using h
  unfold State.linkLost State.raiseLinkLoss
  rw [if_neg (by rw [hphase]; simp)]
  simp only [State.due, State.noteLink_frame, State.dropPeer_frame]

theorem State.peerLost_due {s : State} (h : s.spc.phase = .seek) : s.peerLost.due ≤ s.due + 5 := by
  have hadapt : s.linkLost.adaptDown.due = s.due := (State.adaptDown_due _).trans (State.linkLost_due h)
  generalize ht : s.linkLost.adaptDown = t at hadapt
  have hlost : s.peerLost =
      ({ (if s.lfr.rx.prof = 0 then t else t.noteProfile) with rfm.sec.framerOk := false } : State).refDown .l := by
    rw [← ht]
    rfl
  rw [hlost]
  refine (State.refDown_due _ .l).trans (Nat.add_le_add_right (le_of_eq ?_) 5)
  split
  · exact hadapt
  · exact hadapt

/-- A DOWN in a phase that it does not move. -/
theorem State.rxDown_due {s : State} (h : s.spc.phase = .seek) : s.rxDown.due ≤ s.due + 5 := by
  have hpeer := State.peerLost_due h
  have hphase : s.peerLost.phaseDown = s.peerLost := by
    unfold State.phaseDown
    rw [(State.peerLost_kept s).1, h]
  rw [State.rxDown_eq, hphase]
  generalize s.peerLost = t at hpeer
  exact (State.testDown_due t).trans hpeer

theorem State.restartRx_load {s : State} (h : s.spc.phase = .seek) : s.restartRx.load ≤ s.load := by
  have hdown (hf : s.lfr.rx.framer.falls = true) : s.rxDown.load ≤ s.load := by
    have hdue := State.rxDown_due h
    have hhunt : s.rxDown.lfr.rx.framer = .hunt := by
      rw [State.rxDown_eq]
      rfl
    unfold State.load
    rw [hhunt, hf]
    exact hdue
  unfold State.restartRx
  split
  case h_1 hf | h_2 hf | h_3 hf => exact hdown (by rw [hf]; rfl)
  case h_4 hf =>
    unfold State.load
    rw [hf]
    exact le_rfl
  all_goals exact le_rfl

theorem State.reseek_load (s : State) (c : PhaseCause) : (s.reseek c).load ≤ s.load := by
  have hseek : (s.enterSeek c).spc.phase = .seek := by
    unfold State.enterSeek
    rw [State.movePhase_spc]
  have hrestart : (({ s.enterSeek c with work.phase := none } : State).restartRx).load ≤ (s.enterSeek c).load :=
    State.restartRx_load (s := { s.enterSeek c with work.phase := none }) hseek
  have hmove : (s.enterSeek c).load ≤ s.load := by
    have hdue := State.movePhase_due s .seek c .idle 0
    have hlfr : (s.enterSeek c).lfr = s.lfr := by simp
    unfold State.load
    rw [hlfr]
    exact Nat.add_le_add_right hdue _
  exact hrestart.trans hmove

/-! ### A piece of the work left -/

theorem State.Worked.framer {s t : State} (h : State.Worked (· ≠ .reseek) s t) : t.lfr.rx.framer = s.lfr.rx.framer :=
  congrArg LfrRx.framer (State.Worked.unreseeked (by simp) h).rx

theorem State.load_of {s t : State} {k n : Nat} (hw : State.Worked (· ≠ .reseek) s t) (hd : t.due + k ≤ s.due + n) :
    t.load + k ≤ s.load + n := by
  unfold State.load
  rw [hw.framer]
  omega

/-- A response's action leaves no more to be done than there was behind it. -/
theorem State.act_load (s : State) (a : Action) : (s.act a).load ≤ s.load := by
  have hrefl := State.Worked.refl (C := (· ≠ .reseek)) s
  cases a with
  | bar i => exact State.load_of (k := 0) (n := 0) (hrefl.act (.bar i) (by simp [Action.cause])) (State.bar_due s i _).le
  | reseek =>
    show (if _ then s.reseek .reseekResponse else s).load ≤ _
    split
    · exact State.reseek_load s _
    · exact le_rfl
  | halt =>
    refine State.load_of (k := 0) (n := 0) (hrefl.act .halt (by simp [Action.cause])) ?_
    show (if s.spc.phase = .halt then s else s.enterHalt .haltResponse).due ≤ _
    split
    · exact le_rfl
    · exact State.enterHalt_due s _

theorem State.startRun_due (s : State) : s.startRun.due ≤ s.due := by
  have hset (r r' : Run) (rs : List Run) (hq : s.stu.queue = r :: rs) : (s.setActive r').due = s.due := by
    unfold State.setActive State.due
    simp [hq]
  have hended (r : Run) (o : RunOutcome) (c : RunCause) :
      ((s.setActive r).noteTest.endRun r o c).due ≤ (s.setActive r).noteTest.due := by
    have hend := State.endRun_due (s := (s.setActive r).noteTest) (by simp [State.setActive]) r o c
    split at hend <;> omega
  unfold State.startRun
  split
  · exact le_rfl
  · next r rs hq =>
    split
    · split
      · have hwant := State.wantAlloc_due { s.setActive { r with state := .waiting, grantLeft := some Config.grantFrames } with
          sha.tReq := r.entry.blocks } .test
        exact hwant.le.trans (hset r _ rs hq).le
      · exact (hset r _ rs hq).le
      · generalize ({ r with state := .running, fig.gateCount := s.tlm.gateCount, fig.gates := s.tlm.last3 } : Run) = r'
        have hsame : (s.setActive r').noteTest.due = s.due := hset r r' rs hq
        exact (hended r' _ _).trans hsame.le
    · exact le_rfl

/-- A piece of the work left, of actions and runs. -/
theorem State.actStep_load {s : State} (h : s.work.acts ≠ [] ∨ s.work.runDue = true) : s.actStep.load + 1 ≤ s.load := by
  unfold State.actStep
  split
  · next a as ha =>
    have hact := State.act_load { s with work.acts := as } a
    have hless : ({ s with work.acts := as } : State).load + 1 = s.load := by
      simp only [State.load, State.due, ha, List.length_cons]
      omega
    omega
  · next ha =>
    have hdue : s.work.runDue = true := by simpa [ha] using h
    rw [if_pos hdue]
    have hw := State.Worked.startRun (State.Worked.refl (C := (· ≠ .reseek)) { s with work.runDue := false }) (.inl (by simp))
    have hload := State.load_of (k := 0) (n := 0) hw (State.startRun_due _)
    have hless : ({ s with work.runDue := false } : State).load + 1 = s.load := by
      simp only [State.load, State.due, hdue]
      simp
      omega
    omega

theorem State.actStep_settled {s : State} (h : s.settled) : s.actStep = s := by
  obtain ⟨ha, hd⟩ := h
  unfold State.actStep
  rw [ha]
  exact if_neg (by simp [hd])

theorem State.not_settled {s : State} (h : ¬ s.settled) : s.work.acts ≠ [] ∨ s.work.runDue = true := by
  by_contra hno
  exact h (by simpa [State.settled] using hno)

theorem State.doActs_load (n : Nat) : ∀ s : State, (State.doActs n s).load ≤ s.load := by
  induction n with
  | zero => exact fun s => le_rfl
  | succ n ih =>
    intro s
    refine (ih s.actStep).trans ?_
    by_cases h : s.settled
    · rw [State.actStep_settled h]
    · exact Nat.le_of_succ_le (State.actStep_load (State.not_settled h))

theorem State.setActive_due {s : State} {r : Run} (hr : s.stu.active = some r) (r' : Run) : (s.setActive r').due = s.due := by
  rw [State.due, State.due, State.setActive, Stu.active_queue hr]
  rfl

theorem State.offer_due (s : State) (m : SvcMsg) : (s.offer m).due = s.due ∧ (s.offer m).work = s.work := by
  unfold State.offer
  split <;> exact ⟨rfl, rfl⟩

theorem State.grantGiven_due (s : State) : s.grantGiven.due = s.due ∧ s.grantGiven.work = s.work := by
  unfold State.grantGiven
  split
  · next r hr =>
    split
    · obtain ⟨hdue, hwork⟩ := State.offer_due (s.setActive { r with state := .starting, grantLeft := none })
        (.testStart r.id r.entry.mask r.entry.blocks)
      exact ⟨hdue.trans (State.setActive_due hr _), hwork⟩
    · exact ⟨rfl, rfl⟩
  · exact ⟨rfl, rfl⟩

theorem State.revokeRun_due {s : State} {r : Run} (hr : s.stu.active = some r) : (s.revokeRun r).due + 1 ≤ s.due := by
  unfold State.revokeRun
  exact State.abortRun_due (s := { s with stu.lateRelease := s.stu.lateRelease || s.releaseStands }) (State.active_queue hr) r .revoked

/-- A computation ends the work left, or has ended a run. -/
theorem State.compute_due (s : State) (t : Trigger) :
    (s.compute t).due ≤ s.due ∧ ((s.compute t).work = s.work ∨ (s.compute t).due + 1 ≤ s.due) := by
  obtain ⟨a, ha⟩ := State.computeShare_eq s t (share s.shareIn)
  unfold State.compute
  dsimp only
  rw [ha]
  split
  · obtain ⟨hdue, hwork⟩ := State.grantGiven_due (s.withAlloc a)
    exact ⟨hdue.le, .inl hwork⟩
  · split
    · split
      · next r hr =>
        have hdue : ((s.withAlloc a).revokeRun r).due + 1 ≤ s.due := State.revokeRun_due hr
        exact ⟨Nat.le_of_succ_le hdue, .inr hdue⟩
      · exact ⟨le_rfl, .inl rfl⟩
    · exact ⟨le_rfl, .inl rfl⟩

/-- No piece of the work is left. -/
def State.finished (s : State) : Prop := s.settled ∧ s.work.alloc = none

theorem State.workStep_load {s : State} (h : ¬ s.finished) :
    s.workStep.load ≤ s.load ∧ (s.workStep.finished ∨ s.workStep.load + 1 ≤ s.load) := by
  by_cases hs : s.settled
  · cases hn : s.work.alloc with
    | none => exact absurd ⟨hs, hn⟩ h
    | some t =>
      rw [State.workStep_alloc hs hn]
      have hw := (State.Worked.refl (C := (· ≠ .reseek)) { s with work.alloc := none }).compute (.inl (by simp)) t
      obtain ⟨hle, hend⟩ := State.compute_due { s with work.alloc := none } t
      refine ⟨State.load_of (s := { s with work.alloc := none }) (k := 0) (n := 0) hw hle, ?_⟩
      rcases hend with hwork | hless
      · left
        unfold State.finished State.settled
        rw [hwork]
        exact ⟨hs, rfl⟩
      · exact .inr (State.load_of (s := { s with work.alloc := none }) (n := 0) hw hless)
  · have hbusy := State.not_settled hs
    have hstep : s.workStep = s.actStep := if_neg (by rcases hbusy with h | h <;> simp [h])
    have hless := State.actStep_load hbusy
    rw [hstep]
    exact ⟨Nat.le_of_succ_le hless, .inr hless⟩

/-- The work left is done within as many pieces as there are, and a last computation. -/
theorem State.doWork_finishes (n : Nat) : ∀ s : State, s.finished ∨ s.load + 1 ≤ n →
    (State.doWork n s).finished ∧ (State.doWork n s).load ≤ s.load := by
  induction n with
  | zero => exact fun s h => ⟨h.resolve_right (by omega), le_rfl⟩
  | succ n ih =>
    intro s h
    by_cases hdone : s.finished
    · rw [State.doWork_done hdone.1 hdone.2]
      exact ⟨hdone, le_rfl⟩
    · have hload := h.resolve_left hdone
      obtain ⟨hle, hstep⟩ := State.workStep_load hdone
      obtain ⟨hfin, hrest⟩ := ih s.workStep (hstep.imp_right (by omega))
      exact ⟨hfin, hrest.trans hle⟩

/-- The end of an event with few pieces of work leaves none. -/
theorem State.finishWork_finishes {s : State} (h : s.load ≤ 47) :
    s.finishWork.work = {} ∧ s.finishWork.stu.removed = [] ∧ s.finishWork.load ≤ s.load := by
  obtain ⟨⟨⟨ha, hd⟩, hn⟩, hle⟩ := State.doWork_finishes 48 s (.inr (by omega))
  rw [State.finishWork_endEvent]
  generalize State.doWork 48 s = t at ha hd hn hle
  refine ⟨?_, rfl, hle⟩
  show ({ t.work with phase := none } : Work) = {}
  rw [← ha, ← hd, ← hn]

end Sys2Proof.Machine
end

section
/-! PROOFS. What is left to be done when a frame is sent: nothing (R20; log 41). -/

namespace Sys2Proof.Machine

/-- A piece of the frame's building adds nothing to be done. -/
theorem State.load_le {s t : State} (hd : t.due ≤ s.due) (hf : t.lfr.rx.framer = s.lfr.rx.framer) : t.load ≤ s.load := by
  unfold State.load
  rw [hf]
  exact Nat.add_le_add_right hd _

theorem State.drainRun_load (s : State) : s.drainRun.load ≤ s.load := by
  refine State.load_le ?_ (by simp)
  unfold State.drainRun
  split
  · next r hr =>
    split
    · have hwant := State.wantAlloc_due { s.setActive { r with state := .draining, drainLeft := some Config.drainFrames } with
        sha.tReq := 0, sha.grant := none } .test
      exact hwant.le.trans (State.setActive_due hr _).le
    · exact (State.settleRelease_due s).le
  · exact (State.settleRelease_due s).le

theorem State.periodEnd_load (s : State) : s.periodEnd.load ≤ s.load := by
  unfold State.periodEnd
  split
  · refine State.load_le ((State.wantAlloc_due _ _).le.trans le_rfl) (by simp)
  · exact le_rfl

theorem State.abortGranted_load (s : State) (c : RunCause) : (s.abortGranted c).load ≤ s.load :=
  State.load_le (State.abortGranted_due s c) (by simp)

theorem State.sampleHold_load (s : State) (hold : Bool) : (s.sampleHold hold).load ≤ s.load := by
  unfold State.sampleHold
  split
  · exact le_rfl
  · dsimp only
    split
    · exact State.abortGranted_load _ _
    · exact le_rfl

theorem State.haltTx_load (s : State) : s.haltTx.load = s.load ∧ s.haltTx.work = s.work ∧ s.haltTx.stu = s.stu := by
  unfold State.haltTx
  dsimp only
  split <;> exact ⟨rfl, rfl, rfl⟩

theorem State.moveTx_load (s : State) : s.moveTx.load ≤ s.load := by
  unfold State.moveTx
  dsimp only
  split
  · exact le_rfl
  · exact (State.haltTx_load s).1.le
  · split
    · exact State.abortGranted_load _ _
    · exact le_rfl
  · split <;> exact le_rfl

theorem State.profileSwitch_load (s : State) : s.profileSwitch.load = s.load := by
  unfold State.profileSwitch
  split
  · split <;> rfl
  · rfl

theorem State.mapSwitch_load (s : State) : s.mapSwitch.load ≤ s.load := by
  have htaken (t : State) (n : Nat) : (t.mapTaken n).load ≤ t.load := by
    refine State.load_le ?_ (by simp)
    unfold State.mapTaken
    split
    · next r hr =>
      split
      · exact (State.setActive_due hr _).le
      · exact le_rfl
    · exact le_rfl
  unfold State.mapSwitch
  split
  · split
    · exact htaken _ _
    · exact le_rfl
  · exact le_rfl

theorem State.retestTx_load (s : State) : s.retestTx.load = s.load ∧ s.retestTx.work = s.work ∧ s.retestTx.stu = s.stu := by
  unfold State.retestTx
  split
  · exact State.haltTx_load s
  · split <;> exact ⟨rfl, rfl, rfl⟩
  all_goals exact ⟨rfl, rfl, rfl⟩

theorem State.scheduleCheck_load (s : State) : s.scheduleCheck.load ≤ s.load := by
  unfold State.scheduleCheck
  split
  · exact State.load_le (State.wantAlloc_due _ _).le (by simp)
  · exact le_rfl

/-- The frame is sent with the sampled hold and the frame's number, once nothing is left to be done. -/
theorem State.build_frame {s : State} (hold : Bool) (hload : s.load ≤ 47) (hon : s.lfr.tx.framer ≠ .off) :
    ∃ t : State, s.build hold = t.emitFrame ∧ t.work = {} ∧ t.stu.removed = [] ∧ t.lfr.tx.hold = hold
      ∧ t.lfr.tx.frameNo = s.lfr.tx.frameNo := by
  have hfirst := (State.Sending.refl ({ s with pins.carriageHold := hold, lfr.tx.due := false } : State)).settleTx
  have hon' := hfirst.on hon
  have hsettle : ({ s with pins.carriageHold := hold, lfr.tx.due := false } : State).settleTx.load ≤ 47 := by
    have hdrain := (State.drainRun_load { s with pins.carriageHold := hold, lfr.tx.due := false }).trans hload
    have hdrained := (State.finishWork_finishes hdrain).2.2.trans hdrain
    have hperiod := (State.periodEnd_load _).trans hdrained
    exact (State.finishWork_finishes hperiod).2.2.trans hperiod
  unfold State.build
  dsimp only
  rw [if_neg hon']
  generalize ({ s with pins.carriageHold := hold, lfr.tx.due := false } : State).settleTx = t at hfirst hon' hsettle ⊢
  have hswitched := (State.Sending.sampleHold t hold).moveTx.profileSwitch.mapSwitch
  have hswitchload : (t.sampleHold hold).moveTx.profileSwitch.mapSwitch.load ≤ 47 :=
    (State.mapSwitch_load _).trans ((State.profileSwitch_load _).le.trans
      ((State.moveTx_load _).trans ((State.sampleHold_load t hold).trans hsettle)))
  generalize (t.sampleHold hold).moveTx.profileSwitch.mapSwitch = u at hswitched hswitchload ⊢
  have hacts := (hswitched.doActs 48).retestTx
  have hactload : (State.doActs 48 u).retestTx.load ≤ 47 :=
    (State.retestTx_load _).1.le.trans ((State.doActs_load 48 u).trans hswitchload)
  generalize (State.doActs 48 u).retestTx = v at hacts hactload ⊢
  have hcheck : State.Sending { t with lfr.tx.hold := hold }
      (if t.lfr.tx.framer = .normal then v.scheduleCheck else v) := by
    split
    · exact hacts.scheduleCheck
    · exact hacts
  have hcheckload : (if t.lfr.tx.framer = .normal then v.scheduleCheck else v).load ≤ 47 := by
    split
    · exact (State.scheduleCheck_load v).trans hactload
    · exact hactload
  generalize (if t.lfr.tx.framer = .normal then v.scheduleCheck else v) = w at hcheck hcheckload
  obtain ⟨hwork, hremoved, -⟩ := State.finishWork_finishes hcheckload
  obtain ⟨-, hsame, hstu⟩ := State.retestTx_load w.finishWork
  have hlast := hcheck.finishWork.retestTx
  refine ⟨_, rfl, hsame.trans hwork, ?_, hlast.hold, hlast.frameNo.trans hfirst.frameNo⟩
  rw [hstu]
  exact hremoved

end Sys2Proof.Machine
end

section
/-! PROOFS. The bytes and blocks of a frame (R20, R22, chapter 2.1). -/

namespace Sys2Proof.Machine

/-! ### The header's bytes -/

/-- A field that is one segment of what is laid out. -/
theorem slice_flatten {l : List Bytes} {x : Bytes} {off n : Nat} (i : Nat) (hx : l[i]? = some x) (hn : x.length = n)
    (hoff : (l.take i).flatten.length = off) : slice l.flatten off n = x := by
  obtain ⟨hi, hget⟩ := List.getElem?_eq_some_iff.1 hx
  have hsplit : l = l.take i ++ x :: l.drop (i + 1) := by
    rw [← hget, List.cons_getElem_drop_succ, List.take_append_drop]
  have hflat : l.flatten = (l.take i).flatten ++ (x ++ (l.drop (i + 1)).flatten) := by
    conv_lhs => rw [hsplit]
    rw [List.flatten_append, List.flatten_cons]
  rw [hflat, ← hoff, slice_append_right, ← hn, List.take_left]

/-- What the header of the state echoes (R22). -/
def State.echo (s : State) : Option GoodHeader := if s.lfr.rx.framer.echoes then s.lfr.rx.lastGood else none

/-- The segments of the header, but for its CRC (chapter 2.1). -/
def State.headerSegments (s : State) : List Bytes :=
  let t := s.lfr.tx
  [[0xA7, 0], le 2 ((s.il.link.map (·.linkId.toNat)).getD 0),
    e1 (headerFlags ((s.il.link.map (·.hub)).getD false) s.lfr.rx.framer.headerCode t.fallback
      (decide (t.framer = .halted)) s.echo.isSome t.hold),
    le 2 t.frameNo.toNat, e1 t.prof, e1 (match t.pend with | some w => nextByte w.target w.count | none => 0),
    e1 s.lau.wish, e1 t.map.ver, (match t.mpend with | some p => e1 p.ver ++ e1 p.count | none => [0, 0]),
    t.map.counts.header, (match t.mpend with | some p => p.counts | none => ({} : MapCounts)).header, e1 s.dsu.loop.code,
    le 2 (headerU s.dsu.u), eTime s.dsu.time,
    (match s.echo with
      | some g => eTime g.sent ++ leInt 4 (timeDiff s.dsu.time g.arrival)
      | none => List.replicate 12 0)]

theorem State.header_eq (s : State) : s.header = s.headerSegments.flatten ++ crcBytes s.headerSegments.flatten := by
  have hbody : s.headerSegments.flatten = ([0xA7, 0] : Bytes) ++ le 2 ((s.il.link.map (·.linkId.toNat)).getD 0)
      ++ e1 (headerFlags ((s.il.link.map (·.hub)).getD false) s.lfr.rx.framer.headerCode s.lfr.tx.fallback
        (decide (s.lfr.tx.framer = .halted)) s.echo.isSome s.lfr.tx.hold)
      ++ le 2 s.lfr.tx.frameNo.toNat ++ e1 s.lfr.tx.prof
      ++ e1 (match s.lfr.tx.pend with | some w => nextByte w.target w.count | none => 0)
      ++ e1 s.lau.wish ++ e1 s.lfr.tx.map.ver ++ (match s.lfr.tx.mpend with | some p => e1 p.ver ++ e1 p.count | none => [0, 0])
      ++ s.lfr.tx.map.counts.header
      ++ (match s.lfr.tx.mpend with | some p => p.counts | none => ({} : MapCounts)).header ++ e1 s.dsu.loop.code
      ++ le 2 (headerU s.dsu.u) ++ eTime s.dsu.time
      ++ (match s.echo with
        | some g => eTime g.sent ++ leInt 4 (timeDiff s.dsu.time g.arrival)
        | none => List.replicate 12 0) := by
    simp only [State.headerSegments, List.flatten_cons, List.flatten_nil, List.append_assoc, List.append_nil]
  rw [hbody]
  rfl

theorem MapCounts.header_length (c : MapCounts) : c.header.length = 5 := by simp [MapCounts.header]

/-- The lengths of the header's segments, in order. -/
theorem State.headerSegments_lengths (s : State) :
    s.headerSegments.map List.length = [2, 2, 1, 2, 1, 1, 1, 1, 2, 5, 5, 1, 2, 8, 12] := by
  have hpend : (match s.lfr.tx.mpend with | some p => e1 p.ver ++ e1 p.count | none => [0, 0]).length = 2 := by
    cases s.lfr.tx.mpend <;> rfl
  have hecho : (match s.echo with
      | some g => eTime g.sent ++ leInt 4 (timeDiff s.dsu.time g.arrival)
      | none => List.replicate 12 0).length = 12 := by
    cases s.echo <;> rfl
  simp only [State.headerSegments, List.map_cons, List.map_nil, hpend, hecho, MapCounts.header_length, eTime_length, le_length,
    e1_length]
  rfl

theorem State.header_body_length (s : State) : s.headerSegments.flatten.length = 46 := by
  rw [List.length_flatten, State.headerSegments_lengths]
  rfl

/-- The header passes its own CRC test. -/
theorem State.header_crcOk (s : State) : crcOk s.header = true := by
  have hlen := State.header_body_length s
  rw [State.header_eq]
  generalize s.headerSegments.flatten = b at hlen ⊢
  unfold crcOk
  rw [← hlen, List.take_left, slice_append_right, List.take_of_length_le (by simp)]
  simp [hlen]

/-- The header's field that is segment `i`. -/
theorem State.header_slice (s : State) (i : Nat) {x : Bytes} {off n : Nat} (hx : s.headerSegments[i]? = some x)
    (hoff : ([2, 2, 1, 2, 1, 1, 1, 1, 2, 5, 5, 1, 2, 8, 12].take i).sum = off)
    (hn : [2, 2, 1, 2, 1, 1, 1, 1, 2, 5, 5, 1, 2, 8, 12][i]? = some n) (hin : off + n ≤ 46) :
    slice s.header off n = x := by
  have hlens := State.headerSegments_lengths s
  have hlen : x.length = n := by
    rw [← hlens, List.getElem?_map, hx] at hn
    exact Option.some.inj hn
  rw [State.header_eq, slice_append_left _ _ _ _ (by rw [State.header_body_length]; exact hin)]
  refine slice_flatten i hx hlen ?_
  rw [List.length_flatten, List.map_take, hlens, hoff]

/-! ### The service block -/

theorem padTo_length (n : Nat) (bs : Bytes) : (padTo n bs).length = n := by
  simp only [padTo, List.length_append, List.length_take, List.length_replicate]
  omega

theorem serviceBytes_crcOk (m : Option SvcMsg) : crcOk (serviceBytes m) = true := by
  have hpad (b : Bytes) (hlen : b.length = 46) : crcOk (b ++ crcBytes b) = true := by
    unfold crcOk
    rw [← hlen, List.take_left, slice_append_right, List.take_of_length_le (by simp)]
    simp [hlen]
  exact hpad _ (padTo_length 46 _)

/-! ### The carriage blocks -/

theorem blockLabel_length (o k : Nat) (start : Option Nat) : (blockLabel o k start).length = 4 := by simp [blockLabel]

/-- A label names its owner in its lowest four bits. -/
theorem blockLabel_owner {o : Nat} (ho : o < 16) (k : Nat) (start : Option Nat) :
    bits (field (blockLabel o k start) 0 1) 0 4 = o := by
  have hflag : start.isSome.toNat ≤ 1 := Bool.toNat_le _
  have hfield : field (blockLabel o k start) 0 1 = o + 16 * start.isSome.toNat := by
    unfold field blockLabel
    rw [List.append_assoc, slice_append_left _ _ _ _ (by simp)]
    show readLe (le 1 (o + 16 * start.isSome.toNat)) = _
    exact readLe_le 1 _ (by omega)
  rw [hfield, bits]
  omega

theorem Owner.code_lt (o : Owner) : o.code < 16 := by
  cases o with
  | tenant i => exact i.isLt.trans (by decide)
  | test | idle => decide

/-- The block built at a position: its label and data have their lengths, and the label names the owner. -/
theorem buildBlock_block (tpt : Four Tenant) (o : Owner) (running : Bool) (n q bb : Nat) :
    (buildBlock tpt o running n q bb).1.label.length = 4 ∧ (buildBlock tpt o running n q bb).1.data.length = bb
      ∧ bits (field (buildBlock tpt o running n q bb).1.label 0 1) 0 4 = o.code := by
  have hblock (k m : Nat) (start : Option Nat) (bs : Bytes) (hlen : bs.length = bb) (ho : m < 16) :
      (⟨blockLabel m k start, bs⟩ : TxBlock).label.length = 4 ∧ (⟨blockLabel m k start, bs⟩ : TxBlock).data.length = bb
        ∧ bits (field (⟨blockLabel m k start, bs⟩ : TxBlock).label 0 1) 0 4 = m :=
    ⟨blockLabel_length _ _ _, hlen, blockLabel_owner ho _ _⟩
  cases o with
  | tenant i => exact hblock _ _ _ _ (padTo_length _ _) (Owner.code_lt (.tenant i))
  | test =>
    unfold buildBlock
    dsimp only
    split
    · exact hblock _ _ _ _ (by simp [patternBlock]) (Owner.code_lt .test)
    · exact hblock _ _ _ _ (padTo_length _ _) (Owner.code_lt .test)
  | idle => exact hblock _ _ _ _ (padTo_length _ _) (Owner.code_lt .idle)

/-- Blocks built in order, each from the tenants as the ones before have left them. -/
theorem blocks_fold (f : Four Tenant → Nat → TxBlock × Four Tenant) (l : List Nat) : ∀ r : List TxBlock × Four Tenant,
    (l.foldl (fun r q => (r.1 ++ [(f r.2 q).1], (f r.2 q).2)) r).1.length = r.1.length + l.length
    ∧ ∀ k b, (l.foldl (fun r q => (r.1 ++ [(f r.2 q).1], (f r.2 q).2)) r).1[k]? = some b → r.1[k]? = some b
      ∨ ∃ q t, l[k - r.1.length]? = some q ∧ r.1.length ≤ k ∧ b = (f t q).1 := by
  induction l with
  | nil => exact fun r => ⟨rfl, fun k b h => .inl h⟩
  | cons q qs ih =>
    intro r
    obtain ⟨hlen, hget⟩ := ih (r.1 ++ [(f r.2 q).1], (f r.2 q).2)
    refine ⟨?_, fun k b h => ?_⟩
    · simp only [List.foldl_cons, hlen, List.length_append, List.length_cons, List.length_nil]
      omega
    · rcases hget k b h with hold | ⟨p, t, hp, hk, hb⟩
      · by_cases hlt : k < r.1.length
        · exact .inl (by rwa [List.getElem?_append_left hlt] at hold)
        · have hge : r.1.length ≤ k := Nat.le_of_not_lt hlt
          rw [List.getElem?_append_right hge] at hold
          obtain ⟨hi, hb⟩ := List.getElem?_eq_some_iff.1 hold
          have hzero : k - r.1.length = 0 := by simpa using hi
          refine .inr ⟨q, r.2, by rw [hzero]; rfl, hge, ?_⟩
          rw [← hb]
          simp
      · simp only [List.length_append, List.length_cons, List.length_nil] at hp hk
        refine .inr ⟨p, t, ?_, by omega, hb⟩
        rw [show k - r.1.length = k - (r.1.length + (0 + 1)) + 1 by omega]
        exact hp

/-- The block at each position is built for its owner, or IDLE under carriage hold (R20, R32). -/
theorem State.buildBlocks_spec (s : State) : s.buildBlocks.1.length = 62 ∧ ∀ k b, s.buildBlocks.1[k]? = some b →
    ∃ t, b = (buildBlock t (if s.lfr.tx.hold = true then .idle else s.lfr.tx.map.counts.owner (k + 2)) s.stu.patternRunning
      s.lfr.tx.frameNo.toNat (k + 2) (blockBytes s.lfr.tx.prof)).1 := by
  obtain ⟨hlen, hget⟩ := blocks_fold (fun t q => buildBlock t (if s.lfr.tx.hold = true then .idle else s.lfr.tx.map.counts.owner q)
    s.stu.patternRunning s.lfr.tx.frameNo.toNat q (blockBytes s.lfr.tx.prof)) positions ([], s.tpt)
  refine ⟨hlen.trans (by simp [positions]), fun k b h => ?_⟩
  rcases hget k b h with hnone | ⟨q, t, hq, -, hb⟩
  · simp at hnone
  · have hpos : q = k + 2 := by
      obtain ⟨hi, hval⟩ := List.getElem?_eq_some_iff.1 hq
      rw [← hval]
      simp [positions]
    exact ⟨t, hpos ▸ hb⟩

end Sys2Proof.Machine
end

section
/-! PROOFS. The frame that is sent agrees with the state it leaves (R20, R22). -/

namespace Sys2Proof.Machine

/-- The state that the frame is made of: the kept messages are offered, and the countdowns fall to what it carries. -/
def State.framed (s : State) : State := { s.offerKept with lfr.tx := s.offerKept.lfr.tx.carry }

/-- The frame of a state: its profile, header, service block and carriage blocks. -/
def State.frame (s : State) : AirFrame :=
  ⟨s.lfr.tx.prof, s.header, serviceBytes s.lfr.tx.svc.head?, s.buildBlocks.1⟩

theorem State.countFrame_eq (s : State) : ∃ q, s.countFrame = { s with stu.queue := q } := by
  unfold State.countFrame
  split
  · split
    · exact ⟨_, rfl⟩
    · split <;> exact ⟨_, rfl⟩
  · exact ⟨_, rfl⟩

/-- Sending the frame (R20). -/
theorem State.emitFrame_eq (s : State) : ∃ q c p r v, s.emitFrame = { s.framed with
    tpt := p, rfm := r, stu := { s.framed.stu with chk := c, queue := q }
    lfr := { s.framed.lfr with tx := { s.framed.lfr.tx with
      svc := s.framed.lfr.tx.svc.tail, out := some s.framed.frame, switching := false, periodDue := v
      frameNo := s.lfr.tx.frameNo + 1 } } } := by
  unfold State.emitFrame
  dsimp only
  obtain ⟨q, hq⟩ := State.countFrame_eq { s.framed with
    tpt := s.framed.buildBlocks.2, rfm := s.framed.rfm.logSend s.framed.dsu.time
    stu.chk := s.framed.stu.chk.countSent s.offerKept.lfr.tx.svc.head?
    lfr.tx.svc := s.framed.lfr.tx.svc.tail, lfr.tx.out := some s.framed.frame, lfr.tx.switching := false
    lfr.tx.periodDue := decide (s.framed.lfr.tx.frameNo.toNat % 64 = 63), lfr.tx.frameNo := s.framed.lfr.tx.frameNo + 1 }
  exact ⟨q, _, _, _, _, hq⟩

/-- The receive state a header carries (R22). -/
theorem RxFramer.headerCode_eq (x : RxFramer) :
    x.headerCode = if x = .confirm then 1 else if x = .up then 2 else if x = .flywheel then 3 else 0 := by
  cases x <;> rfl

theorem State.echo_eq (s : State) : s.echo =
    if s.lfr.rx.framer = .confirm ∨ s.lfr.rx.framer = .up ∨ s.lfr.rx.framer = .flywheel then s.lfr.rx.lastGood else none := by
  unfold State.echo RxFramer.echoes RxFramer.carries
  simp only [Bool.or_eq_true, decide_eq_true_eq]

/-- No work is left when the frame is sent, so that the state it is made of is the one it leaves (R20, R22). -/
theorem frame_agrees {s : State} (hold : Bool) (hs : s.calm) (hruns : s.runsBounded) (hon : s.lfr.tx.framer ≠ .off) :
    ∃ u t : State, exec (.txFrameBuild hold) s = .next t ∧ u.lfr.tx.hold = hold ∧ u.lfr.tx.frameNo = s.lfr.tx.frameNo
      ∧ ∃ q c p r v m, t = { u with
        tpt := p, rfm := r, stu := { u.stu with chk := c, queue := q }, mp := m
        lfr := { u.lfr with tx := { u.lfr.tx with
          svc := u.lfr.tx.svc.tail, out := some u.frame, switching := false, periodDue := v
          frameNo := s.lfr.tx.frameNo + 1 } } } := by
  have hload : s.load ≤ 47 := by
    obtain ⟨hlen, -⟩ := hruns
    have hfalls := Bool.toNat_le s.lfr.rx.framer.falls
    unfold State.load State.due
    rw [hs.1]
    simp only [List.length_nil, Bool.toNat_false]
    omega
  obtain ⟨w, hbuild, hwork, hremoved, hhold, hno⟩ := State.build_frame hold hload hon
  obtain ⟨q, c, p, r, v, hemit⟩ := State.emitFrame_eq w
  have hidle : (s.build hold).finishWork = w.emitFrame := by
    rw [hbuild]
    refine State.finishWork_idle ?_ ?_
    · rw [hemit]
      exact hwork
    · rw [hemit]
      exact hremoved
  obtain ⟨m, hend⟩ := exec_ends (c := .txFrameBuild hold) hs rfl
    ((State.InnerOf.refl (Q := View.consistent) s).build hold) hidle
  rw [hemit, hno] at hend
  exact ⟨w.framed, _, hend, hhold, hno, q, c, p, r, v, m, rfl⟩

/-- The blocks of a frame (R20, R32). -/
theorem State.frame_blocks (u : State) : u.frame.blocks.length = 62
    ∧ (∀ b ∈ u.frame.blocks, b.label.length = 4 ∧ b.data.length = blockBytes u.frame.profile)
    ∧ (u.lfr.tx.hold = false → ∀ k b, u.frame.blocks[k]? = some b →
      bits (field b.label 0 1) 0 4 = (u.lfr.tx.map.counts.owner (k + 2)).code)
    ∧ (u.lfr.tx.hold = true → ∀ b ∈ u.frame.blocks, b = idleBlock (blockBytes u.frame.profile)) := by
  obtain ⟨hlen, hget⟩ := State.buildBlocks_spec u
  have hmem : ∀ b ∈ u.frame.blocks, ∃ k, u.buildBlocks.1[k]? = some b := fun b hb => List.mem_iff_getElem?.1 hb
  refine ⟨hlen, fun b hb => ?_, fun hh k b hb => ?_, fun hh b hb => ?_⟩
  · obtain ⟨k, hk⟩ := hmem b hb
    obtain ⟨t, rfl⟩ := hget k b hk
    obtain ⟨hlabel, hdata, -⟩ := buildBlock_block t (if u.lfr.tx.hold = true then .idle else u.lfr.tx.map.counts.owner (k + 2))
      u.stu.patternRunning u.lfr.tx.frameNo.toNat (k + 2) (blockBytes u.lfr.tx.prof)
    exact ⟨hlabel, hdata⟩
  · obtain ⟨t, rfl⟩ := hget k b hb
    rw [hh]
    exact (buildBlock_block t _ _ _ _ _).2.2
  · obtain ⟨k, hk⟩ := hmem b hb
    obtain ⟨t, rfl⟩ := hget k b hk
    rw [hh]
    rfl

end Sys2Proof.Machine
end

section
/-! PROOFS. The transmit framer as a frame is built with no run in the queue (R21, R27, R29, R30, R50). -/

namespace Sys2Proof.Machine

/-! ### The events before the frame -/

/-- Outside NORMAL the work of an event with no run leaves the transmit side as it is (R135). -/
theorem State.workStep_apart {s : State} (ha : s.work.acts = []) (hq : s.stu.queue = []) (hf : s.lfr.tx.framer ≠ .normal) :
    s.workStep.work.acts = [] ∧ s.workStep.stu.queue = [] ∧ s.workStep.lfr.tx = s.lfr.tx := by
  by_cases hd : s.work.runDue = true
  · have hstart : s.workStep = { s with work.runDue := false } := by
      rw [State.workStep_due ha hd]
      simp [State.startRun, hq]
    rw [hstart]
    exact ⟨ha, hq, rfl⟩
  · have hs : s.settled := ⟨ha, by simpa using hd⟩
    cases hn : s.work.alloc with
    | none =>
      rw [State.workStep_done hs hn]
      exact ⟨ha, hq, rfl⟩
    | some t =>
      have haside : ({ s with work.alloc := none } : State).computeShare t (share ({ s with work.alloc := none } : State).shareIn) = _ :=
        if_neg hf
      rw [State.workStep_alloc hs hn, State.compute_eq (s := { s with work.alloc := none }) (Stu.active_empty hq), haside]
      exact ⟨ha, hq, rfl⟩

theorem State.finishWork_apart {s : State} (ha : s.work.acts = []) (hq : s.stu.queue = []) (hf : s.lfr.tx.framer ≠ .normal) :
    s.finishWork.lfr.tx = s.lfr.tx := by
  have hwork (n : Nat) : ∀ t : State, t.work.acts = [] → t.stu.queue = [] → t.lfr.tx.framer ≠ .normal →
      (State.doWork n t).lfr.tx = t.lfr.tx := by
    induction n with
    | zero => exact fun t _ _ _ => rfl
    | succ n ih =>
      intro t ha hq hf
      obtain ⟨ha', hq', htx⟩ := State.workStep_apart ha hq hf
      exact (ih t.workStep ha' hq' (htx ▸ hf)).trans htx
  have hdone := hwork 48 s ha hq hf
  rw [State.finishWork_endEvent]
  generalize State.doWork 48 s = t at hdone
  exact hdone

/-- No run, no work and no release is left. -/
structure State.Idle (s : State) : Prop where
  queue : s.stu.queue = []
  work : s.work = {}
  removed : s.stu.removed = []
  released : s.stu.lateRelease = false

/-- What the events before a frame keep of the transmit side with no run in the queue: all but the pending map in NORMAL. -/
structure State.Before (s t : State) : Prop where
  tx : ∃ m v d e, t.lfr.tx = { s.lfr.tx with mpend := m, lastVer := v, due := d, periodDue := e }
    ∧ (s.lfr.tx.framer ≠ .normal → m = s.lfr.tx.mpend)
  rx : t.lfr.rx = s.lfr.rx
  lau : t.lau = s.lau

theorem State.Before.trans {s t u : State} (h : s.Before t) (g : t.Before u) : s.Before u := by
  obtain ⟨⟨m, v, d, e, htx, hm⟩, hrx, hlau⟩ := h
  obtain ⟨⟨m', v', d', e', htx', hm'⟩, hrx', hlau'⟩ := g
  rw [htx] at htx' hm'
  exact ⟨⟨m', v', d', e', htx', fun hf => (hm' hf).trans (hm hf)⟩, hrx'.trans hrx, hlau'.trans hlau⟩

theorem State.finishWork_before {s : State} (ha : s.work.acts = []) (hq : s.stu.queue = []) (hr : s.stu.lateRelease = false) :
    s.Before s.finishWork ∧ s.finishWork.Idle := by
  obtain ⟨a, hfin⟩ := State.finishWork_quiet ha hq
  have hapart := State.finishWork_apart ha hq
  rw [hfin] at hapart ⊢
  exact ⟨⟨⟨a.mpend, a.lastVer, _, _, rfl, fun hf => congrArg LfrTx.mpend (hapart hf)⟩, rfl, rfl⟩, ⟨hq, rfl, rfl, hr⟩⟩

/-- The transmit side's events that are due, with no run in the queue. -/
theorem State.settleTx_before {s : State} (ha : s.work.acts = []) (hq : s.stu.queue = []) :
    s.Before s.settleTx ∧ s.settleTx.Idle := by
  have hdrain : ∃ a, s.drainRun = { s with stu.lateRelease := false, work.alloc := a } := by
    have hrelease : s.drainRun = s.settleRelease := by
      unfold State.drainRun
      rw [Stu.active_empty hq]
    rw [hrelease]
    unfold State.settleRelease
    split
    · unfold State.wantAlloc
      split <;> exact ⟨_, rfl⟩
    · next hl =>
      have hlate : s.stu.lateRelease = false := by simpa using hl
      exact ⟨s.work.alloc, by rw [← hlate]⟩
  obtain ⟨a, hdrained⟩ := hdrain
  have hfirst : s.Before s.drainRun.finishWork ∧ s.drainRun.finishWork.Idle := by
    rw [hdrained]
    obtain ⟨⟨htx, hrx, hlau⟩, hidle⟩ :=
      State.finishWork_before (s := { s with stu.lateRelease := false, work.alloc := a }) ha hq rfl
    exact ⟨⟨htx, hrx, hlau⟩, hidle⟩
  unfold State.settleTx
  dsimp only
  generalize s.drainRun.finishWork = t at hfirst
  obtain ⟨hbefore, hqueue, hwork, hremoved, hreleased⟩ := hfirst
  have hperiod : ∃ p e b, t.periodEnd = { t with lfr.tx.periodDue := e, tpt := p, work.alloc := b } := by
    unfold State.periodEnd
    split
    · unfold State.wantAlloc
      split <;> exact ⟨_, _, _, rfl⟩
    · exact ⟨_, _, _, rfl⟩
  obtain ⟨p, e, b, hend⟩ := hperiod
  rw [hend]
  obtain ⟨⟨⟨m, v, d, e', htx, hm⟩, hrx, hlau⟩, hidle⟩ :=
    State.finishWork_before (s := { t with lfr.tx.periodDue := e, tpt := p, work.alloc := b }) (by rw [hwork]) hqueue hreleased
  exact ⟨hbefore.trans ⟨⟨m, v, d, e', htx, hm⟩, hrx, hlau⟩, hidle⟩

/-- With no run in the queue there is none to abort (R153). -/
theorem State.abortGranted_idle {s : State} (hq : s.stu.queue = []) (hl : s.stu.lateRelease = false) (c : RunCause) :
    s.abortGranted c = s := by
  have hrelease : s.settleRelease = s := if_neg (by simp [hl])
  unfold State.abortGranted
  rw [hrelease]
  dsimp only
  rw [Stu.active_empty hq]

/-- CARRIAGE_HOLD sampled with no run in the queue (R32). -/
theorem State.sampleHold_idle {s : State} (h : s.Idle) (hold : Bool) :
    ∃ m, s.sampleHold hold = { s with lfr.tx.hold := hold, mp := m } := by
  unfold State.sampleHold
  split
  · next he => exact ⟨s.mp, by rw [← he]⟩
  · dsimp only
    split
    · exact ⟨_, State.abortGranted_idle (s := ({ s with lfr.tx.hold := hold } : State).noteLink) h.queue h.released .hold⟩
    · exact ⟨_, rfl⟩

end Sys2Proof.Machine
end

section
/-! PROOFS. The frames built with no run in the queue (R21, R27, R29, R30, R50). -/

namespace Sys2Proof.Machine

/-! ### The frame sent -/

/-- The switch as the frame carries it (R27). -/
def TxSwitch.sent (w : TxSwitch) : TxSwitch := if w.carried then { w with count := w.count - 1 } else { w with carried := true }

/-- The state after a frame sent with no work left: the transmit side but for what goes with each frame. -/
theorem exec_build_ends {s v : State} (hs : s.calm) {hold : Bool} (hb : s.build hold = v.emitFrame) (hidle : v.Idle) :
    ∃ t, exec (.txFrameBuild hold) s = .next t
      ∧ t.lfr.tx.framer = v.lfr.tx.framer ∧ t.lfr.tx.fallback = v.lfr.tx.fallback ∧ t.lfr.tx.haltDue = v.lfr.tx.haltDue
      ∧ t.lfr.tx.prof = v.lfr.tx.prof ∧ t.lfr.tx.map = v.lfr.tx.map ∧ t.lfr.tx.pend = v.lfr.tx.pend.map TxSwitch.sent
      ∧ (v.lfr.tx.mpend = none → t.lfr.tx.mpend = none) := by
  obtain ⟨q, c, p, r, d, hemit⟩ := State.emitFrame_eq v
  have hdone : (s.build hold).finishWork = v.emitFrame := by
    rw [hb]
    refine State.finishWork_idle ?_ ?_
    · rw [hemit]
      exact hidle.work
    · rw [hemit]
      exact hidle.removed
  obtain ⟨m, hend⟩ := exec_ends (c := .txFrameBuild hold) hs rfl
    ((State.InnerOf.refl (Q := View.consistent) s).build hold) hdone
  rw [hemit] at hend
  refine ⟨_, hend, rfl, rfl, rfl, rfl, rfl, rfl, fun hnone => ?_⟩
  show v.lfr.tx.mpend.map _ = none
  rw [hnone]
  rfl

/-! ### The pieces that do nothing -/

theorem State.doActs_settled {s : State} (h : s.settled) (n : Nat) : State.doActs n s = s := by
  induction n with
  | zero => rfl
  | succ n ih => rw [State.doActs, State.actStep_settled h, ih]

theorem State.Idle.settled {s : State} (h : s.Idle) : s.settled := by
  unfold State.settled
  rw [h.work]
  exact ⟨rfl, rfl⟩

theorem State.profileSwitch_none {s : State} (h : s.lfr.tx.framer ≠ .normal ∨ s.lfr.tx.pend = none) : s.profileSwitch = s := by
  unfold State.profileSwitch
  split
  · next w hw =>
    have hf := h.resolve_right (by simp [hw])
    exact if_neg (by simp [State.maySwitch, hf])
  · rfl

theorem State.mapSwitch_none {s : State} (h : s.lfr.tx.framer ≠ .normal ∨ s.lfr.tx.mpend = none) : s.mapSwitch = s := by
  unfold State.mapSwitch
  split
  · next p hp =>
    have hf := h.resolve_right (by simp [hp])
    exact if_neg (by simp [State.maySwitch, hf])
  · rfl

theorem State.retestTx_same {s : State} (h : s.lfr.tx.framer = .normal → s.fallbackCond = false)
    (hhalt : s.lfr.tx.framer = .halted → s.lfr.tx.fallback = s.fallbackCond ∧ s.lfr.tx.haltDue = false) : s.retestTx = s := by
  unfold State.retestTx
  split
  · next hf =>
    obtain ⟨hflag, hdue⟩ := hhalt hf
    unfold State.haltTx
    rw [← hflag]
    exact if_neg (by simp [hdue])
  · next hf => exact if_neg (by simp [h hf])
  all_goals rfl

/-- A frame whose transmit framer has moved and switched: what is left of its building. -/
theorem State.build_of {s t w : State} {hold : Bool}
    (ht : ({ s with pins.carriageHold := hold, lfr.tx.due := false } : State).settleTx = t) (hon : t.lfr.tx.framer ≠ .off)
    (hw : (t.sampleHold hold).moveTx.profileSwitch.mapSwitch = w) (hidle : w.Idle) (hre : w.retestTx = w) :
    s.build hold = (if t.lfr.tx.framer = .normal then w.scheduleCheck else w).finishWork.retestTx.emitFrame := by
  unfold State.build
  dsimp only
  rw [ht, if_neg hon, hw, State.doActs_settled hidle.settled, hre]

/-- The same with no scheduling check to be made. -/
theorem State.build_unscheduled {s t w : State} {hold : Bool}
    (ht : ({ s with pins.carriageHold := hold, lfr.tx.due := false } : State).settleTx = t) (hon : t.lfr.tx.framer ≠ .off)
    (hw : (t.sampleHold hold).moveTx.profileSwitch.mapSwitch = w) (hidle : w.Idle) (hre : w.retestTx = w)
    (hno : t.lfr.tx.framer ≠ .normal ∨ w.lfr.tx.framer ≠ .normal) : s.build hold = w.emitFrame := by
  have hcheck : (if t.lfr.tx.framer = .normal then w.scheduleCheck else w) = w := by
    split
    · next hn => exact if_neg fun h => hno.elim (fun hf => hf hn) fun hf => hf h.1
    · rfl
  rw [State.build_of ht hon hw hidle hre, hcheck, State.finishWork_idle hidle.work hidle.removed, hre]

/-! ### The moves of the transmit framer -/

theorem State.fallbackCond_rx {s t : State} (h : t.lfr.rx = s.lfr.rx) : t.fallbackCond = s.fallbackCond := by
  unfold State.fallbackCond
  rw [h]

/-- What the frame finds once the events before it are taken and CARRIAGE_HOLD is sampled, with no run in the queue. -/
theorem State.sampled {s : State} (hs : s.calm) (hq : s.stu.queue = []) (hold : Bool) : ∃ t : State,
    ({ s with pins.carriageHold := hold, lfr.tx.due := false } : State).settleTx = t
      ∧ t.lfr.tx.framer = s.lfr.tx.framer ∧ (t.sampleHold hold).Idle
      ∧ (∃ m v d e, (t.sampleHold hold).lfr.tx = { s.lfr.tx with mpend := m, lastVer := v, due := d, periodDue := e, hold := hold }
        ∧ (s.lfr.tx.framer ≠ .normal → m = s.lfr.tx.mpend))
      ∧ (t.sampleHold hold).lfr.rx = s.lfr.rx ∧ (t.sampleHold hold).lau = s.lau := by
  obtain ⟨⟨⟨m, v, d, e, htx, hm⟩, hrx, hlau⟩, hidle⟩ :=
    State.settleTx_before (s := { s with pins.carriageHold := hold, lfr.tx.due := false }) (by rw [hs.1]) hq
  generalize ({ s with pins.carriageHold := hold, lfr.tx.due := false } : State).settleTx = t at htx hrx hlau hidle ⊢
  obtain ⟨k, hsample⟩ := State.sampleHold_idle hidle hold
  refine ⟨t, rfl, by rw [htx], ?_⟩
  rw [hsample]
  refine ⟨⟨hidle.queue, hidle.work, hidle.removed, hidle.released⟩, ⟨m, v, d, e, ?_, hm⟩, hrx, hlau⟩
  show { t.lfr.tx with hold := hold } = _
  rw [htx]

section
variable {s : State} (hs : s.calm) (hq : s.stu.queue = []) (hold : Bool)
include hs hq

/-- NORMAL falls to FALLBACK (R29). -/
theorem build_falls (hf : s.lfr.tx.framer = .normal) (hc : s.fallbackCond = true) : ∃ t, exec (.txFrameBuild hold) s = .next t
    ∧ t.lfr.tx.framer = .fallback ∧ t.lfr.tx.fallback = true ∧ t.lfr.tx.prof = 0 ∧ t.lfr.tx.map = {}
    ∧ t.lfr.tx.pend = none ∧ t.lfr.tx.mpend = none := by
  obtain ⟨t, ht, hsame, hidle, ⟨m, v, d, e, htx, -⟩, hrx, -⟩ := State.sampled hs hq hold
  generalize hu : t.sampleHold hold = u at hidle htx hrx
  have hmove : u.moveTx = u.fallBack := by
    have hnormal : u.lfr.tx.framer = .normal := by rw [htx]; exact hf
    have hcond : u.fallbackCond = true := (State.fallbackCond_rx hrx).trans hc
    unfold State.moveTx
    rw [hnormal]
    dsimp only
    rw [if_pos hcond]
    exact State.abortGranted_idle (s := u.fallBack) hidle.queue hidle.released .linkDown
  have hw : (t.sampleHold hold).moveTx.profileSwitch.mapSwitch = u.fallBack := by
    rw [hu, hmove, State.profileSwitch_none (.inr rfl), State.mapSwitch_none (.inr rfl)]
  have hb := State.build_unscheduled ht (by rw [hsame, hf]; simp) hw
    (State.Idle.mk (s := u.fallBack) hidle.queue hidle.work hidle.removed hidle.released)
    (State.retestTx_same (s := u.fallBack) (fun h => nomatch h) (fun h => nomatch h)) (.inr (fun h => nomatch h))
  obtain ⟨x, hend, h1, h2, -, h4, h5, h6, h7⟩ := exec_build_ends hs hb
    (State.Idle.mk (s := u.fallBack) hidle.queue hidle.work hidle.removed hidle.released)
  exact ⟨x, hend, h1, h2, h4, h5, h6, h7 rfl⟩

/-- FALLBACK stays, or returns to NORMAL (R30). -/
theorem build_returns (hf : s.lfr.tx.framer = .fallback) (hp : s.lfr.tx.pend = none) (hm : s.lfr.tx.mpend = none) :
    ∃ t, exec (.txFrameBuild hold) s = .next t
      ∧ t.lfr.tx.framer = (if s.fallbackCond = true then .fallback else .normal)
      ∧ t.lfr.tx.fallback = (if s.fallbackCond = true then s.lfr.tx.fallback else false)
      ∧ t.lfr.tx.prof = s.lfr.tx.prof ∧ t.lfr.tx.map = s.lfr.tx.map ∧ t.lfr.tx.pend = none ∧ t.lfr.tx.mpend = none := by
  obtain ⟨t, ht, hsame, hidle, ⟨m, v, d, e, htx, hmsame⟩, hrx, -⟩ := State.sampled hs hq hold
  generalize hu : t.sampleHold hold = u at hidle htx hrx
  have hcond : u.fallbackCond = s.fallbackCond := State.fallbackCond_rx hrx
  have hmove : ∃ k, u.moveTx = { u with
      lfr.tx.framer := if s.fallbackCond = true then .fallback else .normal
      lfr.tx.fallback := if s.fallbackCond = true then s.lfr.tx.fallback else false, mp := k } := by
    have hfall : u.lfr.tx.framer = .fallback := by rw [htx]; exact hf
    have hflag : u.lfr.tx.fallback = s.lfr.tx.fallback := by rw [htx]
    unfold State.moveTx
    rw [hfall]
    dsimp only
    rw [hcond]
    by_cases hc : s.fallbackCond = true
    · rw [if_pos hc, if_pos hc, if_pos hc, ← hfall, ← hflag]
      exact ⟨u.mp, rfl⟩
    · rw [if_neg hc, if_neg hc, if_neg hc]
      exact ⟨_, rfl⟩
  obtain ⟨k, hmoved⟩ := hmove
  generalize hw' : ({ u with
      lfr.tx.framer := if s.fallbackCond = true then .fallback else .normal
      lfr.tx.fallback := if s.fallbackCond = true then s.lfr.tx.fallback else false, mp := k } : State) = w at hmoved
  have hwtx : w.lfr.tx = { u.lfr.tx with
      framer := if s.fallbackCond = true then .fallback else .normal
      fallback := if s.fallbackCond = true then s.lfr.tx.fallback else false } := by rw [← hw']
  have hwidle : w.Idle := by
    rw [← hw']
    exact ⟨hidle.queue, hidle.work, hidle.removed, hidle.released⟩
  have hwcond : w.fallbackCond = s.fallbackCond := by
    rw [← hw']
    exact hcond
  rw [htx] at hwtx
  have hpend : w.lfr.tx.pend = none := by rw [hwtx]; exact hp
  have hmpend : w.lfr.tx.mpend = none := by
    rw [hwtx]
    exact (hmsame (by simp [hf])).trans hm
  have hwall : (t.sampleHold hold).moveTx.profileSwitch.mapSwitch = w := by
    rw [hu, hmoved, State.profileSwitch_none (.inr hpend), State.mapSwitch_none (.inr hmpend)]
  have hre : w.retestTx = w := by
    refine State.retestTx_same (fun h => ?_) (fun h => ?_)
    · rw [hwcond]
      rw [hwtx] at h
      by_contra hc
      simp [hc] at h
    · rw [hwtx] at h
      dsimp only at h
      split at h <;> cases h
  obtain ⟨x, hend, h1, h2, -, h4, h5, h6, h7⟩ :=
    exec_build_ends hs (State.build_unscheduled ht (by rw [hsame, hf]; simp) hwall hwidle hre (.inl (by rw [hsame, hf]; simp))) hwidle
  rw [hpend] at h6
  rw [hwtx] at h1 h2 h4 h5
  exact ⟨x, hend, h1, h2, h4, h5, h6, h7 hmpend⟩

/-- A frame of HALTED, the first one discarding (R21, R139). -/
theorem build_halted (hf : s.lfr.tx.framer = .halted) : ∃ t, exec (.txFrameBuild hold) s = .next t
    ∧ t.lfr.tx.framer = .halted ∧ t.lfr.tx.fallback = s.fallbackCond ∧ t.lfr.tx.haltDue = false
    ∧ (s.lfr.tx.haltDue = true → t.lfr.tx.prof = 0 ∧ t.lfr.tx.map = {} ∧ t.lfr.tx.pend = none ∧ t.lfr.tx.mpend = none) := by
  obtain ⟨t, ht, hsame, hidle, ⟨m, v, d, e, htx, -⟩, hrx, -⟩ := State.sampled hs hq hold
  generalize hu : t.sampleHold hold = u at hidle htx hrx
  have hhalted : u.lfr.tx.framer = .halted := by rw [htx]; exact hf
  have hmove : u.moveTx = u.haltTx := by
    unfold State.moveTx
    rw [hhalted]
  have hhalt : u.haltTx.Idle ∧ u.haltTx.lfr.tx.framer = .halted ∧ u.haltTx.lfr.tx.fallback = s.fallbackCond
      ∧ u.haltTx.fallbackCond = s.fallbackCond ∧ u.haltTx.lfr.tx.haltDue = false
      ∧ (s.lfr.tx.haltDue = true → u.haltTx.lfr.tx.prof = 0 ∧ u.haltTx.lfr.tx.map = {} ∧ u.haltTx.lfr.tx.pend = none
        ∧ u.haltTx.lfr.tx.mpend = none) := by
    have hcond : u.fallbackCond = s.fallbackCond := State.fallbackCond_rx hrx
    have hdue : u.lfr.tx.haltDue = s.lfr.tx.haltDue := by rw [htx]
    unfold State.haltTx
    dsimp only
    split
    · exact ⟨⟨hidle.queue, hidle.work, hidle.removed, hidle.released⟩, hhalted, hcond, hcond, rfl, fun _ => ⟨rfl, rfl, rfl, rfl⟩⟩
    · next hno =>
      have hfalse : u.lfr.tx.haltDue = false := by simpa using hno
      exact ⟨⟨hidle.queue, hidle.work, hidle.removed, hidle.released⟩, hhalted, hcond, hcond, hfalse,
        fun h => absurd (hdue.trans h) (by rw [hfalse]; simp)⟩
  generalize u.haltTx = w at hmove hhalt
  obtain ⟨hwidle, hwf, hwflag, hwcond, hwdue, hdiscards⟩ := hhalt
  have hne : w.lfr.tx.framer ≠ .normal := by rw [hwf]; simp
  have hwall : (t.sampleHold hold).moveTx.profileSwitch.mapSwitch = w := by
    rw [hu, hmove, State.profileSwitch_none (.inl hne), State.mapSwitch_none (.inl hne)]
  have hre : w.retestTx = w := State.retestTx_same (fun h => absurd h hne) (fun _ => ⟨hwflag.trans hwcond.symm, hwdue⟩)
  obtain ⟨x, hend, h1, h2, h3, h4, h5, h6, h7⟩ :=
    exec_build_ends hs (State.build_unscheduled ht (by rw [hsame, hf]; simp) hwall hwidle hre (.inr hne)) hwidle
  refine ⟨x, hend, h1.trans hwf, h2.trans hwflag, h3.trans hwdue, fun hdue => ?_⟩
  obtain ⟨hprof, hmap, hpend, hmpend⟩ := hdiscards hdue
  exact ⟨h4.trans hprof, h5.trans hmap, by rw [h6, hpend]; rfl, h7 hmpend⟩

end

end Sys2Proof.Machine
end

section
/-! PROOFS. A frame of NORMAL, and every frame by the map (R20, R22, R27, R50). -/

namespace Sys2Proof.Machine

/-! ### The switch and the scheduling check -/

/-- The transmit side once a pending profile switch whose last frame carried countdown 1 has taken effect (R27). -/
def LfrTx.switched (x : LfrTx) : LfrTx :=
  match x.pend with
  | some w => if w.carried && decide (w.count = 1) then { x with prof := w.target, pend := none, switching := true } else x
  | none => x

theorem LfrTx.switched_none {x : LfrTx} (h : ∀ w, x.pend = some w → ¬ (w.carried = true ∧ w.count = 1)) : x.switched = x := by
  unfold LfrTx.switched
  split
  · next w hw => exact if_neg (by simpa using h w hw)
  · rfl

theorem LfrTx.switched_some {x : LfrTx} {w : TxSwitch} (h : x.pend = some w) (hw : w.carried = true ∧ w.count = 1) :
    x.switched = { x with prof := w.target, pend := none, switching := true } := by
  unfold LfrTx.switched
  rw [h]
  exact if_pos (by simp [hw])

theorem State.profileSwitch_switched {s : State} (hn : s.lfr.tx.framer = .normal) (hc : s.fallbackCond = false) :
    ∃ m, s.profileSwitch = { s with lfr.tx := s.lfr.tx.switched, mp := m } := by
  by_cases h : ∃ w, s.lfr.tx.pend = some w ∧ w.carried = true ∧ w.count = 1
  · obtain ⟨w, hw, hcarried, hcount⟩ := h
    rw [LfrTx.switched_some hw ⟨hcarried, hcount⟩]
    exact State.profileSwitch_eq hn hc hw hcarried hcount
  · have hno : ∀ w, s.lfr.tx.pend = some w → ¬ (w.carried = true ∧ w.count = 1) := fun w hw hboth => h ⟨w, hw, hboth⟩
    rw [LfrTx.switched_none hno]
    refine ⟨s.mp, ?_⟩
    unfold State.profileSwitch
    split
    · next w hw => exact if_neg (by have := hno w hw; simp_all)
    · rfl

/-- A map switch with no run in the queue (R134). -/
theorem State.mapSwitch_quiet {s : State} (hq : s.stu.queue = []) : ∃ a p c m, s.mapSwitch = { s with
    lfr := { s.lfr with tx := { s.lfr.tx with map := a, mpend := p }, mapCause := c }, mp := m } := by
  have htaken (t : State) (ht : t.stu.queue = []) (n : Nat) : t.mapTaken n = t := by
    unfold State.mapTaken
    rw [Stu.active_empty ht]
  unfold State.mapSwitch
  split
  · next p _ =>
    split
    · exact ⟨_, _, _, _, htaken
        (({ s with lfr.tx.map := ⟨p.ver, p.counts, some p.prof⟩, lfr.tx.mpend := none } : State).noteMap .txInForce) hq _⟩
    · exact ⟨_, _, _, _, rfl⟩
  · exact ⟨_, _, _, _, rfl⟩

/-- The scheduling check (R50). -/
theorem State.scheduleCheck_eq (s : State) : ∃ a m, s.scheduleCheck = { s with
    lfr.tx.pend := if s.lfr.tx.framer = .normal ∧ s.lfr.tx.pend = none ∧ s.lfr.tx.switching = false ∧ s.target ≠ s.lfr.tx.prof
      then some ⟨s.target, 8, false⟩ else s.lfr.tx.pend
    work.alloc := a, mp := m } := by
  unfold State.scheduleCheck
  split
  · unfold State.wantAlloc
    split <;> exact ⟨_, _, rfl⟩
  · exact ⟨s.work.alloc, s.mp, rfl⟩

/-- A frame of NORMAL (R27, R50): what the switch and the check leave is carried. -/
theorem build_normal {s : State} (hs : s.calm) (hq : s.stu.queue = []) (hold : Bool) (hf : s.lfr.tx.framer = .normal)
    (hc : s.fallbackCond = false) : ∃ t, exec (.txFrameBuild hold) s = .next t ∧ t.lfr.tx.framer = .normal
      ∧ t.lfr.tx.prof = s.lfr.tx.switched.prof
      ∧ t.lfr.tx.pend = (if s.lfr.tx.switched.pend = none ∧ s.lfr.tx.switched.switching = false
          ∧ min s.lfr.rx.peerWish (min s.lau.ceiling (s.lfr.tx.switched.prof + 1)) ≠ s.lfr.tx.switched.prof
        then some ⟨min s.lfr.rx.peerWish (min s.lau.ceiling (s.lfr.tx.switched.prof + 1)), 8, false⟩
        else s.lfr.tx.switched.pend).map TxSwitch.sent := by
  obtain ⟨t, ht, hsame, hidle, ⟨m, v, d, e, htx, -⟩, hrx, hlau⟩ := State.sampled hs hq hold
  generalize hu : t.sampleHold hold = u at hidle htx hrx hlau
  have hun : u.lfr.tx.framer = .normal := by rw [htx]; exact hf
  have hcond : u.fallbackCond = false := (State.fallbackCond_rx hrx).trans hc
  have hmove : u.moveTx = u := by
    unfold State.moveTx
    rw [hun]
    exact if_neg (by simp [hcond])
  obtain ⟨m1, hswitch⟩ := State.profileSwitch_switched hun hcond
  obtain ⟨a, p, c, m2, hmap⟩ := State.mapSwitch_quiet (s := u.profileSwitch) (by rw [hswitch]; exact hidle.queue)
  have hw : (t.sampleHold hold).moveTx.profileSwitch.mapSwitch = u.profileSwitch.mapSwitch := by rw [hu, hmove]
  generalize u.profileSwitch.mapSwitch = w at hmap hw
  rw [hswitch] at hmap
  have hswitched : u.lfr.tx.switched = { s.lfr.tx.switched with
      mpend := m, lastVer := v, due := d, periodDue := e, hold := hold } := by
    rw [htx]
    unfold LfrTx.switched
    dsimp only
    split
    · split <;> rfl
    · rfl
  have hnormal : s.lfr.tx.switched.framer = .normal := by
    rw [← hf]
    unfold LfrTx.switched
    split
    · split <;> rfl
    · rfl
  rw [hswitched] at hmap
  have hwidle : w.Idle := by
    rw [hmap]
    exact ⟨hidle.queue, hidle.work, hidle.removed, hidle.released⟩
  have hwtx : w.lfr.tx.framer = .normal ∧ w.lfr.tx.pend = s.lfr.tx.switched.pend ∧ w.lfr.tx.prof = s.lfr.tx.switched.prof
      ∧ w.lfr.tx.switching = s.lfr.tx.switched.switching := by
    rw [hmap]
    exact ⟨hnormal, rfl, rfl, rfl⟩
  have hwrx : w.lfr.rx = s.lfr.rx := by
    rw [hmap]
    exact hrx
  have hwlau : w.lau = s.lau := by
    rw [hmap]
    exact hlau
  obtain ⟨hwn, hwpend, hwprof, hwswitching⟩ := hwtx
  have hkeep (z : State) (hn : z.lfr.tx.framer = .normal) (hz : z.lfr.rx = s.lfr.rx) : z.retestTx = z :=
    State.retestTx_same (fun _ => (State.fallbackCond_rx hz).trans hc) (fun h => absurd h (by rw [hn]; simp))
  have hb := State.build_of ht (by rw [hsame, hf]; simp) hw hwidle (hkeep w hwn hwrx)
  rw [if_pos (hsame.trans hf)] at hb
  obtain ⟨a', m3, hcheck⟩ := State.scheduleCheck_eq w
  have htarget : w.target = min s.lfr.rx.peerWish (min s.lau.ceiling (s.lfr.tx.switched.prof + 1)) := by
    unfold State.target
    rw [hwrx, hwlau, hwprof]
  rw [htarget, hwpend, hwprof, hwswitching] at hcheck
  have hpend : w.scheduleCheck.lfr.tx.pend = (if s.lfr.tx.switched.pend = none ∧ s.lfr.tx.switched.switching = false
          ∧ min s.lfr.rx.peerWish (min s.lau.ceiling (s.lfr.tx.switched.prof + 1)) ≠ s.lfr.tx.switched.prof
        then some ⟨min s.lfr.rx.peerWish (min s.lau.ceiling (s.lfr.tx.switched.prof + 1)), 8, false⟩
        else s.lfr.tx.switched.pend) := by
    rw [hcheck]
    simp only [hwn, true_and]
  have hz : w.scheduleCheck.work.acts = [] ∧ w.scheduleCheck.stu = w.stu ∧ w.scheduleCheck.lfr.tx.framer = .normal
      ∧ w.scheduleCheck.lfr.rx = s.lfr.rx ∧ w.scheduleCheck.lfr.tx.prof = s.lfr.tx.switched.prof := by
    rw [hcheck]
    exact ⟨congrArg Work.acts hwidle.work, rfl, hwn, hwrx, hwprof⟩
  generalize w.scheduleCheck = z at hz hpend hb
  obtain ⟨hzacts, hzstu, hzn, hzrx, hzprof⟩ := hz
  obtain ⟨⟨⟨m4, v4, d4, e4, hytx, -⟩, hyrx, -⟩, hyidle⟩ := State.finishWork_before hzacts (by rw [hzstu]; exact hwidle.queue)
    (by rw [hzstu]; exact hwidle.released)
  generalize z.finishWork = y at hytx hyrx hyidle hb
  have hyn : y.lfr.tx.framer = .normal := by rw [hytx]; exact hzn
  rw [hkeep y hyn (hyrx.trans hzrx)] at hb
  obtain ⟨x, hend, h1, -, -, h4, -, h6, -⟩ := exec_build_ends hs hb hyidle
  refine ⟨x, hend, h1.trans hyn, ?_, ?_⟩
  · rw [h4, hytx]
    exact hzprof
  · rw [h6, hytx, ← hpend]

end Sys2Proof.Machine
end

section
/-! PROOFS. Every frame built, by the map and the owners' state (R20 to R32, R50). -/

namespace Sys2Proof.Machine

/-- With the transmit framer OFF nothing is built (R21). -/
theorem build_off {s : State} (hold : Bool) (hs : s.lineBusy) (hoff : s.lfr.tx.framer = .off) (hq : s.stu.queue = [])
    (hperiod : s.lfr.tx.periodDue = false) (hlate : s.stu.lateRelease = false) :
    exec (.txFrameBuild hold) s = .next { s with pins.carriageHold := hold, lfr.tx.due := false } := by
  generalize ht : ({ s with pins.carriageHold := hold, lfr.tx.due := false } : State) = t
  have hbusy : t.lineBusy := by rw [← ht]; exact hs
  have hidle : t.finishWork = t := State.finishWork_idle hbusy.1.1 hbusy.1.2.1
  have hdrain : t.drainRun = t := by
    have hrelease : t.settleRelease = t := if_neg (by rw [← ht]; simp [hlate])
    unfold State.drainRun
    rw [Stu.active_empty (by rw [← ht]; exact hq)]
    exact hrelease
  have hend : t.periodEnd = t := if_neg (by rw [← ht]; simp [hperiod])
  have hsettle : t.settleTx = t := by
    unfold State.settleTx
    rw [hdrain, hidle]
    dsimp only
    rw [hend, hidle]
  have hbuild : s.build hold = t := by
    unfold State.build
    dsimp only
    rw [ht, hsettle]
    exact if_pos (by rw [← ht]; exact hoff)
  show Host.Outcome.next (s.build hold).close = _
  rw [hbuild]
  exact congrArg Host.Outcome.next (State.close_lineBusy hbusy)

/-- The fallback condition (R29). -/
theorem State.fallbackCond_iff (s : State) : s.fallbackCond = true ↔
    (s.lfr.rx.framer ≠ .up ∧ s.lfr.rx.framer ≠ .flywheel) ∨ ∀ p, s.lfr.rx.peer = some p → p.state < 2 ∨ p.halted = true := by
  unfold State.fallbackCond RxFramer.carries
  cases s.lfr.rx.peer with
  | none => simp
  | some p => simp

/-- A frame of NORMAL, by what is pending (R27, R50). -/
theorem build_switches {s : State} (hs : s.calm) (hq : s.stu.queue = []) (hold : Bool) (hf : s.lfr.tx.framer = .normal)
    (hc : s.fallbackCond = false) : ∃ t, exec (.txFrameBuild hold) s = .next t
      ∧ t.lfr.tx.framer = .normal
      ∧ (∀ w, s.lfr.tx.pend = some w → w.carried = false →
        t.lfr.tx.pend = some { w with carried := true } ∧ t.lfr.tx.prof = s.lfr.tx.prof)
      ∧ (∀ w, s.lfr.tx.pend = some w → w.carried = true → w.count ≠ 1 →
        t.lfr.tx.pend = some { w with count := w.count - 1 } ∧ t.lfr.tx.prof = s.lfr.tx.prof)
      ∧ (∀ w, s.lfr.tx.pend = some w → w.carried = true → w.count = 1 → t.lfr.tx.pend = none ∧ t.lfr.tx.prof = w.target)
      ∧ (s.lfr.tx.pend = none → s.lfr.tx.switching = true → t.lfr.tx.pend = none ∧ t.lfr.tx.prof = s.lfr.tx.prof)
      ∧ ∀ p w, s.lfr.tx.pend = none → s.lfr.tx.switching = false → s.lfr.rx.peer = some p → p.wish = some w →
        t.lfr.tx.prof = s.lfr.tx.prof ∧ t.lfr.tx.pend = (if min w (min s.lau.ceiling (s.lfr.tx.prof + 1)) = s.lfr.tx.prof
          then none else some ⟨min w (min s.lau.ceiling (s.lfr.tx.prof + 1)), 8, true⟩) := by
  obtain ⟨t, hend, hframer, hprof, hpend⟩ := build_normal hs hq hold hf hc
  have hwaits {w : TxSwitch} (hw : s.lfr.tx.pend = some w) (hno : ¬ (w.carried = true ∧ w.count = 1)) :
      t.lfr.tx.pend = some w.sent ∧ t.lfr.tx.prof = s.lfr.tx.prof := by
    rw [LfrTx.switched_none (fun v hv => by rw [hw] at hv; cases hv; exact hno)] at hprof hpend
    rw [if_neg (by simp [hw]), hw] at hpend
    exact ⟨hpend, hprof⟩
  have hnone (h : s.lfr.tx.pend = none) : s.lfr.tx.switched = s.lfr.tx :=
    LfrTx.switched_none fun v hv => by rw [h] at hv; cases hv
  refine ⟨t, hend, hframer, fun w hw hcarried => ?_, fun w hw hcarried hcount => ?_, fun w hw hcarried hcount => ?_,
    fun hw hswitching => ?_, fun p w hw hswitching hp hwish => ?_⟩
  · have hsent := hwaits hw (by simp [hcarried])
    rwa [show w.sent = { w with carried := true } from if_neg (by simp [hcarried])] at hsent
  · have hsent := hwaits hw (by simp [hcount])
    rwa [show w.sent = { w with count := w.count - 1 } from if_pos hcarried] at hsent
  · rw [LfrTx.switched_some hw ⟨hcarried, hcount⟩] at hprof hpend
    rw [if_neg (by simp)] at hpend
    exact ⟨hpend, hprof⟩
  · rw [hnone hw] at hprof hpend
    rw [if_neg (by simp [hswitching]), hw] at hpend
    exact ⟨hpend, hprof⟩
  · have hpeer : s.lfr.rx.peerWish = w := by simp [LfrRx.peerWish, hp, hwish]
    rw [hnone hw] at hprof hpend
    rw [hpeer] at hpend
    refine ⟨hprof, hpend.trans ?_⟩
    by_cases htarget : min w (min s.lau.ceiling (s.lfr.tx.prof + 1)) = s.lfr.tx.prof
    · rw [if_pos htarget, if_neg (by simp [htarget]), hw]
      rfl
    · rw [if_neg htarget, if_pos ⟨hw, hswitching, htarget⟩]
      rfl

/-- Settles O35: the work of the event is done before the frame is sent, so the frame's segments and blocks are those of the
state it leaves; and each move of the transmit framer with no run in the queue. -/
theorem frameBuiltByMap : Obligations.FrameBuiltByMap := by
  unfold Obligations.FrameBuiltByMap
  refine ⟨fun s hold hs hoff hq hperiod hlate => build_off hold hs hoff hq hperiod hlate, fun s hold hs hruns hon => ?_,
    fun s hold hs hq => ⟨State.fallbackCond_iff s, build_falls hs hq hold, build_returns hs hq hold, build_halted hs hq hold,
      build_switches hs hq hold⟩⟩
  obtain ⟨u, t, hend, hhold, hno, q, c, p, r, v, m, ht⟩ := frame_agrees hold hs hruns hon
  obtain ⟨hlen, hshape, howner, hidle⟩ := State.frame_blocks u
  have hecho := State.echo_eq u
  refine ⟨t, u.frame, hend, ?_⟩
  rw [ht]
  refine ⟨rfl, State.header_crcOk u, serviceBytes_crcOk _, ?_, rfl, rfl, hlen, hshape, fun h => howner (hhold.trans h),
    fun h => hidle (hhold.trans h), ?_⟩
  · have hfield : slice u.header 5 2 = le 2 u.lfr.tx.frameNo.toNat := u.header_slice 3 rfl rfl rfl (by decide)
    show readLe (slice u.header 5 2) = _
    rw [hfield, hno]
    exact readLe_le 2 _ s.lfr.tx.frameNo.isLt
  · intro x rx counts echo receive
    have hsame : u.echo = echo := hecho
    have hflags : headerFlags ((u.il.link.map (·.hub)).getD false) u.lfr.rx.framer.headerCode x.fallback
        (decide (x.framer = .halted)) u.echo.isSome u.lfr.tx.hold = ((u.il.link.map (·.hub)).getD false).toNat + 2 * receive
          + 8 * x.fallback.toNat + 16 * (decide (x.framer = .halted)).toNat + 32 * echo.isSome.toNat + 64 * hold.toNat := by
      rw [hsame, hhold, RxFramer.headerCode_eq]
      rfl
    have hnext : (match u.lfr.tx.pend with | some w => nextByte w.target w.count | none => 0) =
        (match u.lfr.tx.pend with | some w => w.target + 8 * w.count | none => 0) := rfl
    refine ⟨u.header_slice 0 rfl rfl rfl (by decide), u.header_slice 1 rfl rfl rfl (by decide),
      (u.header_slice 2 rfl rfl rfl (by decide)).trans (congrArg e1 hflags), u.header_slice 4 rfl rfl rfl (by decide),
      (u.header_slice 5 rfl rfl rfl (by decide)).trans (congrArg e1 hnext), u.header_slice 6 rfl rfl rfl (by decide),
      u.header_slice 7 rfl rfl rfl (by decide), u.header_slice 8 rfl rfl rfl (by decide),
      u.header_slice 9 rfl rfl rfl (by decide), (u.header_slice 10 rfl rfl rfl (by decide)).trans ?_,
      u.header_slice 11 rfl rfl rfl (by decide), u.header_slice 12 rfl rfl rfl (by decide),
      u.header_slice 13 rfl rfl rfl (by decide), (u.header_slice 14 rfl rfl rfl (by decide)).trans ?_⟩
    · show MapCounts.header _ = (match u.lfr.tx.mpend with | some p => counts p.counts | none => [0, 0, 0, 0, 0])
      cases u.lfr.tx.mpend <;> rfl
    · rw [hsame] <;> rfl

end Sys2Proof.Machine
end
